-- ==== Sys2Proof/Word.lean ====
section
/-! DEFINITION. The wire words of the station bus (spec 3.11) and the widths of the converters (R59, R120).
Everything the manual counts (gps, nets, times, currents) is a `Nat` in the machine; a `BitVec` stands only
where the manual gives a field of a frame, a strap, or a converter code. -/

namespace Sys2Proof

/-- One payload byte of a frame. -/
abbrev Byte := BitVec 8

/-- A node address on the station bus, five bits (spec 00, "Bus addresses"). -/
abbrev Addr := BitVec 5

/-- A two-byte payload field: a gp, an effective net, a run number, a current, a cursor. -/
abbrev Half := BitVec 16

/-- A four-byte payload field: an insulation resistance, an elapsed time. -/
abbrev Wide := BitVec 32

/-- A 12-bit converter code: the sense converter (R59) and HVMON (R120). -/
abbrev Code12 := BitVec 12

/-- The 37-bit value field of the arbitration region (spec 3.11, bits 5 to 41). -/
abbrev Value := BitVec 37

end Sys2Proof
end

