-- ==== Sys2Proof/Syntax.lean ====
section
/-! DEFINITION. The commands of the station: one constructor of `Instr` for each row of spec/opcode_table.json,
with the operands the rules read (log entry 2). Fields of frames have the widths of spec 3.11; what a converter,
a strap or a line tells the station comes as an operand of the command that reads it. -/

namespace Sys2Proof

/-- The strap pins, read once at power-up (R57). -/
structure Straps where
  adr : Addr
  /-- high: 1 Mbit/s -/
  rate : Bool
  /-- high: an HV source is fitted -/
  hvsrc : Bool
  /-- high: adapter blocks are identified by detection -/
  autodet : Bool
deriving DecidableEq, Repr

/-- Source and destination of a frame (spec 3.11). -/
structure Route where
  src : Addr
  dst : Addr
deriving DecidableEq, Repr

/-- Source, destination and tag of a REQUEST frame (R168). -/
structure Header where
  src : Addr
  dst : Addr
  tag : Byte
deriving DecidableEq, Repr

/-- The payload of a frame, one constructor per frame kind, fields as spec 3.11 "Payloads" lays them out.
The value field of the arbitration region follows from it: gp, net or print key, else 0. -/
inductive Payload where
  | abort
  | drive (gp net : Half)
  | ref (gp code : Half) (flags : Byte)
  | net (n : Half)
  | result (net : Half) (verdict : Byte) (v i : Half) (ir ms : Wide)
  | sourceReady (run : Half)
  | halted (gp : Half) (watch : Byte)
  | request (code tag : Byte) (args : List Byte)
  | reply (code tag : Byte) (data : List Byte)
  | refused (code tag reason : Byte) (selector : Half)
  | data (code tag : Byte) (cursor : Half) (item : List Byte)
  | answerEnd (code tag : Byte) (count : Half) (mark : Byte)
  | notice (status : Half) (runState : Byte)
  | credit (count : Byte)
  | line (key : Value) (text : List Byte)
  | summary (run : Half) (runState whereKind : Byte) (whereValue : Half) (lost : Byte) (grades : List Byte)
deriving DecidableEq, Repr

/-- A frame as its sender means it: source, destination and payload. -/
structure Frame where
  src : Addr
  dst : Addr
  payload : Payload
deriving DecidableEq, Repr

/-- A frame as its bits were seen on the bus, field by field (spec 3.11, "Frame format"). -/
structure RawFrame where
  cls : BitVec 3
  value : Value
  src : Addr
  kind : BitVec 5
  dst : Addr
  len : BitVec 6
  payload : List Byte
  crc : BitVec 16
deriving DecidableEq, Repr

/-- The arguments of RUN PARAMETERS in the argument layout of spec 3.11. -/
structure ParamArgs where
  l : Half
  h : Half
  n : Byte
  s : Byte
  stepLimit : Half
  sweep : Byte
  insulation : Byte
  volt : Half
  profile : Byte
  dwell : Half
  w : Byte
  mode : Byte
  trip : Half
  irMin : Wide
  summary : Byte
  page : Byte
deriving DecidableEq, Repr

/-- One slot of SET WATCH: flags (bit 0 present, bit 1 halt) and gp (spec 3.11). -/
structure WatchArg where
  flags : Byte
  gp : Half
deriving DecidableEq, Repr

/-- The conversions of one point in a sampling pass, in order. In the operand of SAMPLING_PASS_COMPLETE a point
that is not listed, and a conversion beyond the list, read code 0 (log entry 14: a notation, so that a
pass of 256 points need not be written out). -/
structure Reading where
  index : Nat
  codes : List Code12
deriving DecidableEq, Repr

/-- The codes of the eight adapter ID inputs (R11, R12), block 0 first. -/
abbrev IdCodes := Vector Byte 8

/-- The commands. A frame command is a clean frame taken at its frame end (R42); a request command is a clean
REQUEST frame of that kind; an expiry command stands for the moment its timer reaches its limit. -/
inductive Instr where
  /-- POWER_UP (R57): the straps, and the HOLD, LIVE and ESTOP levels seen at that moment. -/
  | powerUp (straps : Straps) (hold live estop : Bool)
  /-- HELD_FRAME (R58): a clean frame taken in HELD; `ids` are the ID inputs, read at release (R12). -/
  | heldFrame (f : Frame) (ids : IdCodes)
  /-- ESTOP_ASSERTED (R33). -/
  | estopAsserted
  /-- ESTOP_RELEASED (R34). -/
  | estopReleased
  /-- HOLD_SEEN_ASSERTED (R77). -/
  | holdSeenAsserted
  /-- HOLD_SEEN_RELEASED (R54): `busy` tells whether a frame whose frame end is still to come is in progress on the bus
  at this moment (R56). -/
  | holdSeenReleased (busy : Bool)
  /-- LIVE_SEEN_ASSERTED (R29). -/
  | liveSeenAsserted
  /-- LIVE_SEEN_RELEASED (R30). -/
  | liveSeenReleased
  /-- BEGIN_FRAME (R44): a moment at which the station may begin a frame. -/
  | beginFrame
  /-- FRAME_ERR (R45): a frame whose ERR slot was seen dominant, with its fields as seen. -/
  | frameErr (seen : RawFrame)
  /-- OTHER_CLEAN_FRAME (R52): a clean frame delivered to no block. -/
  | otherCleanFrame (f : Frame)
  /-- BID_WINDOW_EXPIRED (R56). -/
  | bidWindowExpired
  /-- ABORT (R86). -/
  | abort (r : Route)
  /-- DRIVE_FRAME (R93). -/
  | driveFrame (r : Route) (gp net : Half)
  /-- REF_FRAME (R102): flag bit 0 is the weak flag. -/
  | refFrame (r : Route) (gp code : Half) (flags : Byte)
  /-- NET_FRAME (R116): `othersVeto` tells whether another station drove the VETO slot. -/
  | netFrame (r : Route) (n : Half) (othersVeto : Bool)
  /-- RESULT_FRAME (R132). -/
  | resultFrame (r : Route) (net : Half) (verdict : Byte) (v i : Half) (ir ms : Wide)
  /-- SOURCE_READY (R79). -/
  | sourceReady (r : Route) (run : Half)
  /-- HALTED (R99). -/
  | halted (r : Route) (gp : Half) (watch : Byte)
  /-- CREDIT (R151). -/
  | credit (r : Route) (count : Byte)
  /-- LINE (R158): print key and text. -/
  | line (r : Route) (key : Value) (text : List Byte)
  /-- DATA_FRAME (R174). -/
  | dataFrame (r : Route) (code tag : Byte) (cursor : Half) (item : List Byte)
  /-- END_FRAME (R174). -/
  | endFrame (r : Route) (code tag : Byte) (count : Half) (mark : Byte)
  /-- DELAYED_REQUEST_SERVICE (R174). -/
  | delayedRequestService
  /-- ASSIGN_NET (R7). -/
  | assignNet (h : Header) (gp net : Half) (role : Byte)
  /-- ASSIGN_RANGE (R8). -/
  | assignRange (h : Header) (first last net : Half) (stp role : Byte)
  /-- CLEAR_TABLE (R9). -/
  | clearTable (h : Header)
  /-- SET_BLOCKS (R15). -/
  | setBlocks (h : Header) (kinds : Vector Byte 8) (allowed : Byte)
  /-- RUN_PARAMETERS (R73). -/
  | runParameters (h : Header) (a : ParamArgs)
  /-- PROFILE_SEGMENT (R122). -/
  | profileSegment (h : Header) (index level : Byte) (duration : Half)
  /-- PROFILE_LENGTH (R122). -/
  | profileLength (h : Header) (length : Byte)
  /-- START_RUN (R76): `ids` are the ID inputs, read by the detection of PREPARE (R12). -/
  | startRun (h : Header) (number : Half) (ids : IdCodes)
  /-- CONTINUE (R100). -/
  | continueRun (h : Header)
  /-- SET_WATCH (R171). -/
  | setWatch (h : Header) (w1 w2 : WatchArg)
  /-- SET_SWITCH (R39). -/
  | setSwitch (h : Header) (gp : Half) (target : Byte)
  /-- MATRIX_OVERRIDE_FLOAT (R36). -/
  | matrixOverrideFloat (h : Header)
  /-- MATRIX_OVERRIDE_RETURN (R37). -/
  | matrixOverrideReturn (h : Header)
  /-- MATRIX_OVERRIDE_OFF (R38). -/
  | matrixOverrideOff (h : Header)
  /-- PRINT (R152). -/
  | print (h : Header)
  /-- STOP_PRINT (R153). -/
  | stopPrint (h : Header)
  /-- QUERY_POINT (R175). -/
  | queryPoint (h : Header) (gp : Half)
  /-- DUMP_POINTS (R175). -/
  | dumpPoints (h : Header) (first last : Half)
  /-- DUMP_DEFECTS (R176). -/
  | dumpDefects (h : Header)
  /-- QUERY_STATUS (R172). -/
  | queryStatus (h : Header) (part : Byte)
  /-- CLEAR_EVENTS (R180). -/
  | clearEvents (h : Header) (bits : Half)
  /-- SET_NOTICE_MASK (R180). -/
  | setNoticeMask (h : Header) (bits : Half)
  /-- CANCEL (R177). -/
  | cancel (h : Header)
  /-- RESET_RUN (R183): `ids` are read only where the reset releases the station from HELD (R12). -/
  | resetRun (h : Header) (ids : IdCodes)
  /-- RESET_FULL (R183): `ids` are the ID inputs its detection reads (R12). -/
  | resetFull (h : Header) (ids : IdCodes)
  /-- UNKNOWN_REQUEST (R169): request code and argument bytes as received. -/
  | unknownRequest (h : Header) (code : Byte) (args : List Byte)
  /-- STEP_TIMEOUT (R85). -/
  | stepTimeout
  /-- STALL_TIMER_EXPIRY (R162). -/
  | stallTimerExpiry
  /-- SUMMARY_TIMER_EXPIRY (R181). -/
  | summaryTimerExpiry
  /-- BREAK_TIME_END (R24): the local indices whose break time ends at this moment. -/
  | breakTimeEnd (points : List Nat)
  /-- SETTLE_TIME_END (R24): the local indices whose settle time ends at this moment. -/
  | settleTimeEnd (points : List Nat)
  /-- SETTLE_WAIT_END (R95). -/
  | settleWaitEnd
  /-- CALIBRATION_COMPLETE (R61): the eight signed codes of the reference channel. -/
  | calibrationComplete (codes : Vector Code12 8)
  /-- SAMPLING_PASS_COMPLETE (R96): the conversions of the pass. -/
  | samplingPassComplete (readings : List Reading)
  /-- RAMP_MILLISECOND (R123): the leakage sample and the HVMON code of the millisecond. -/
  | rampMillisecond (sample : Half) (monitor : Code12)
  /-- RAMP_END (R123). -/
  | rampEnd
  /-- CHECK_READING (R125): the leakage sample and the HVMON code of the millisecond. -/
  | checkReading (sample : Half) (monitor : Code12)
  /-- UNDERVOLT (R125). -/
  | undervolt
  /-- DWELL_MILLISECOND (R126): the leakage sample and the HVMON code of the millisecond. -/
  | dwellMillisecond (sample : Half) (monitor : Code12)
  /-- DWELL_END (R126): the HVMON code at the end of the dwell. -/
  | dwellEnd (monitor : Code12)
  /-- DISCHARGE_READING (R128): the HVMON code of the millisecond. -/
  | dischargeReading (monitor : Code12)
  /-- DISCHARGE_FAULT (R128). -/
  | dischargeFault
  /-- FOLLOWING_READING (R129): the HVMON code of the millisecond. -/
  | followingReading (monitor : Code12)
  /-- BUS_INTEGRATION (R41). -/
  | busIntegration
deriving DecidableEq, Repr

end Sys2Proof
end

