-- ==== Sys2Proof/Decode.lean ====
section
/-! DEFINITION. The decoder the interface asks for. No row of spec/opcode_table.json has bits, so no word spells a
command (log entry 29): commands reach the station as events, and the bits of a frame are the subject of
Machine/Layouts.lean. -/

namespace Sys2Proof

/-- The command a word spells by the table's bits: none, since the table gives no row any bits. -/
def decodeTableWord (_nbits _w : Nat) : Option Instr := none

end Sys2Proof
end

