-- ==== Sys2Proof/Config.lean ====
section
/-! DEFINITION. The constants the manual fixes for the device. There is no free value here: every input the manual
leaves to the outside (converter codes, ID codes, line levels, strap pins) is an operand of the command that
brings it, and the manual leaves no result of the device open (log entry 15). -/

namespace Sys2Proof.Config

/-- Test points of one station (spec 00). -/
def pointCount : Nat := 256
/-- Adapter blocks of one station (R10). -/
def blockCount : Nat := 8
/-- Points of one adapter block (spec 00). -/
def blockPoints : Nat := 32
/-- The highest global point number (spec 00). -/
def maxGp : Nat := 6143
/-- The highest assigned net (R1). -/
def maxNet : Nat := 4095
/-- The pseudo-net of gp is `pseudoBase + gp` (R2). -/
def pseudoBase : Nat := 4096
/-- The first address that is no station address: 24..31 is a strap fault (R57). -/
def firstNonStation : Nat := 24
/-- The general-call destination (spec 00). -/
def generalCall : Addr := 31
/-- The two console addresses (spec 00). -/
def consoleA : Addr := 28
/-- The second console address (spec 00). -/
def consoleB : Addr := 29
/-- The printer adapter's address (spec 00). -/
def printerAddr : Addr := 30
/-- A consecutive-error count of 8 silences the station (R49). -/
def silentAt : Nat := 8
/-- A payload holds at most 48 bytes (spec 3.11). -/
def maxPayload : Nat := 48
/-- The capacity of the Defect List (R138). -/
def defectCapacity : Nat := 512
/-- The lost count and the printed-defect-line count saturate here (R138, R150). -/
def countLimit : Nat := 65535
/-- A resistance of 65535 means OVER (R67). -/
def overR : Nat := 65535
/-- A reference code below this is weak (R64, R66). -/
def weakBelow : Nat := 2048
/-- The highest code of the sense converter (R59). -/
def maxCode : Nat := 4095
/-- LIVE is held while the monitor code exceeds this discharge limit (R120, R128). -/
def dischargeCode : Nat := 76
/-- The last discharge reading, in ms after the drop of HVEN (R128). -/
def dischargeLimit : Nat := 2000
/-- The last check reading, in ms after the ramp's end (R125). -/
def checkLimit : Nat := 50
/-- The stall timer's limit in ms (R162). -/
def stallLimit : Nat := 10000
/-- The summary interval in ms (R181). -/
def summaryLimit : Nat := 1000
/-- The highest page number (R150). -/
def maxPage : Nat := 9999
/-- The highest insulation resistance in MΩ (R127). -/
def maxIr : Nat := 999999
/-- User segments of the profile table (R119). -/
def segmentCount : Nat := 16
/-- The break time in ms (R22, R26). -/
def breakMs : Nat := 1

end Sys2Proof.Config
end

