-- ==== Sys2Proof/Machine/State.lean ====
section
/-! DEFINITION. The state of one station: plain data, every piece of state the manual names, each held once.
The groups are the manual's blocks (spec 00, "Block overview"). What can be computed from these fields is
not stored beside them: effective nets (R2), the relay image (R22, R24), class counts (R148), the effective
isolate limit (R68), the DAC code (R120). -/

namespace Sys2Proof.Machine

/-- No command stops the machine with a fault: the manual describes no state in which the device stops, and
what it calls a fault (R46, R57, R87) is an event of the state. Safe: there is nothing a claim could lean on. -/
inductive Fault where
deriving DecidableEq, Repr

/-- A command without a meaning. -/
inductive Refusal where
  /-- Raised by an arm of `exec` whose command has no meaning yet, and by nothing else. Safe: the machine stops
  where the device goes on. No arm of this model raises it. -/
  | notModelled (mnemonic : String)
deriving DecidableEq, Repr

/-! ## Point Table (R1) -/

/-- How a point takes part in jobs (R5). -/
inductive Role where
  | signal | senseOnly | excluded
deriving DecidableEq, Repr

/-- The switch states (R22): the relay closed, or none. -/
inductive Switch where
  | float | sense | drive | hv | ret
deriving DecidableEq, Repr

/-- The stage of a change of state (R24, R25, R29). -/
inductive Stage where
  /-- at rest: the relay of the switch state is closed -/
  | rest
  /-- held before its start: the HV relay is closed -/
  | deferred
  /-- break time: every relay of the point is open -/
  | brk
  /-- held before its close into HV: every relay of the point is open -/
  | waitLive
  /-- settle time of `ms`, taken at the close (R26), with the relay of `closed` closed -/
  | settle (closed : Switch) (ms : Nat)
deriving DecidableEq, Repr

/-- The class of a reading (R69). -/
inductive Class where
  | connected | isolated | marginal
deriving DecidableEq, Repr

/-- A classification: class and resistance in 0.1 Ω (R1, R67). -/
structure LastReading where
  cls : Class
  r : Nat
deriving DecidableEq, Repr

/-- A point record (R1), with the stage of its change in progress (R24). -/
structure Point where
  net : Nat
  role : Role
  switch : Switch
  pending : Option Switch
  stage : Stage
  driven : Bool
  leader : Option Nat
  last : Option LastReading
deriving DecidableEq, Repr

/-- A point record at power-up (R1). -/
def Point.powerUp : Point :=
  { net := 0, role := .signal, switch := .float, pending := none, stage := .rest
    driven := false, leader := none, last := none }

/-! ## Block Detector (R10) -/

/-- The adapter kinds (R10). -/
inductive Kind where
  | none | std16 | std32 | hv16 | hv32
deriving DecidableEq, Repr

/-- The band of an ID code (R11): a kind, or INVALID. -/
inductive Band where
  | kind (k : Kind)
  | invalid
deriving DecidableEq, Repr

/-- A block record (R10). The fitted count and the rating follow from the kind in force. -/
structure Block where
  code : Option Nat
  band : Option Band
  kind : Kind
deriving DecidableEq, Repr

/-- The allowed set: any subset of the four adapter kinds (R13). -/
structure KindSet where
  std16 : Bool
  std32 : Bool
  hv16 : Bool
  hv32 : Bool
deriving DecidableEq, Repr

/-- The Block Detector's state (R16). -/
structure Blocks where
  records : List Block
  allowed : KindSet
  manual : List Kind
deriving DecidableEq, Repr

/-! ## Matrix Controller (R28, R35) -/

/-- The override state (R35). -/
inductive Override where
  | none | float | ret
deriving DecidableEq, Repr

/-- Who requested a batch (R27). -/
inductive Requester where
  | stepEngine | insulationEngine | requestDecoder | matrix
deriving DecidableEq, Repr

/-- What a batch was requested for; it fixes the requester (R27) and what the report leads to. -/
inductive Purpose where
  /-- the PREPARE batch (R78) -/
  | prepare
  /-- the driven point to DRIVE (R94) -/
  | toDrive
  /-- the driven point back to SENSE (R101) -/
  | toSense
  /-- every point to FLOAT in the ending stage (R108) -/
  | endFloat
  /-- the switching batch of an insulation step (R117) -/
  | switching
  /-- the restoring batch (R132) -/
  | restoring
  /-- every point to FLOAT after a step without result (R133) -/
  | noResult
  /-- every point to FLOAT on entering COMPLETE (R82) -/
  | complete
  /-- every point to FLOAT at a run end (R83) -/
  | runEnd
  /-- SET SWITCH (R39) -/
  | manual
  /-- the admission check (R6) -/
  | admission
  /-- the RETURN override and its end (R37, R38) -/
  | override
deriving DecidableEq, Repr

/-- An outstanding batch (R28): its purpose and its outstanding points, by local index. -/
structure Batch where
  purpose : Purpose
  left : List Nat
deriving DecidableEq, Repr

/-- The Matrix Controller's own state (R40). -/
structure Matrix where
  batches : List Batch
  override : Override
deriving DecidableEq, Repr

/-! ## Sampling Engine (R60) -/

/-- The job of the converter (R59): free, calibrating, or sampling with the sample count N of the pass and, at the
driver, the gp of the driven point (R63, R64). -/
inductive Job where
  | free
  | calibrating
  | sampling (n : Nat) (driven : Option Nat)
deriving DecidableEq, Repr

/-- The reference code (R60, R64): the gp driven, ref′ and the weak flag. -/
structure RefCode where
  gp : Nat
  code : Nat
  weak : Bool
deriving DecidableEq, Repr

/-- The Sampling Engine's state (R60). -/
structure Sampler where
  job : Job
  offset : Int
  buffer : List (Option Nat)
  ref : Option RefCode
deriving DecidableEq, Repr

/-! ## Step Engine (R72) -/

/-- The run states (R72). -/
inductive RunState where
  | idle | prepare | sweep | insulate | complete | ended
deriving DecidableEq, Repr

/-- The current step (R72): none, a point with its driver, or a net. -/
inductive CurStep where
  | none
  | point (gp driver : Nat)
  | net (n : Nat)
deriving DecidableEq, Repr

/-- The condition of the step timer (R77); a suspension is by HALTED or by LIVE alone. -/
inductive TimerMode where
  | stopped
  | running
  | suspended (halt : Bool)
deriving DecidableEq, Repr

/-- The step timer (R77): condition, elapsed ms, and the step limit taken at its last restart. -/
structure StepTimer where
  mode : TimerMode
  elapsed : Nat
  limit : Nat
deriving DecidableEq, Repr

/-- The sweep stages (R88). -/
inductive SweepStage where
  | none | bidding | settling | sampling | halted | driveReleased | awaitingRef | classifying | stepReleased
  | ending | endReleased
deriving DecidableEq, Repr

/-- The insulation stages (R112). -/
inductive InsStage where
  | none | bidding | switching | switched | hvInterval | awaitingResult | restoring | restored
deriving DecidableEq, Repr

/-- A present watch slot (R97): gp and halt flag. It is armed where the station owns the gp. -/
structure Watch where
  gp : Nat
  halt : Bool
deriving DecidableEq, Repr

/-- The run state and the other state of R72, the stages of R88 and R112, and the watch slots of R97. -/
structure Run where
  state : RunState
  number : Nat
  /-- the run's phase settings (R72, R74) -/
  sweepOn : Bool
  insOn : Bool
  elected : Option Nat
  step : CurStep
  timer : StepTimer
  halt : Bool
  sweepStage : SweepStage
  /-- the drive net m of the step (R88) -/
  driveNet : Nat
  /-- the settle wait of R95 while it runs, with the 1 ms + S taken at the DRIVE frame end -/
  settleWait : Option Nat
  /-- the driver's batch of R94 has been reported complete (R95) -/
  driveDone : Bool
  insStage : InsStage
  watch1 : Option Watch
  watch2 : Option Watch
deriving DecidableEq, Repr

/-- The run parameters as stored (R73). -/
structure Params where
  l : Nat
  h : Nat
  n : Nat
  s : Nat
  stepLimit : Nat
  sweep : Bool
  insulation : Bool
  volt : Nat
  profile : Nat
  dwell : Nat
  w : Nat
  /-- PEAK mode; FINAL otherwise -/
  peak : Bool
  trip : Nat
  irMin : Nat
  summary : Bool
  page : Nat
deriving DecidableEq, Repr

/-- The default of every run parameter (R73). -/
def Params.defaults : Params :=
  { l := 20, h := 10000, n := 4, s := 5, stepLimit := 500, sweep := true, insulation := true, volt := 500
    profile := 1, dwell := 1000, w := 16, peak := false, trip := 20000, irMin := 100, summary := false, page := 60 }

/-! ## Net Map (R17) -/

/-- The insulation state of an entry (R17). -/
inductive InsState where
  | pending | barred | tested | vetoed
deriving DecidableEq, Repr

/-- Why an entry is barred (R17), and the reason of a NOT_TESTED record (R136). -/
inductive BarReason where
  | shorted | leakage | rating
deriving DecidableEq, Repr

/-- An entry of the Net Map (R17). -/
structure NetEntry where
  net : Nat
  count : Nat
  leader : Option Nat
  state : InsState
  reason : Option BarReason
deriving DecidableEq, Repr

/-! ## Insulation Engine (R119) -/

/-- A profile segment (R119): level in percent and duration in ms. -/
structure Segment where
  level : Nat
  ms : Nat
deriving DecidableEq, Repr

/-- The interval settings (R119). -/
structure HvSettings where
  volt : Nat
  segments : List Segment
  dwell : Nat
  w : Nat
  peak : Bool
  trip : Nat
  irMin : Nat
deriving DecidableEq, Repr

/-- The verdicts of a RESULT (spec 3.11). -/
inductive Verdict where
  | pass | insulationFail | breakdown | undervolt | dischargeFault
deriving DecidableEq, Repr

/-- The measured result (R119). -/
structure HvResult where
  verdict : Verdict
  v : Nat
  i : Nat
  ir : Nat
  ms : Nat
deriving DecidableEq, Repr

/-- The interval stages (R119). -/
inductive HvStage where
  | quiet | ramp | check | dwell | discharge | reporting | following
deriving DecidableEq, Repr

/-- The Insulation Engine's state (R119), with the counters its stages imply (R125, R126, R128). -/
structure Hv where
  elected : Bool
  segments : List Segment
  userLength : Nat
  stage : HvStage
  settings : Option HvSettings
  setpoint : Nat
  elapsed : Nat
  window : List Nat
  peak : Option Nat
  result : Option HvResult
  hven : Bool
  /-- t of the next check reading (R125) -/
  checkNext : Nat
  /-- highest voltage read in the check (R125) -/
  checkHigh : Nat
  /-- last leakage sample (R125) -/
  lastSample : Nat
  /-- Ed, the elapsed time at which the check ended (R126) -/
  dwellStart : Nat
  /-- t of the next discharge reading (R128) -/
  dischargeNext : Nat
deriving DecidableEq, Repr

/-! ## Defect List (R138) -/

/-- The causes of a run end (R84). -/
inductive Cause where
  | stepTimeout | aborted | estop | dischargeFault | busFault
deriving DecidableEq, Repr

/-- The where-field of a run end (R84, R136). -/
inductive Where where
  | prepare
  | point (gp : Nat)
  | net (n : Nat)
  | station (a : Nat)
deriving DecidableEq, Repr

/-- A defect record's class, fields A and B and body (R136). -/
inductive Defect where
  | opn (net gp : Nat)
  | highResistance (net gp r drive : Nat)
  | short (lo hi : Nat)
  | leakage (lo hi r : Nat)
  | driveFault (gp ref : Nat)
  | undriven (net : Nat)
  | insulationFail (net v i ir : Nat)
  | breakdown (net i ms : Nat)
  | undervolt (net v : Nat)
  | notTested (net : Nat) (reason : BarReason)
  | phaseSkipped
  | runEnd (cause : Cause) (loc : Where)
deriving DecidableEq, Repr

/-- The identity of a record: class order, key form of A, and B (R137). -/
structure Ident where
  order : Nat
  a : Nat
  b : Nat
deriving DecidableEq, Repr

/-- The print mark (R145). -/
inductive Mark where
  | unprinted | printed | suppressed
deriving DecidableEq, Repr

/-- A stored record (R136). -/
structure Record where
  what : Defect
  mark : Mark
deriving DecidableEq, Repr

/-- The Defect List (R138). -/
structure Defects where
  records : List Record
  lost : Nat
  lostMark : Mark
deriving DecidableEq, Repr

/-! ## Print Engine (R150) -/

/-- How the most recent pass ended (R150). -/
inductive PassEnd where
  | none | done | stopped | stalled | cut
deriving DecidableEq, Repr

/-- The Print Engine's state (R150). -/
structure Printer where
  pass : Bool
  outcome : PassEnd
  credit : Nat
  pageLength : Nat
  lineOn : Nat
  page : Nat
  printed : Nat
  footer : Nat
  /-- the stall timer: stopped, or running with its elapsed ms -/
  stall : Option Nat
deriving DecidableEq, Repr

/-! ## Request Decoder (R173, R178, R181) -/

/-- The kinds of delayed request (R173). -/
inductive Delayed where
  | queryPoint | dumpPoints | dumpDefects
deriving DecidableEq, Repr

/-- A delayed-request context in progress (R173). `sending` is the key of the entry in the DATA last formed, which
becomes the last key sent at that DATA's clean frame end (R176). `cancelled` is set once an END marked cancelled
has been queued (R176, R177). `formed` is set while a DATA formed for this context has not been taken clean: that DATA
counts for it at its clean frame end, and one left from an earlier context does not (R174; log entry 43). -/
structure Context where
  kind : Delayed
  tag : Byte
  requester : Addr
  cursor : Nat
  last : Nat
  lastKey : Option Ident
  sending : Option Ident
  sent : Nat
  cancelled : Bool
  formed : Bool
deriving DecidableEq, Repr

/-- The Request Decoder's state (R184). -/
structure Decoder where
  ctx : Option Context
  status : BitVec 12
  mask : BitVec 12
  /-- the summary timer: stopped, or its elapsed ms (R181) -/
  summary : Option Nat
deriving DecidableEq, Repr

/-! ## Bus Controller (R43, R49, R56, R58) and lines (R53) -/

/-- An entry of the transmit slot (R43): the pending frame, whether it has begun, whether its withdrawal was called for
after it had begun, and the frame held beside it. `recalled` marks a begun frame that a withdrawal of frames not begun
(R174, R181) has passed over: the frame goes should the frame end show that it had lost arbitration and was pending again
by then (R44; log entry 8); should it have drawn ERR, the mark does not bear on it (log entry 48). -/
structure TxEntry where
  frame : Frame
  begun : Bool
  doomed : Bool
  beside : Option Frame
  recalled : Bool := false
deriving DecidableEq, Repr

/-- The bid window test (R56): off, or running; `passOver` while a frame that was in progress at the mark has not
ended yet. -/
inductive Window where
  | off
  | running (passOver : Bool)
deriving DecidableEq, Repr

/-- The Bus Controller's state. -/
structure Bus where
  held : Bool
  resetCount : Nat
  integrated : Bool
  slot : List TxEntry
  errors : Nat
  silent : Bool
  window : Window
  /-- what the station drove in the ERR and VETO slots of the last frame (R46, R48) -/
  errDriven : Bool
  vetoDriven : Bool
deriving DecidableEq, Repr

/-- The backplane lines, own outputs and levels seen, and the ESTOP input (R53, R34). -/
structure Lines where
  holdOut : Bool
  holdSeen : Bool
  liveOut : Bool
  liveSeen : Bool
  estop : Bool
deriving DecidableEq, Repr

/-- One station. `pending` is the queue of waiting commands, the model's own field. -/
structure State where
  pending : List Instr
  straps : Straps
  bus : Bus
  lines : Lines
  points : List Point
  blocks : Blocks
  matrix : Matrix
  sampler : Sampler
  run : Run
  params : Params
  netMap : List NetEntry
  hv : Hv
  defects : Defects
  print : Printer
  decoder : Decoder
deriving DecidableEq, Repr

/-! ## Power-up (R57, and the power-up column of each block's table) -/

/-- The Bus Controller at power-up (R41, R43, R49, R58). -/
def Bus.powerUp : Bus :=
  { held := true, resetCount := 0, integrated := false, slot := [], errors := 0, silent := false
    window := .off, errDriven := false, vetoDriven := false }

/-- The Block Detector at power-up (R16). -/
def Blocks.powerUp : Blocks :=
  { records := List.replicate Config.blockCount { code := none, band := none, kind := .none }
    allowed := { std16 := true, std32 := true, hv16 := true, hv32 := true }
    manual := List.replicate Config.blockCount .none }

/-- The Sampling Engine at power-up (R60). -/
def Sampler.powerUp : Sampler :=
  { job := .free, offset := 0, buffer := List.replicate Config.pointCount none, ref := none }

/-- The Step Engine at power-up (R72, R88, R97, R112). R72 gives the step timer `stopped` alone: that the stopped timer holds
elapsed 0 and the default step limit is a DESIGN CHOICE (log entry 31); both are written at the timer's first restart. -/
def Run.powerUp : Run :=
  { state := .idle, number := 0, sweepOn := true, insOn := true, elected := none, step := .none
    timer := { mode := .stopped, elapsed := 0, limit := Params.defaults.stepLimit }
    halt := false, sweepStage := .none, driveNet := 0, settleWait := none, driveDone := false, insStage := .none
    watch1 := none, watch2 := none }

/-- The Insulation Engine at power-up (R119, R129). Without HVSRC there is nothing to follow. -/
def Hv.powerUp (hvsrc : Bool) : Hv :=
  { elected := false, segments := List.replicate Config.segmentCount { level := 0, ms := 0 }, userLength := 0
    stage := if hvsrc then .following else .quiet
    settings := none, setpoint := 0, elapsed := 0, window := [], peak := none, result := none, hven := false
    checkNext := 0, checkHigh := 0, lastSample := 0, dwellStart := 0, dischargeNext := 0 }

/-- The Defect List when cleared (R138, R147). -/
def Defects.empty : Defects := { records := [], lost := 0, lostMark := .unprinted }

/-- The Print Engine at power-up (R150). -/
def Printer.powerUp : Printer :=
  { pass := false, outcome := .none, credit := 0, pageLength := 60, lineOn := 0, page := 0, printed := 0
    footer := 0, stall := none }

/-- The Request Decoder at power-up (R184): every event masked. -/
def Decoder.powerUp : Decoder :=
  { ctx := none, status := 0, mask := BitVec.allOnes 12, summary := none }

/-- The station right after power-up, in HELD (R57, R58), with the straps read and the line levels seen. -/
def State.atPowerUp (straps : Straps) (hold live estop : Bool) : State :=
  { pending := [], straps := straps, bus := Bus.powerUp
    lines := { holdOut := false, holdSeen := hold, liveOut := false, liveSeen := live, estop := estop }
    points := List.replicate Config.pointCount Point.powerUp
    blocks := Blocks.powerUp
    matrix := { batches := [], override := .none }
    sampler := Sampler.powerUp, run := Run.powerUp, params := Params.defaults, netMap := []
    hv := Hv.powerUp straps.hvsrc, defects := Defects.empty, print := Printer.powerUp
    decoder := Decoder.powerUp }

/-- The machine right after reset: power-up in HELD. The straps (all low) and the lines (all released) are pins, to
which the manual gives no reset value: DESIGN CHOICE, unsafe, log entry 6. -/
def State.reset : State :=
  State.atPowerUp { adr := 0, rate := false, hvsrc := false, autodet := false } false false false

end Sys2Proof.Machine
end

