-- ==== Sys2Proof/Machine/Layouts.lean ====
section
/-! DEFINITION. The layouts of spec 3.11: byte order, kind codes, classes and lengths, the value field, payload bytes,
the CRC (R47), the faults of a frame (R46), the arbitration region (R44) and the code sets. -/

namespace Sys2Proof.Machine

/-! ## Byte order (3.2: most significant byte first) -/

/-- A number as one byte. -/
def byte (n : Nat) : Byte := BitVec.ofNat 8 n

/-- A yes/no field (spec 3.11, Codes). -/
def boolByte (b : Bool) : Byte := if b then 1 else 0

/-- A number as a two-byte field. -/
def half (n : Nat) : Half := BitVec.ofNat 16 n

/-- A number as a four-byte field. -/
def wide (n : Nat) : Wide := BitVec.ofNat 32 n

/-- The bytes of a two-byte field. -/
def halfBytes (x : Half) : List Byte := [byte (x.toNat / 256), byte (x.toNat % 256)]

/-- The bytes of a four-byte field. -/
def wideBytes (x : Wide) : List Byte :=
  [byte (x.toNat / 16777216), byte (x.toNat / 65536 % 256), byte (x.toNat / 256 % 256), byte (x.toNat % 256)]

/-- An address field of one byte. -/
def addrByte (a : Addr) : Byte := byte a.toNat

/-- A gp field, 65535 when absent (spec 3.11, Codes). -/
def gpField : Option Nat → Half
  | some g => half g
  | none => 65535

/-! ## Frame kinds (spec 3.11, Kinds) -/

/-- The kind code of a payload. -/
def kindCode : Payload → Nat
  | .abort => 1
  | .drive .. => 2
  | .ref .. => 3
  | .net .. => 4
  | .result .. => 5
  | .sourceReady .. => 6
  | .halted .. => 7
  | .request .. => 8
  | .reply .. => 9
  | .refused .. => 10
  | .data .. => 11
  | .answerEnd .. => 12
  | .notice .. => 13
  | .credit .. => 14
  | .line .. => 15
  | .summary .. => 16

/-- The class to which the kind table assigns a kind code; none for an unassigned code. -/
def classOfKind (k : Nat) : Option Nat :=
  if k = 1 then some 0
  else if 2 ≤ k ∧ k ≤ 7 then some 1
  else if k = 8 then some 2
  else if 9 ≤ k ∧ k ≤ 14 then some 3
  else if k = 15 then some 4
  else if k = 16 then some 5
  else none

/-- The shortest and longest payload the kind table allows a kind code. -/
def lengthsOfKind (k : Nat) : Nat × Nat :=
  match k with
  | 1 => (0, 0)
  | 2 => (4, 4)
  | 3 => (5, 5)
  | 4 => (2, 2)
  | 5 => (15, 15)
  | 6 => (2, 2)
  | 7 => (3, 3)
  | 8 => (2, 48)
  | 9 => (2, 48)
  | 10 => (5, 5)
  | 11 => (4, 48)
  | 12 => (5, 5)
  | 13 => (3, 3)
  | 14 => (1, 1)
  | 15 => (48, 48)
  | 16 => (12, 12)
  | _ => (0, 0)

/-- Whether the value field of a kind code carries something; else it is 0 (kind table). -/
def kindHasValue (k : Nat) : Bool := k = 2 || k = 4 || k = 15

/-- The value field of a payload (kind table). -/
def payloadValue : Payload → Value
  | .drive gp _ => BitVec.ofNat 37 gp.toNat
  | .net n => BitVec.ofNat 37 n.toNat
  | .line key _ => key
  | _ => 0

/-- The payload bytes (spec 3.11, Payloads). -/
def payloadBytes : Payload → List Byte
  | .abort => []
  | .drive gp net => halfBytes gp ++ halfBytes net
  | .ref gp code flags => halfBytes gp ++ halfBytes code ++ [flags]
  | .net n => halfBytes n
  | .result net verdict v i ir ms =>
      halfBytes net ++ [verdict] ++ halfBytes v ++ halfBytes i ++ wideBytes ir ++ wideBytes ms
  | .sourceReady run => halfBytes run
  | .halted gp watch => halfBytes gp ++ [watch]
  | .request code tag args => code :: tag :: args
  | .reply code tag data => code :: tag :: data
  | .refused code tag reason selector => [code, tag, reason] ++ halfBytes selector
  | .data code tag cursor item => [code, tag] ++ halfBytes cursor ++ item
  | .answerEnd code tag count mark => [code, tag] ++ halfBytes count ++ [mark]
  | .notice status runState => halfBytes status ++ [runState]
  | .credit count => [count]
  | .line _ text => text
  | .summary run runState whereKind whereValue lost grades =>
      halfBytes run ++ [runState, whereKind] ++ halfBytes whereValue ++ [lost] ++ grades

/-! ## CRC (R47) -/

/-- The bits of a field, most significant first (3.2). -/
def msbBits {w : Nat} (x : BitVec w) : List Bool :=
  (List.range w).map fun i => x.getLsbD (w - 1 - i)

/-- One bit through the CRC register with generator 0x1021 (R47). -/
def crcBit (reg : BitVec 16) (b : Bool) : BitVec 16 :=
  if reg.getLsbD 15 != b then (reg <<< 1) ^^^ 0x1021 else reg <<< 1

/-- The CRC of a bit sequence: the register starts at 0xFFFF (R47). -/
def crc16 (bits : List Bool) : BitVec 16 := bits.foldl crcBit 0xFFFF

/-- The bits the CRC covers, from the first class bit to the last payload bit (R47). -/
def coveredBits (r : RawFrame) : List Bool :=
  msbBits r.cls ++ msbBits r.value ++ msbBits r.src ++ msbBits r.kind ++ msbBits r.dst ++ msbBits r.len
    ++ (r.payload.map msbBits).flatten

/-! ## Frames as bits (R42, R44, R46) -/

/-- A frame as its transmitter puts it on the bus. -/
def rawOf (f : Frame) : RawFrame :=
  let bytes := payloadBytes f.payload
  let r : RawFrame :=
    { cls := BitVec.ofNat 3 ((classOfKind (kindCode f.payload)).getD 0), value := payloadValue f.payload
      src := f.src, kind := BitVec.ofNat 5 (kindCode f.payload), dst := f.dst
      len := BitVec.ofNat 6 bytes.length, payload := bytes, crc := 0 }
  { r with crc := crc16 (coveredBits r) }

/-- The arbitration region as a number: class, value, source, most significant first (R44). -/
def region (cls : Nat) (value : Value) (src : Addr) : Nat :=
  cls * 2 ^ 42 + value.toNat * 2 ^ 5 + src.toNat

/-- The arbitration region of a frame. -/
def frameRegion (f : Frame) : Nat :=
  region ((classOfKind (kindCode f.payload)).getD 0) (payloadValue f.payload) f.src

/-- The arbitration region of a frame as seen. -/
def rawRegion (r : RawFrame) : Nat := region r.cls.toNat r.value r.src

/-- A receiver's frame faults (R46): CRC, length above 48, a kind code unassigned or of another class, a length the
kind does not allow, a value where the kind has none. -/
def frameFault (r : RawFrame) : Bool :=
  r.crc != crc16 (coveredBits r)
    || decide (Config.maxPayload < r.len.toNat)
    || classOfKind r.kind.toNat != some r.cls.toNat
    || decide (r.len.toNat < (lengthsOfKind r.kind.toNat).1)
    || decide ((lengthsOfKind r.kind.toNat).2 < r.len.toNat)
    || (r.value != 0 && !kindHasValue r.kind.toNat)

/-- The bit times a frame with a payload of `l` bytes occupies (3.2). -/
def frameBitTimes (l : Nat) : Nat := 87 + 8 * l

/-! ## Code sets (spec 3.11, Codes) -/

def roleCode : Role → Nat
  | .signal => 0
  | .senseOnly => 1
  | .excluded => 2

def roleOfCode (b : Byte) : Option Role :=
  match b.toNat with
  | 0 => some .signal
  | 1 => some .senseOnly
  | 2 => some .excluded
  | _ => none

def switchCode : Switch → Nat
  | .float => 0
  | .sense => 1
  | .drive => 2
  | .hv => 3
  | .ret => 4

def switchOfCode (b : Byte) : Option Switch :=
  match b.toNat with
  | 0 => some .float
  | 1 => some .sense
  | 2 => some .drive
  | 3 => some .hv
  | 4 => some .ret
  | _ => none

def kindNumber : Kind → Nat
  | .none => 0
  | .std16 => 1
  | .std32 => 2
  | .hv16 => 3
  | .hv32 => 4

def kindOfNumber (b : Byte) : Option Kind :=
  match b.toNat with
  | 0 => some .none
  | 1 => some .std16
  | 2 => some .std32
  | 3 => some .hv16
  | 4 => some .hv32
  | _ => none

def bandCode : Option Band → Nat
  | none => 255
  | some .invalid => 5
  | some (.kind k) => kindNumber k

def allowedCode (a : KindSet) : Nat :=
  a.std16.toNat + 2 * a.std32.toNat + 4 * a.hv16.toNat + 8 * a.hv32.toNat

/-- The allowed set of an argument byte; none when a bit above bit 3 is set. -/
def allowedOfCode (b : Byte) : Option KindSet :=
  if b.toNat < 16 then
    some { std16 := b.getLsbD 0, std32 := b.getLsbD 1, hv16 := b.getLsbD 2, hv32 := b.getLsbD 3 }
  else none

def classCode : Class → Nat
  | .connected => 0
  | .isolated => 1
  | .marginal => 2

def insStateCode : InsState → Nat
  | .pending => 0
  | .barred => 1
  | .tested => 2
  | .vetoed => 3

def reasonCode : BarReason → Nat
  | .shorted => 1
  | .leakage => 2
  | .rating => 3

def overrideCode : Override → Nat
  | .none => 0
  | .float => 1
  | .ret => 2

def runStateCode : RunState → Nat
  | .idle => 0
  | .prepare => 1
  | .sweep => 2
  | .insulate => 3
  | .complete => 4
  | .ended => 5

def verdictCode : Verdict → Nat
  | .pass => 0
  | .insulationFail => 1
  | .breakdown => 2
  | .undervolt => 3
  | .dischargeFault => 4

def causeCode : Cause → Nat
  | .stepTimeout => 1
  | .aborted => 2
  | .estop => 3
  | .dischargeFault => 4
  | .busFault => 5

def markCode : Mark → Nat
  | .unprinted => 0
  | .printed => 1
  | .suppressed => 2

def hvStageCode : HvStage → Nat
  | .quiet => 0
  | .ramp => 1
  | .check => 2
  | .dwell => 3
  | .discharge => 4
  | .reporting => 5
  | .following => 6

def passEndCode : PassEnd → Nat
  | .none => 0
  | .done => 1
  | .stopped => 2
  | .stalled => 3
  | .cut => 4

/-- The request codes (spec 3.11, Codes). -/
def delayedCode : Delayed → Nat
  | .queryPoint => 15
  | .dumpPoints => 16
  | .dumpDefects => 17

/-- The refusal codes (spec 3.11, Codes). -/
inductive RefusalCode where
  | range | runActive | estop | notFitted | role | busy | noHalt
deriving DecidableEq, Repr

def refusalNumber : RefusalCode → Nat
  | .range => 1
  | .runActive => 2
  | .estop => 3
  | .notFitted => 4
  | .role => 5
  | .busy => 6
  | .noHalt => 7

/-! ## Print keys (spec 3.11, "Print key in the LINE value"; R137) -/

/-- The print key: order × 2³³ + A × 2¹⁹ + B × 2⁵ + station. -/
def printKey (order a b station : Nat) : Value :=
  BitVec.ofNat 37 (order * 2 ^ 33 + a * 2 ^ 19 + b * 2 ^ 5 + station)

def keyOrder (k : Value) : Nat := k.toNat / 2 ^ 33
def keyA (k : Value) : Nat := k.toNat / 2 ^ 19 % 2 ^ 14
def keyB (k : Value) : Nat := k.toNat / 2 ^ 5 % 2 ^ 14

/-- The identity part of a print key (R137). -/
def keyIdent (k : Value) : Ident := { order := keyOrder k, a := keyA k, b := keyB k }

end Sys2Proof.Machine
end

