-- ==== Sys2Proof/Machine/Ops.lean ====
section
/-! DEFINITION. The shared operations over the station's state: points and blocks, the transmit slot, the step timer and
the two backplane lines. -/

namespace Sys2Proof.Machine

/-! ## Addresses and points (spec 00, R2, R5, R10) -/

/-- The station address. -/
def addr (s : State) : Nat := s.straps.adr.toNat

/-- An address of 24..31 is a strap fault (R57). -/
def strapFault (s : State) : Bool := decide (Config.firstNonStation ≤ addr s)

/-- The gp of a local index. -/
def gpOf (s : State) (i : Nat) : Nat := addr s * Config.pointCount + i

/-- Whether the station owns a gp (spec 00). -/
def owns (s : State) (gp : Nat) : Bool := decide (gp / Config.pointCount = addr s)

/-- The local index of a gp at its owner. -/
def localOf (gp : Nat) : Nat := gp % Config.pointCount

/-- The record of a local index. -/
def pointAt (s : State) (i : Nat) : Point := s.points.getD i Point.powerUp

/-- Change the record of one local index. -/
def updatePoint (i : Nat) (f : Point → Point) (s : State) : State :=
  { s with points := s.points.modify i f }

/-- Change every record, by its local index. -/
def mapPoints (f : Nat → Point → Point) (s : State) : State :=
  { s with points := s.points.zipIdx.map fun q => f q.2 q.1 }

/-- Fitted points of a kind (R10). -/
def fittedCount : Kind → Nat
  | .none => 0
  | .std16 => 16
  | .std32 => 32
  | .hv16 => 16
  | .hv32 => 32

/-- Whether a kind is rated for the test voltage (R10). -/
def kindRated : Kind → Bool
  | .hv16 => true
  | .hv32 => true
  | _ => false

/-- The kind in force of a block (R10). -/
def blockKind (s : State) (b : Nat) : Kind :=
  (s.blocks.records.getD b { code := none, band := none, kind := .none }).kind

/-- Whether a point is fitted (R10). -/
def fitted (s : State) (i : Nat) : Bool :=
  decide (i % Config.blockPoints < fittedCount (blockKind s (i / Config.blockPoints)))

/-- Whether a point is on a rated block (R10). -/
def rated (s : State) (i : Nat) : Bool := kindRated (blockKind s (i / Config.blockPoints))

/-- The effective net of a record held at a local index (R2). -/
def effNetOf (s : State) (i : Nat) (p : Point) : Nat :=
  if p.net = 0 then Config.pseudoBase + gpOf s i else p.net

/-- The effective net of a local point (R2). -/
def effNet (s : State) (i : Nat) : Nat := effNetOf s i (pointAt s i)

/-- A sensable point: fitted, role SIGNAL or SENSE_ONLY (R63). -/
def sensable (s : State) (i : Nat) (p : Point) : Bool := fitted s i && p.role != .excluded

/-- The manual row of the role table (R5). -/
def admits (role : Role) (isFitted isRated : Bool) (t : Switch) : Bool :=
  if !isFitted then t == .float
  else
    match role, t with
    | _, .float => true
    | .excluded, _ => false
    | .senseOnly, .drive => false
    | _, .hv => isRated
    | _, _ => true

/-- Whether the manual row admits a state for a point as it is now. -/
def admitsPoint (s : State) (i : Nat) (p : Point) (t : Switch) : Bool :=
  admits p.role (fitted s i) (rated s i) t

/-- A change into or out of HV that is held back (R29): deferred, waiting for LIVE, or a retarget held in the settle
stage of a change into HV. -/
def heldBack (p : Point) : Bool :=
  match p.stage with
  | .deferred => true
  | .waitLive => true
  | .settle .hv _ => p.pending != some .hv
  | _ => false

/-- Whether a point counts as busy for the validation of requests (R4). -/
def busy (s : State) (p : Point) : Bool := s.lines.liveSeen && (p.switch == .hv || heldBack p)

/-- A run is active in PREPARE, SWEEP and INSULATE (R72). -/
def runActive (s : State) : Bool :=
  match s.run.state with
  | .prepare => true
  | .sweep => true
  | .insulate => true
  | _ => false

/-! ## The transmit slot (R43) -/

/-- The kind code of a slot entry. -/
def entryKind (e : TxEntry) : Nat := kindCode e.frame.payload

/-- The entry of a kind. -/
def slotEntry (s : State) (k : Nat) : Option TxEntry := s.bus.slot.find? fun e => entryKind e == k

/-- Whether a frame of the kind is pending, begun or not. -/
def hasPending (s : State) (k : Nat) : Bool := (slotEntry s k).isSome

/-- Put an entry in its kind's place; entries stand in the order of kind codes. -/
def insertEntry (e : TxEntry) (slot : List TxEntry) : List TxEntry :=
  slot.filter (fun x => decide (entryKind x < entryKind e)) ++ e ::
    slot.filter (fun x => decide (entryKind e < entryKind x))

/-- Queue a frame (R43): it replaces the pending one of its kind, or is held beside it when that one has begun. -/
def putFrame (f : Frame) (slot : List TxEntry) : List TxEntry :=
  match slot.find? fun e => entryKind e == kindCode f.payload with
  | some e =>
      if e.begun then insertEntry { e with beside := some f } slot
      else insertEntry { frame := f, begun := false, doomed := false, beside := none } slot
  | none => insertEntry { frame := f, begun := false, doomed := false, beside := none } slot

/-- A frame of this station. -/
def ownFrame (s : State) (dst : Addr) (p : Payload) : Frame := { src := s.straps.adr, dst := dst, payload := p }

/-- Replace the slot. -/
def setSlot (slot : List TxEntry) (s : State) : State := { s with bus := { s.bus with slot := slot } }

/-- Queue a frame of this station; a station in HELD or SILENT queues nothing (R43, R51, R58). -/
def queue (dst : Addr) (p : Payload) (s : State) : State :=
  if s.bus.held || s.bus.silent then s else setSlot (putFrame (ownFrame s dst p) s.bus.slot) s

/-- What a withdrawal makes of an entry (R43): one not begun goes; one that has begun runs to its frame end, and goes
should it then be pending again (R110; log entry 9). -/
def withdrawn (e : TxEntry) : Option TxEntry :=
  if e.begun then some { e with doomed := true, beside := none } else none

/-- Withdraw the pending frame of a kind (R43). -/
def withdraw (k : Nat) (s : State) : State :=
  setSlot (s.bus.slot.filterMap fun e => if entryKind e = k then withdrawn e else some e) s

/-- The withdrawal of frames not begun (R174, R181): a frame held beside a begun one goes with them, and the begun one is
marked, since it may have lost arbitration (R44; log entry 8). -/
def dropUnbegun (which : TxEntry → Bool) (slot : List TxEntry) : List TxEntry :=
  slot.filterMap fun e =>
    if !which e then some e
    else if e.begun then some { e with recalled := true, beside := e.beside.filter fun f => !which { e with frame := f } }
    else none

/-- Withdraw the frame of a kind only where it has not begun (R181). -/
def withdrawUnbegun (k : Nat) (s : State) : State := setSlot (dropUnbegun (fun e => entryKind e == k) s.bus.slot) s

/-- Withdraw every pending class 1 frame (R83): DRIVE, REF, NET, RESULT, SOURCE_READY, HALTED. -/
def withdrawClassOne (s : State) : State :=
  setSlot (s.bus.slot.filterMap fun e =>
    if 2 ≤ entryKind e ∧ entryKind e ≤ 7 then withdrawn e else some e) s

/-- Whether an entry belongs to the service of a delayed request: a DATA, or an END marked complete (R174). -/
def servesRequest (e : TxEntry) : Bool :=
  match e.frame.payload with
  | .data .. => true
  | .answerEnd _ _ _ mark => mark == 0
  | _ => false

/-- The pause of the delayed-request service (R174): while the station's own HOLD output is asserted, a DATA, or an END
marked complete, that has not begun is withdrawn. -/
def pauseService (s : State) : State :=
  if s.lines.holdOut then setSlot (dropUnbegun servesRequest s.bus.slot) s else s

/-! ## The step timer (R77) -/

/-- Set the step timer. -/
def setTimer (t : StepTimer) (s : State) : State := { s with run := { s.run with timer := t } }

/-- Restart the step timer in a mode, with elapsed 0 and the step limit in force. -/
def timerRestart (m : TimerMode) (s : State) : State :=
  setTimer { mode := m, elapsed := 0, limit := s.params.stepLimit } s

/-- Stop the step timer (R77). It keeps its elapsed time and its limit until the next restart (DESIGN CHOICE, log entry 47). -/
def timerStop (s : State) : State := setTimer { s.run.timer with mode := .stopped } s

/-- The step timer expires (R77): it runs, and its elapsed time has reached the step limit of its last restart. -/
def timerExpired (s : State) : Bool :=
  s.run.timer.mode == .running && decide (s.run.timer.limit ≤ s.run.timer.elapsed)

/-- A counter of milliseconds that may be stopped has reached its limit (R162, R181). -/
def reached (limit : Nat) (elapsed : Option Nat) : Bool := elapsed.any fun e => decide (limit ≤ e)

/-- A clean HALTED suspends a timer that runs or is suspended (R77). -/
def timerHalt (s : State) : State :=
  match s.run.timer.mode with
  | .stopped => s
  | _ => setTimer { s.run.timer with mode := .suspended true } s

/-! ## HOLD and LIVE (R53, R54) -/

/-- HOLD is seen to go from released to asserted: in an active run the step timer restarts, or stands suspended with
elapsed 0 while LIVE is seen asserted (R77). -/
def holdRises (s : State) : State :=
  let s' := { s with lines := { s.lines with holdSeen := true } }
  if runActive s' then timerRestart (if s'.lines.liveSeen then .suspended false else .running) s' else s'

/-- LIVE is seen to go from released to asserted: a running step timer of an active run is suspended (R77). -/
def liveRises (s : State) : State :=
  let s' := { s with lines := { s.lines with liveSeen := true } }
  match runActive s', s'.run.timer.mode with
  | true, .running => setTimer { s'.run.timer with mode := .suspended false } s'
  | _, _ => s'

/-- The station asserts its HOLD output: its delayed-request service pauses (R174), and where the line was released it
is seen asserted at this moment (R53; log entry 5). -/
def assertHold (s : State) : State :=
  if s.lines.holdOut then s
  else
    let s' := pauseService { s with lines := { s.lines with holdOut := true } }
    if s'.lines.holdSeen then s' else holdRises s'

/-- The station releases its HOLD output (R54). The line is seen released when the last station has released. -/
def releaseHold (s : State) : State := { s with lines := { s.lines with holdOut := false } }

/-- The station asserts its LIVE output (R55). -/
def assertLive (s : State) : State :=
  if s.lines.liveOut then s
  else
    let s' := { s with lines := { s.lines with liveOut := true } }
    if s'.lines.liveSeen then s' else liveRises s'

/-- The station releases its LIVE output (R55). -/
def releaseLive (s : State) : State := { s with lines := { s.lines with liveOut := false } }

/-! ## Time on an empty queue -/

/-- One millisecond with no command waiting (log entry 1): the running timers' elapsed times advance, each up to its
limit, at which its expiry is a command of its own (R77, R162, R181). -/
def tick (s : State) : State :=
  let t := s.run.timer
  let t' := if t.mode = .running ∧ t.elapsed < t.limit then { t with elapsed := t.elapsed + 1 } else t
  { s with
    run := { s.run with timer := t' }
    print := { s.print with stall := s.print.stall.map fun e => if e < Config.stallLimit then e + 1 else e }
    decoder :=
      { s.decoder with summary := s.decoder.summary.map fun e => if e < Config.summaryLimit then e + 1 else e } }

end Sys2Proof.Machine
end

