-- ==== Sys2Proof/Machine/Flags.lean ====
section
/-! DEFINITION. The status flags of the station: the event status and notice mask (R178) and the NOTICE frame (R179). -/

namespace Sys2Proof.Machine

/-- The events (10.5). -/
inductive Event where
  | runEnded | watch1 | watch2 | offsetLimit | adapterRejected | adapterFault | listFull | startIgnored
  | overrideRefused | printRefused | printDone | printStall
deriving DecidableEq, Repr

/-- The event bits (spec 3.11, Codes). -/
def eventBit : Event → Nat
  | .runEnded => 0
  | .watch1 => 1
  | .watch2 => 2
  | .offsetLimit => 3
  | .adapterRejected => 4
  | .adapterFault => 5
  | .listFull => 6
  | .startIgnored => 7
  | .overrideRefused => 8
  | .printRefused => 9
  | .printDone => 10
  | .printStall => 11

/-- The event's bit as a status word. -/
def eventMask (e : Event) : BitVec 12 := 1#12 <<< eventBit e

/-- Whether an event's status bit is set. -/
def eventSet (s : State) (e : Event) : Bool := s.decoder.status.getLsbD (eventBit e)

/-- A status or mask word as a two-byte field. -/
def statusField (x : BitVec 12) : Half := x.setWidth 16

/-- The NOTICE that reports the status and run state as they stand (R179). -/
def noticePayload (s : State) : Payload :=
  .notice (statusField s.decoder.status) (byte (runStateCode s.run.state))

/-- The event status. -/
def setStatus (x : BitVec 12) (s : State) : State := { s with decoder := { s.decoder with status := x } }

/-- An event occurs (R178, R179): its status bit is set, and where its mask bit is clear a NOTICE to address 28 is
queued, merged into a pending one, or held beside one in progress. A station in HELD or SILENT queues none. The merged NOTICE
shows the status as it stands (R179), so an event that CLEAR EVENTS has cleared meanwhile drops out of it, where R43 adds
events to those of the pending one (DEDUCED, log entry 45). -/
def raise (e : Event) (s : State) : State :=
  let s' := setStatus (s.decoder.status ||| eventMask e) s
  if s.decoder.mask.getLsbD (eventBit e) then s' else queue Config.consoleA (noticePayload s') s'

end Sys2Proof.Machine
end

