-- ==== Sys2Proof/Machine/Operands.lean ====
section
/-! DEFINITION. The operand forms: how a request is addressed and answered (R168 to R170), the arguments brought into
range (R73, R122), and the converter codes turned into numbers (R61, R63, R120). -/

namespace Sys2Proof.Machine

/-- A value clamped to a range (spec 00, Arithmetic). -/
def clamp (lo hi n : Nat) : Nat := max lo (min hi n)

/-! ## Requests -/

/-- How the Request Decoder takes a REQUEST frame (R168). -/
inductive Form where
  /-- delivered to no block (R52), or an addressed request disregarded (R43, R51) -/
  | unheard
  | addressed
  | general
deriving DecidableEq, Repr

/-- Whether an address is a console's (R52). -/
def isConsole (a : Addr) : Bool := a == Config.consoleA || a == Config.consoleB

/-- Whether an address is a matrix station's (R52). -/
def isStation (a : Addr) : Bool := decide (a.toNat < Config.firstNonStation)

/-- Whether a REPLY or REFUSED of the station is pending (R43). -/
def answerPending (s : State) : Bool := hasPending s 9 || hasPending s 10

/-- The form of a request at this station (R43, R51, R52, R168): a general call is taken whatever is pending; an
addressed request is disregarded while an answer is pending and while SILENT. -/
def formOf (h : Header) (s : State) : Form :=
  if !isConsole h.src then .unheard
  else if h.dst = Config.generalCall then .general
  else if h.dst.toNat ≠ addr s then .unheard
  else if s.bus.silent || answerPending s then .unheard
  else .addressed

/-- Queue the REPLY to a request (R168). -/
def reply (h : Header) (code : Nat) (data : List Byte) (s : State) : State :=
  queue h.src (.reply (byte code) h.tag data) s

/-- Queue the REFUSED of a request (R170). -/
def refuse (h : Header) (code : Nat) (why : RefusalCode) (selector : Nat) (s : State) : State :=
  queue h.src (.refused (byte code) h.tag (byte (refusalNumber why)) (half selector)) s

/-! ## RUN PARAMETERS (R73) -/

/-- The sample count: the next lower of 1, 2, 4, 8; 0 gives 1. -/
def sampleCount (n : Nat) : Nat :=
  if n < 2 then 1 else if n < 4 then 2 else if n < 8 then 4 else 8

/-- The leakage window: 8, 16 or 32; any other value gives 16. -/
def windowLength (w : Nat) : Nat := if w = 8 ∨ w = 32 then w else 16

/-- The test voltage: clamped, then rounded down to a multiple of 10. -/
def testVoltage (v : Nat) : Nat := clamp 50 1500 v / 10 * 10

/-- The profile: above 4 gives 1. -/
def profileNumber (p : Nat) : Nat := if 4 < p then 1 else p

/-- Every field of a RUN PARAMETERS call, brought into its range (R73). -/
def storedParams (a : ParamArgs) : Params :=
  { l := clamp 0 65533 a.l.toNat
    h := clamp 1 65535 a.h.toNat
    n := sampleCount a.n.toNat
    s := clamp 1 20 a.s.toNat
    stepLimit := clamp 10 5000 a.stepLimit.toNat
    sweep := a.sweep != 0
    insulation := a.insulation != 0
    volt := testVoltage a.volt.toNat
    profile := profileNumber a.profile.toNat
    dwell := clamp 10 60000 a.dwell.toNat
    w := windowLength a.w.toNat
    peak := a.mode == 1
    trip := clamp 1000 65535 a.trip.toNat
    irMin := clamp 1 Config.maxIr a.irMin.toNat
    summary := a.summary != 0
    page := clamp 20 120 a.page.toNat }

/-- The stored parameters in the argument layout of RUN PARAMETERS (spec 3.11): 25 bytes. -/
def paramBytes (p : Params) : List Byte :=
  halfBytes (half p.l) ++ halfBytes (half p.h) ++ [byte p.n, byte p.s] ++ halfBytes (half p.stepLimit)
    ++ [boolByte p.sweep, boolByte p.insulation] ++ halfBytes (half p.volt) ++ [byte p.profile]
    ++ halfBytes (half p.dwell) ++ [byte p.w, boolByte p.peak] ++ halfBytes (half p.trip)
    ++ wideBytes (wide p.irMin) ++ [boolByte p.summary, byte p.page]

/-! ## Watch slots (R171) -/

/-- The slot a SET WATCH stores: absent with the present flag clear or a gp above 6143. -/
def watchOf (w : WatchArg) : Option Watch :=
  if w.flags.getLsbD 0 ∧ w.gp.toNat ≤ Config.maxGp then
    some { gp := w.gp.toNat, halt := w.flags.getLsbD 1 }
  else none

/-- A slot in the argument layout of SET WATCH, with flag bit 2 set when it is armed (spec 3.11, section 1); the gp of an
absent slot is coded absent (spec 3.11, Codes). -/
def watchBytes (s : State) (w : Option Watch) : List Byte :=
  let flags := match w with
    | none => 0
    | some x => 1 + 2 * x.halt.toNat + 4 * (owns s x.gp).toNat
  byte flags :: halfBytes (gpField (w.map Watch.gp))

/-! ## Converter codes -/

/-- The offset of a calibration before clamping: the sum of the eight signed codes divided by 8, truncated toward
zero (R61). -/
def rawOffset (codes : Vector Code12 8) : Int :=
  Int.tdiv (codes.toList.foldl (fun a c => a + c.toInt) 0) 8

/-- The offset clamped to −64..+63 (R61). -/
def clampOffset (o : Int) : Int := max (-64) (min 63 o)

/-- The conversions read at a local index in a pass: `n` codes, 0 where the operand lists none (log entry 14). -/
def codesAt (readings : List Reading) (n i : Nat) : List Nat :=
  let given := match readings.find? fun r => r.index == i with
    | some r => r.codes.map BitVec.toNat
    | none => []
  given.take n

/-- The corrected code of a point (R63): the average of its `n` codes less the offset, clamped to 0..4095. -/
def correctedCode (offset : Int) (n : Nat) (codes : List Nat) : Nat :=
  (max 0 (min (Config.maxCode : Int) (((codes.sum / n : Nat) : Int) - offset))).toNat

/-- The voltage of a monitor code (R120). -/
def monitorVolts (c : Code12) : Nat := c.toNat * 1600 / 4095

/-- The DAC code of a setpoint (R120). -/
def dacCode (v : Nat) : Nat := v * 4095 / 1600

/-- The insulation resistance (R127). -/
def insulationResistance (v i : Nat) : Nat :=
  if i = 0 then Config.maxIr else min Config.maxIr (v * 1000 / i)

end Sys2Proof.Machine
end

