-- ==== Sys2Proof/Machine/DefectOps.lean ====
section
/-! DEFINITION. The Defect List (chapter 8): keys and identities (R137), insertion (R141 to R143), the LOST record
(R144), print marks (R145, R146), clearing (R147) and counts (R148). -/

namespace Sys2Proof.Machine

/-- Where kind and where value of a run end (R136, R137). -/
def whereKind : Where → Nat
  | .prepare => 0
  | .point _ => 1
  | .net _ => 2
  | .station _ => 3

def whereValue : Where → Nat
  | .prepare => 0
  | .point gp => gp
  | .net n => n
  | .station a => a

/-- The class order (R136). -/
def classOrder : Defect → Nat
  | .opn .. => 1
  | .highResistance .. => 2
  | .short .. => 3
  | .leakage .. => 4
  | .driveFault .. => 5
  | .undriven .. => 6
  | .insulationFail .. => 7
  | .breakdown .. => 8
  | .undervolt .. => 9
  | .notTested .. => 10
  | .phaseSkipped => 11
  | .runEnd .. => 12

/-- The key form of field A (R137). -/
def fieldA : Defect → Nat
  | .opn net _ => net
  | .highResistance net _ _ _ => net
  | .short lo _ => lo
  | .leakage lo _ _ => lo
  | .driveFault gp _ => gp
  | .undriven net => net
  | .insulationFail net _ _ _ => net
  | .breakdown net _ _ => net
  | .undervolt net _ => net
  | .notTested net _ => net
  | .phaseSkipped => 1
  | .runEnd cause loc => causeCode cause * 4 + whereKind loc

/-- Field B (R136). -/
def fieldB : Defect → Nat
  | .opn _ gp => gp
  | .highResistance _ gp _ _ => gp
  | .short _ hi => hi
  | .leakage _ hi _ => hi
  | .runEnd _ loc => whereValue loc
  | _ => 0

/-- The identity of a record (R137). -/
def identOf (d : Defect) : Ident := { order := classOrder d, a := fieldA d, b := fieldB d }

/-- Identities are compared part by part, which is the order of keys within one station's list (R137). -/
def identLt (x y : Ident) : Bool :=
  decide (x.order < y.order)
    || (x.order == y.order && (decide (x.a < y.a) || (x.a == y.a && decide (x.b < y.b))))

/-- Whether a record of an identity is held. -/
def holdsIdent (s : State) (id : Ident) : Bool := s.defects.records.any fun r => identOf r.what == id

/-- Replace the Defect List. -/
def setDefects (d : Defects) (s : State) : State := { s with defects := d }

/-- Place a record at its key position (R141). -/
def insertRecord (r : Record) : List Record → List Record
  | [] => [r]
  | x :: rest => if identLt (identOf r.what) (identOf x.what) then r :: x :: rest else x :: insertRecord r rest

/-- Store an offer, unprinted, or count it lost when 512 records are held (R141, R143). -/
def storeOffer (d : Defect) (s : State) : State :=
  if s.defects.records.length < Config.defectCapacity then
    setDefects { s.defects with records := insertRecord { what := d, mark := .unprinted } s.defects.records } s
  else raise .listFull (setDefects { s.defects with lost := min Config.countLimit (s.defects.lost + 1) } s)

/-- The replacement of a LEAKAGE by the SHORT of the same pair (R142). -/
def replaceLeakage (lo hi : Nat) (s : State) : State :=
  let rest := s.defects.records.filter fun r => identOf r.what != { order := 4, a := lo, b := hi }
  setDefects
    { s.defects with records := insertRecord { what := .short lo hi, mark := .unprinted } rest } s

/-- An offer to the Defect List: the first outcome of R141 that applies. -/
def offer (d : Defect) (s : State) : State :=
  if holdsIdent s (identOf d) then s
  else
    match d with
    | .leakage lo hi _ => if holdsIdent s { order := 3, a := lo, b := hi } then s else storeOffer d s
    | .short lo hi =>
        if holdsIdent s { order := 4, a := lo, b := hi } then replaceLeakage lo hi s else storeOffer d s
    | _ => storeOffer d s

/-- Offers of one job, in order (R140). -/
def offerAll (ds : List Defect) (s : State) : State := ds.foldl (fun s d => offer d s) s

/-! ## What the list presents (R144, R146, R148) -/

/-- An entry of the list: a stored record, or the LOST record presented while the lost count is above 0 (R144). -/
inductive ListEntry where
  | stored (r : Record)
  | lost
deriving DecidableEq, Repr

/-- The key of an entry without its station part (R137, R144). -/
def entryIdent (s : State) : ListEntry → Ident
  | .stored r => identOf r.what
  | .lost => { order := 13, a := addr s, b := 0 }

/-- The print mark of an entry. -/
def entryMark (s : State) : ListEntry → Mark
  | .stored r => r.mark
  | .lost => s.defects.lostMark

/-- The entries in key order (R144). -/
def listEntries (s : State) : List ListEntry :=
  s.defects.records.map .stored ++ (if 0 < s.defects.lost then [.lost] else [])

/-- The lowest unprinted entry (R146). -/
def lowestUnprinted (s : State) : Option ListEntry :=
  (listEntries s).find? fun e => entryMark s e == .unprinted

/-- The lowest entry above the last key sent, or the lowest of all (R176). -/
def entryAbove (s : State) : Option Ident → Option ListEntry
  | none => (listEntries s).head?
  | some id => (listEntries s).find? fun e => identLt id (entryIdent s e)

/-- The records held of a class order (R148). -/
def classCount (s : State) (order : Nat) : Nat :=
  (s.defects.records.filter fun r => classOrder r.what == order).length

/-! ## Marks (R145) -/

/-- Pass start: every mark becomes UNPRINTED. -/
def clearMarks (s : State) : State :=
  setDefects { s.defects with
    records := s.defects.records.map fun r => { r with mark := .unprinted }, lostMark := .unprinted } s

/-- A clean LINE marks the record of its identity: PRINTED where the line is the station's own and the key is the
record's, SUPPRESSED where another station sent it (R145). -/
def markLine (src : Addr) (key : Value) (s : State) : State :=
  let own := src == s.straps.adr
  let stationPart := key.toNat % 2 ^ 5
  let m : Mark := if own then .printed else .suppressed
  let applies := !own || stationPart == addr s
  let records := s.defects.records.map fun r =>
    if applies && identOf r.what == keyIdent key then { r with mark := m } else r
  let lostHit := own && stationPart == addr s && entryIdent s .lost == keyIdent key && decide (0 < s.defects.lost)
  setDefects { s.defects with records := records, lostMark := if lostHit then .printed else s.defects.lostMark } s

end Sys2Proof.Machine
end

