-- ==== Sys2Proof/Machine/MatrixOps.lean ====
section
/-! DEFINITION. The Matrix Controller (chapter 2): the stages of a change (R24, R25), deferral under LIVE (R29, R30),
batches (R27, R28), the forced FLOAT (R31) and the hold at FLOAT (R32). -/

namespace Sys2Proof.Machine

/-! ## One point -/

/-- The relay of a point that is closed; FLOAT for none (R22, R24). -/
def relayClosed (p : Point) : Switch :=
  match p.stage with
  | .rest => p.switch
  | .deferred => p.switch
  | .brk => .float
  | .waitLive => .float
  | .settle closed _ => closed

/-- The four relays of a point, in the order DRIVE, SENSE, HV, RETURN (R23). -/
def relays (p : Point) : List Bool :=
  [Switch.drive, .sense, .hv, .ret].map fun r => relayClosed p == r

/-- The relay image in the order it is shifted out: point 255 first, point 0 last (R23). -/
def relayImage (s : State) : List Bool := (s.points.reverse.map relays).flatten

/-- Close the relay of a target, or reach FLOAT, at the end of a break (R24), with the settle time in force (R26). -/
def closeInto (t : Switch) (settle : Nat) (p : Point) : Point :=
  if t = .float then { p with switch := .float, pending := none, stage := .rest }
  else { p with pending := some t, stage := .settle t settle }

/-- Start a change from rest (R24): a start that would open an HV relay waits while LIVE is seen asserted (R29). -/
def startChange (live : Bool) (t : Switch) (p : Point) : Point :=
  { p with pending := some t, stage := if p.switch = .hv ∧ live then .deferred else .brk }

/-- A request for one point (R24, R25, R29). In the settle stage of a change into HV, while LIVE is seen asserted: a retarget out
of HV is held there (DEDUCED, log entry 13), and a request for HV cancels the retarget held, the settle time running on
(DESIGN CHOICE, log entry 46). -/
def requestPoint (live : Bool) (settle : Nat) (t : Switch) (p : Point) : Point :=
  match p.stage with
  | .rest => if p.switch = t then p else startChange live t p
  | .deferred =>
      if p.switch = t then { p with pending := none, stage := .rest }
      else startChange live t p
  | .brk => { p with pending := some t }
  | .waitLive => if t = .hv then { p with pending := some t } else closeInto t settle p
  | .settle closed _ =>
      if p.pending = some t ∨ closed = t then { p with pending := some t }
      else if closed = .hv ∧ live then { p with pending := some t }
      else { p with pending := some t, stage := .brk }

/-- The end of a point's break time (R24, R29): an HV target waits while LIVE is seen asserted. -/
def breakEnds (live : Bool) (settle : Nat) (p : Point) : Point :=
  match p.stage, p.pending with
  | .brk, some t => if t = .hv ∧ live then { p with stage := .waitLive } else closeInto t settle p
  | _, _ => p

/-- The end of a point's settle time (R24). A retarget held in the settle stage has its point reach HV first and then
waits (R29). -/
def settleEnds (live : Bool) (p : Point) : Point :=
  match p.stage, p.pending with
  | .settle closed _, some t =>
      if closed = t then { p with switch := closed, pending := none, stage := .rest }
      else startChange live t { p with switch := closed }
  | _, _ => p

/-- LIVE is seen released (R30): a deferred change starts, a change waiting for LIVE closes its HV relay, and a retarget
held in the settle stage opens the relay it closed (log entry 13). -/
def liveFreed (settle : Nat) (p : Point) : Point :=
  match p.stage, p.pending with
  | .deferred, some _ => { p with stage := .brk }
  | .waitLive, some t => closeInto t settle p
  | .settle closed _, some t => if closed = t then p else { p with stage := .brk }
  | _, _ => p

/-- The forced FLOAT of one point (R31). -/
def forceFloat (p : Point) : Point := { p with switch := .float, pending := none, stage := .rest }

/-! ## Batches -/

/-- The requester of a batch (R27). -/
def requesterOf : Purpose → Requester
  | .manual => .requestDecoder
  | .admission => .requestDecoder
  | .override => .matrix
  | _ => .stepEngine

/-- Whether every point is held at FLOAT (R32). -/
def heldAtFloat (s : State) : Bool := s.lines.estop || s.matrix.override == .float

/-- Set the outstanding batches. -/
def setBatches (b : List Batch) (s : State) : State := { s with matrix := { s.matrix with batches := b } }

/-- Take points out of every batch: they were superseded or reached (R28). -/
def dropPoints (gone : List Nat) (b : Batch) : Batch :=
  { b with left := b.left.filter fun i => !gone.contains i }

/-- The target a batch names for a local index. -/
def targetOf (targets : List (Nat × Switch)) (i : Nat) : Option Switch :=
  (targets.find? fun q => q.1 == i).map Prod.snd

/-- Whether a point is in transit. -/
def inTransit (s : State) (i : Nat) : Bool := (pointAt s i).stage != .rest

/-- Request a batch (R27, R28, R32). Its points leave every earlier batch; the points not reached at the request are its
outstanding ones. While every point is held at FLOAT nothing moves and the batch is complete. Batches left
with no outstanding point stay listed until `takeComplete` reports them. -/
def requestBatch (why : Purpose) (targets : List (Nat × Switch)) (s : State) : State :=
  if heldAtFloat s then setBatches (s.matrix.batches ++ [{ purpose := why, left := [] }]) s
  else
    let s' := mapPoints (fun i p =>
      match targetOf targets i with
      | some t => requestPoint s.lines.liveSeen s.params.s t p
      | none => p) s
    let named := targets.map Prod.fst
    setBatches (s.matrix.batches.map (dropPoints named)
      ++ [{ purpose := why, left := named.filter (inTransit s') }]) s'

/-- Points that have come to rest leave their batches (R28, "Reached"). -/
def dropReached (s : State) : State :=
  setBatches (s.matrix.batches.map fun b => { b with left := b.left.filter (inTransit s) }) s

/-- The complete batches and the state with them removed from the list (R28). R28 does not rank batches that complete in the same
instant: they stand in request order here (DESIGN CHOICE, log entry 44). -/
def takeComplete (s : State) : List Purpose × State :=
  ((s.matrix.batches.filter fun b => b.left.isEmpty).map Batch.purpose,
    setBatches (s.matrix.batches.filter fun b => !b.left.isEmpty) s)

/-- Every point of the station with one target. -/
def everyPoint (s : State) (t : Switch) : List (Nat × Switch) :=
  (List.range s.points.length).map fun i => (i, t)

/-- The targets of a batch that names every point, by its local index and record. -/
def targetsBy (s : State) (f : Nat → Point → Switch) : List (Nat × Switch) :=
  s.points.zipIdx.map fun q => (q.2, f q.2 q.1)

/-- The forced FLOAT (R31): every relay opens, every change ends, every batch is abandoned. -/
def forcedFloat (s : State) : State := setBatches [] (mapPoints (fun _ p => forceFloat p) s)

end Sys2Proof.Machine
end

