-- ==== Sys2Proof/Machine/TableOps.lean ====
section
/-! DEFINITION. The Block Detector (R11 to R13), the Net Map (R17 to R20) and the run fields of the point records (R3). -/

namespace Sys2Proof.Machine

/-! ## Detection -/

/-- The band of an ID code (R11). -/
def bandOf (code : Nat) : Band :=
  if code < 32 then .invalid
  else if code < 80 then .kind .std16
  else if code < 128 then .kind .std32
  else if code < 176 then .kind .hv16
  else if code < 224 then .kind .hv32
  else .kind .none

/-- Whether the allowed set holds a kind (R13). -/
def allows (a : KindSet) : Kind → Bool
  | .none => true
  | .std16 => a.std16
  | .std32 => a.std32
  | .hv16 => a.hv16
  | .hv32 => a.hv32

/-- The kind in force that a band gives (R13). -/
def kindInForce (a : KindSet) : Band → Kind
  | .invalid => .none
  | .kind k => if allows a k then k else .none

/-- The block record of a code (R10, R13). -/
def detectBlock (a : KindSet) (code : Byte) : Block :=
  { code := some code.toNat, band := some (bandOf code.toNat), kind := kindInForce a (bandOf code.toNat) }

/-- Whether a band is a valid adapter that the allowed set rejects (R13). -/
def rejected (a : KindSet) : Band → Bool
  | .invalid => false
  | .kind k => !allows a k

/-- Replace the block records. -/
def setBlockRecords (r : List Block) (s : State) : State := { s with blocks := { s.blocks with records := r } }

/-- A detection (R12, R13), on a station with AUTODET high; without it there is none (R14). R13 does not rank its two events:
ADAPTER_REJECTED occurs before ADAPTER_FAULT, so a NOTICE of the first alone does not show the second (DESIGN CHOICE,
log entry 37). -/
def detect (ids : IdCodes) (s : State) : State :=
  if !s.straps.autodet then s
  else
    let bands := ids.toList.map fun c => bandOf c.toNat
    let s1 := setBlockRecords (ids.toList.map (detectBlock s.blocks.allowed)) s
    let s2 := if bands.any (rejected s.blocks.allowed) then raise .adapterRejected s1 else s1
    if bands.any (· == .invalid) then raise .adapterFault s2 else s2

/-! ## Net Map -/

/-- Replace the Net Map. -/
def setNetMap (m : List NetEntry) (s : State) : State := { s with netMap := m }

/-- The entry of an effective net (R17). -/
def netEntry (s : State) (n : Nat) : Option NetEntry := s.netMap.find? fun e => e.net == n

/-- Count a point in the entry of its net, kept in ascending order (R17). -/
def countNet (n : Nat) : List NetEntry → List NetEntry
  | [] => [{ net := n, count := 1, leader := none, state := .pending, reason := none }]
  | e :: rest =>
      if n < e.net then { net := n, count := 1, leader := none, state := .pending, reason := none } :: e :: rest
      else if n = e.net then { e with count := e.count + 1 } :: rest
      else e :: countNet n rest

/-- The effective nets barred by a fitted point on a block that is not rated, whatever its role (R18). -/
def unratedNets (s : State) : List Nat :=
  s.points.zipIdx.filterMap fun q => if fitted s q.2 && !rated s q.2 then some (effNetOf s q.2 q.1) else none

/-- The Net Map built at PREPARE (R17), with its RATING bars (R18). -/
def builtNetMap (s : State) : List NetEntry :=
  let nets := s.points.zipIdx.filterMap fun q => if sensable s q.2 q.1 then some (effNetOf s q.2 q.1) else none
  let entries := nets.foldl (fun m n => countNet n m) []
  let unrated := unratedNets s
  entries.map fun e =>
    if unrated.contains e.net then { e with state := .barred, reason := some .rating } else e

/-- Change the entry of a net, where one is held. -/
def updateNet (n : Nat) (f : NetEntry → NetEntry) (s : State) : State :=
  setNetMap (s.netMap.map fun e => if e.net = n then f e else e) s

/-- The leader rule of R20: a present leader is kept. -/
def leadNet (d : Nat) (e : NetEntry) : NetEntry :=
  match e.leader with
  | some _ => e
  | none => { e with leader := some d }

/-- The precedence of bar reasons, SHORTED above LEAKAGE above RATING (R19). -/
def strongerReason (held : Option BarReason) (new : BarReason) : BarReason :=
  match held, new with
  | some .shorted, _ => .shorted
  | _, .shorted => .shorted
  | some .leakage, _ => .leakage
  | _, .leakage => .leakage
  | _, .rating => .rating

/-- A bar placed by a reading (R19). -/
def barNet (why : BarReason) (e : NetEntry) : NetEntry :=
  { e with state := .barred, reason := some (strongerReason e.reason why) }

/-- A clean RESULT for the net (R20). -/
def testNet (e : NetEntry) : NetEntry := { e with state := .tested }

/-- A NET that drew a VETO (R20): the bar reason is kept. -/
def vetoNet (e : NetEntry) : NetEntry := { e with state := .vetoed }

/-- Whether the station drives VETO on a NET frame (R48). -/
def drivesVeto (s : State) (n : Nat) : Bool :=
  match netEntry s n with
  | some e => e.state == .barred
  | none => false

/-- The lowest entry still PENDING (R114). -/
def lowestPending (s : State) : Option Nat :=
  (s.netMap.find? fun e => e.state == .pending).map NetEntry.net

/-- The NOT_TESTED offers for the BARRED entries, in ascending effective net (R81, R108). -/
def notTestedOffers (s : State) : List Defect :=
  s.netMap.filterMap fun e =>
    match e.state, e.reason with
    | .barred, some r => some (.notTested e.net r)
    | _, _ => none

/-- The UNDRIVEN offers for the assigned nets without a leader (R108). -/
def undrivenOffers (s : State) : List Defect :=
  s.netMap.filterMap fun e =>
    if e.net ≤ Config.maxNet ∧ e.leader = none then some (.undriven e.net) else none

/-! ## Run fields (R3) -/

/-- Clear driven, leader and last reading of a record. -/
def clearRunFields (p : Point) : Point := { p with driven := false, leader := none, last := none }

/-! ## Drivable points (R89) -/

/-- A drivable point: fitted, SIGNAL, not driven, without a leader. -/
def drivable (s : State) (i : Nat) (p : Point) : Bool :=
  fitted s i && p.role == .signal && !p.driven && p.leader.isNone

/-- The station's lowest drivable point, as gp and effective net (R91). -/
def lowestDrivable (s : State) : Option (Nat × Nat) :=
  (s.points.zipIdx.find? fun q => drivable s q.2 q.1).map fun q => (gpOf s q.2, effNetOf s q.2 q.1)

end Sys2Proof.Machine
end

