-- ==== Sys2Proof/Machine/Measure.lean ====
section
/-! DEFINITION. The Classifier (chapter 4) and the sensing rules (R105, R106). -/

namespace Sys2Proof.Machine

/-- The resistance of a corrected code against a reference code, in 0.1 Ω (R67). -/
def resistance (code ref : Nat) : Nat :=
  if code = 0 then Config.overR
  else if ref ≤ code then 0
  else
    let q := 10000 * (ref - code) / code
    if q ≤ 65534 then q else Config.overR

/-- The effective isolate limit (R68). -/
def effectiveH (p : Params) : Nat := if p.l < p.h then p.h else p.l + 1

/-- The class of a resistance (R69). -/
def classify (l h r : Nat) : Class :=
  if r ≤ l then .connected else if h ≤ r then .isolated else .marginal

/-- The drive a reading is taken against: the gp driven and the drive net (R88). -/
structure Drive where
  gp : Nat
  net : Nat
deriving DecidableEq, Repr

/-- Whether the drive is the net's leader drive (R105). -/
def isLeaderDrive (s : State) (d : Drive) : Bool :=
  match netEntry s d.net with
  | some e => e.leader == some d.gp
  | none => false

/-- The effect of a reading on a point of the drive net (R105). -/
def readSameNet (d : Drive) (i : Nat) (c : Class) (r : Nat) (s : State) : State :=
  match (pointAt s i).leader, c with
  | some _, _ => s
  | none, .connected => updatePoint i (fun p => { p with leader := some d.gp }) s
  | none, .marginal =>
      offer (.highResistance d.net (gpOf s i) r d.gp) (updatePoint i (fun p => { p with leader := some d.gp }) s)
  | none, .isolated => if isLeaderDrive s d then offer (.opn d.net (gpOf s i)) s else s

/-- The effect of a reading on a point of another net (R106, R19). -/
def readOtherNet (d : Drive) (n : Nat) (c : Class) (r : Nat) (s : State) : State :=
  let lo := min n d.net
  let hi := max n d.net
  match c with
  | .connected => updateNet n (barNet .shorted) (offer (.short lo hi) s)
  | .marginal => updateNet n (barNet .leakage) (offer (.leakage lo hi r) s)
  | .isolated => s

/-- The classification of one local point (R70): last reading, then the sensing rules. -/
def classifyPoint (d : Drive) (ref : Nat) (limits : Nat × Nat) (i : Nat) (s : State) : State :=
  let p := pointAt s i
  match (s.sampler.buffer.getD i none), sensable s i p && gpOf s i != d.gp with
  | some code, true =>
      let r := resistance code ref
      let c := classify limits.1 limits.2 r
      let s' := updatePoint i (fun p => { p with last := some { cls := c, r := r } }) s
      if effNetOf s i p = d.net then readSameNet d i c r s' else readOtherNet d (effNetOf s i p) c r s'
  | _, _ => s

/-- The classification of a step (R70), in ascending local index, with the limits in force at the REF frame end (R68). -/
def classifyStep (d : Drive) (ref : Nat) (s : State) : State :=
  (List.range s.points.length).foldl
    (fun s' i => classifyPoint d ref (s.params.l, effectiveH s.params) i s') s

end Sys2Proof.Machine
end

