-- ==== Sys2Proof/Machine/HvOps.lean ====
section
/-! DEFINITION. The Insulation Engine's operations (7.4 to 7.8): settings, ramp, results, discharge and following. -/

namespace Sys2Proof.Machine

/-- Change the Insulation Engine's state. -/
def setHv (h : Hv) (s : State) : State := { s with hv := h }

/-- The segment list of the profile in force (R121). -/
def profileSegments (s : State) : List Segment :=
  match s.params.profile with
  | 0 => [{ level := 100, ms := 0 }]
  | 2 => [{ level := 100, ms := 1000 }]
  | 3 => [{ level := 50, ms := 200 }, { level := 50, ms := 500 }, { level := 100, ms := 200 }]
  | 4 => if s.hv.userLength = 0 then [{ level := 100, ms := 100 }] else s.hv.segments.take s.hv.userLength
  | _ => [{ level := 100, ms := 100 }]

/-- The interval settings the engine copies at the start of an HV interval (R119). -/
def settingsInForce (s : State) : HvSettings :=
  { volt := s.params.volt, segments := profileSegments s, dwell := s.params.dwell, w := s.params.w
    peak := s.params.peak, trip := s.params.trip, irMin := s.params.irMin }

/-- A segment's target voltage (R121). -/
def segmentTarget (volt : Nat) (g : Segment) : Nat := volt * g.level / 100

/-- The setpoint `t` ms after a ramp from `p` begins (R123): a segment of duration 0 acts at its start, another moves
by the floor of its share of the way. -/
def rampSetpoint (volt : Nat) : Nat → List Segment → Nat → Nat
  | p, [], _ => p
  | p, g :: rest, t =>
      let target := segmentTarget volt g
      if g.ms ≤ t then rampSetpoint volt target rest (t - g.ms)
      else if p ≤ target then p + (target - p) * t / g.ms
      else p - (p - target) * t / g.ms

/-- Er, the elapsed time at which the ramp ends (R123). -/
def rampLength (x : HvSettings) : Nat := (x.segments.map Segment.ms).sum

/-- The final target of the profile (R121). -/
def finalTarget (x : HvSettings) : Nat :=
  match x.segments.getLast? with
  | some g => segmentTarget x.volt g
  | none => 0

/-- Start an HV interval (R118, R119): settings copied, window, peak and result emptied, elapsed time 0, HVEN raised. -/
def startEngine (s : State) : State :=
  let x := settingsInForce s
  setHv { s.hv with
    stage := .ramp, settings := some x, setpoint := rampSetpoint x.volt 0 x.segments 0, elapsed := 0
    window := [], peak := none, result := none, hven := true, checkNext := 0, checkHigh := 0, lastSample := 0
    dwellStart := 0, dischargeNext := 0 } s

/-- Drop HVEN with a measured result and enter the discharge (R124 to R126, R128). -/
def dropWith (r : HvResult) (s : State) : State :=
  setHv { s.hv with
    stage := .discharge, setpoint := 0, hven := false, result := some r, dischargeNext := 0 } s

/-- A breakdown at the present elapsed time (R124). -/
def breakdown (sample v : Nat) (s : State) : State :=
  dropWith
    { verdict := .breakdown, v := v, i := sample, ir := insulationResistance v sample, ms := s.hv.elapsed } s

/-- A leakage sample is taken and judged against the trip before anything else of its millisecond (R124). The elapsed time
advances with these milliseconds alone and stands still once HVEN has dropped, where R119 does not say when it stops
(DESIGN CHOICE, log entry 41). -/
def takeSample (x : HvSettings) (sample : Nat) (monitor : Code12) (rest : State → State) (s : State) : State :=
  let s' := setHv { s.hv with elapsed := s.hv.elapsed + 1, lastSample := sample } s
  if x.trip < sample then breakdown sample (monitorVolts monitor) s' else rest s'

/-- Append a sample to the leakage window of length `w` (R126). -/
def appendSample (w sample : Nat) (window : List Nat) : List Nat :=
  let all := window ++ [sample]
  all.drop (all.length - w)

/-- The average of the window (R126). -/
def windowAverage (window : List Nat) : Nat := window.sum / window.length

/-- The peak after an average (R126). -/
def peakAfter (held : Option Nat) (average : Nat) : Option Nat :=
  match held with
  | none => some average
  | some p => some (max p average)

/-- The verdict at the end of a dwell (R127). -/
def dwellVerdict (irMin ir : Nat) : Verdict := if irMin ≤ ir then .pass else .insulationFail

/-- The net under test (R72). -/
def stepNet (s : State) : Nat :=
  match s.run.step with
  | .net n => n
  | _ => 0

/-- The RESULT frame of a measured result, with the verdict it carries (R128, R130). -/
def resultPayload (s : State) (v : Verdict) (r : HvResult) : Payload :=
  .result (half (stepNet s)) (byte (verdictCode v)) (half r.v) (half r.i) (wide r.ir) (wide r.ms)

/-- Drop HVEN and enter the following stage, on a station strapped HVSRC (R129). -/
def enterFollowing (s : State) : State :=
  if s.straps.hvsrc then setHv { s.hv with stage := .following, setpoint := 0, hven := false } s else s

/-- Whether an HV interval is in progress at this engine (R129). -/
def inInterval (s : State) : Bool :=
  match s.hv.stage with
  | .ramp => true
  | .check => true
  | .dwell => true
  | .discharge => true
  | .reporting => true
  | _ => false

end Sys2Proof.Machine
end

