-- ==== Sys2Proof/Machine/RunOps.lean ====
section
/-! DEFINITION. The Step Engine's operations: sampling passes (R63 to R65, R95 to R98), reports of batches (R28),
bids and the bid window mark (R56, R91, R114), phase entries (R81, R82, R107, R108, R113, R134) and the run
end (R83, R84). -/

namespace Sys2Proof.Machine

/-- Change the Step Engine's state. -/
def setRun (r : Run) (s : State) : State := { s with run := r }

/-- Change the Sampling Engine's state. -/
def setSampler (x : Sampler) (s : State) : State := { s with sampler := x }

/-- Enter a sweep stage (R88). -/
def setSweepStage (g : SweepStage) (s : State) : State := setRun { s.run with sweepStage := g } s

/-- Enter an insulation stage (R112). -/
def setInsStage (g : InsStage) (s : State) : State := setRun { s.run with insStage := g } s

/-- The gp driven in the current step, at its driver (R93). -/
def drivenHere (s : State) : Option Nat :=
  match s.run.step with
  | .point gp d => if d = addr s ∧ owns s gp then some gp else none
  | _ => none

/-! ## Sampling -/

/-- Empty the sample buffer and make the reference code absent (R60). -/
def emptyBuffer (s : State) : State :=
  setSampler { s.sampler with buffer := List.replicate Config.pointCount none, ref := none } s

/-- Whether the driver of the step waits for its pass to begin: the settling stage (R95, R110). -/
def driverSettles (s : State) : Bool := s.run.sweepStage == .settling && (drivenHere s).isSome

/-- What a run end leaves of the Sampling Engine: the job in progress is abandoned (R62, R65), and at the driver in the
settling stage, before the step's pass, buffer and reference code are emptied too (R110). At another station in that
stage they keep what the last pass left (log entry 38). -/
def abandonJob (s : State) : State :=
  match s.sampler.job with
  | .free => if driverSettles s then emptyBuffer s else s
  | .calibrating => setSampler { s.sampler with job := .free } s
  | .sampling _ _ => let s' := emptyBuffer s; setSampler { s'.sampler with job := .free } s'

/-- The station releases HOLD after its pass (R96). -/
def releaseAfterPass (s : State) : State := setSweepStage .driveReleased (releaseHold s)

/-- Whether an armed watch slot names the gp (R97, R98). -/
def watchMatches (s : State) (gp : Nat) : Option Watch → Bool
  | some w => w.gp == gp && owns s w.gp
  | none => false

/-- Whether a matching slot halts. -/
def watchHalts (s : State) (gp : Nat) (w : Option Watch) : Bool :=
  watchMatches s gp w && (w.map Watch.halt).getD false

/-- The driver's watch match (R98), and the release of every other station (R96). R98 does not rank its two events: WATCH1
occurs before WATCH2, so a NOTICE of the first alone does not show the second (DESIGN CHOICE, log entry 40). -/
def afterPass (s : State) : State :=
  match drivenHere s with
  | none => releaseAfterPass s
  | some gp =>
      let s1 := if watchMatches s gp s.run.watch1 then raise .watch1 s else s
      let s2 := if watchMatches s gp s.run.watch2 then raise .watch2 s1 else s1
      if watchHalts s gp s.run.watch1 then
        queue Config.generalCall (.halted (half gp) 1) (setSweepStage .halted s2)
      else if watchHalts s gp s.run.watch2 then
        queue Config.generalCall (.halted (half gp) 2) (setSweepStage .halted s2)
      else releaseAfterPass s2

/-- The corrected code read at a local index in a pass (R63). -/
def readCode (s : State) (n : Nat) (readings : List Reading) (i : Nat) : Nat :=
  correctedCode s.sampler.offset n (codesAt readings n i)

/-- The buffer a pass leaves (R63, R64): a code for each sensable point but the driven one. -/
def passBuffer (s : State) (n : Nat) (driven : Option Nat) (readings : List Reading) : List (Option Nat) :=
  s.points.zipIdx.map fun q =>
    if sensable s q.2 q.1 && driven != some (gpOf s q.2) then some (readCode s n readings q.2) else none

/-- The reference code a driver's pass leaves (R64). -/
def passRef (s : State) (n : Nat) (driven : Option Nat) (readings : List Reading) : Option RefCode :=
  driven.map fun gp =>
    let c := readCode s n readings (localOf gp)
    { gp := gp, code := c, weak := decide (c < Config.weakBelow) }

/-- The end of a sampling pass (R63, R64), then R96 and R98. -/
def finishPass (n : Nat) (driven : Option Nat) (readings : List Reading) (s : State) : State :=
  afterPass (setSampler
    { s.sampler with job := .free, buffer := passBuffer s n driven readings, ref := passRef s n driven readings } s)

/-- Whether the station has a sensable point (R63). -/
def anySensable (s : State) : Bool := s.points.zipIdx.any fun q => sensable s q.2 q.1

/-- Command the sampling pass (R63, R95): the buffer is emptied and the sample count taken. A station with no sensable
point completes its pass at the command. -/
def commandPass (s : State) : State :=
  let s1 := emptyBuffer (setSweepStage .sampling s)
  if anySensable s1 then
    setSampler { s1.sampler with job := .sampling s1.params.n (drivenHere s1) } s1
  else afterPass (setSampler { s1.sampler with job := .free } s1)

/-! ## Reports of batches (R28) -/

/-- The PREPARE batch is complete (R78, step 6). -/
def prepareDone (s : State) : State :=
  if s.straps.hvsrc && s.run.insOn then
    queue Config.generalCall (.sourceReady (half s.run.number)) s
  else releaseHold s

/-- What the requester of a complete batch does on the report (R28). -/
def report (s : State) (why : Purpose) : State :=
  match why with
  | .prepare => if s.run.state = .prepare then prepareDone s else s
  | .toDrive =>
      if s.run.sweepStage = .settling then
        let s' := setRun { s.run with driveDone := true } s
        if s'.run.settleWait = none then commandPass s' else s'
      else s
  | .endFloat => if s.run.sweepStage = .ending then setSweepStage .endReleased (releaseHold s) else s
  | .switching => if s.run.insStage = .switching then setInsStage .switched (releaseHold s) else s
  | .restoring => if s.run.insStage = .restoring then setInsStage .restored (releaseHold s) else s
  | _ => s

/-- Report every complete batch to its requester (R28), in request order, which R28 leaves open (DESIGN CHOICE, log entry 44). -/
def reportAll (s : State) : State :=
  let q := takeComplete s
  q.1.foldl report q.2

/-- Request a batch and report what is complete with it (R27, R28). -/
def batch (why : Purpose) (targets : List (Nat × Switch)) (s : State) : State :=
  reportAll (requestBatch why targets s)

/-- Request a batch taking every point to FLOAT. -/
def floatAll (why : Purpose) (s : State) : State := batch why (everyPoint s .float) s

/-! ## Bids (R91, R114) and the completion mark (R56) -/

/-- Queue the DRIVE bid (R91). -/
def bidDrive (s : State) : State :=
  match lowestDrivable s with
  | some (gp, n) => queue Config.generalCall (.drive (half gp) (half n)) s
  | none => s

/-- Queue the NET bid (R114). -/
def bidNet (s : State) : State :=
  match lowestPending s with
  | some n => queue Config.generalCall (.net (half n)) s
  | none => s

/-- Set the bid window test. -/
def setWindow (w : Window) (s : State) : State := { s with bus := { s.bus with window := w } }

/-- Mark a step completion (R56). A frame in progress at the mark, this station's or another's, is passed over. -/
def markStep (inProgress : Bool) (s : State) : State :=
  setWindow (.running (inProgress || s.bus.slot.any TxEntry.begun)) s

/-! ## Summary timer (R181) -/

/-- The run leaves the active states: the summary timer stops and a SUMMARY not begun is withdrawn (R181). -/
def stopSummary (s : State) : State :=
  withdrawUnbegun 16 { s with decoder := { s.decoder with summary := none } }

/-! ## Phase entries -/

/-- Enter COMPLETE (R82). -/
def enterComplete (s : State) : State :=
  floatAll .complete
    (stopSummary (releaseHold (timerStop
      (setRun { s.run with state := .complete, sweepStage := .none, insStage := .none } s))))

/-- The insulation entry (R81, R113), from PREPARE or from the end of the sweep. -/
def insulationEntry (fromPrepare inProgress : Bool) (s : State) : State :=
  let s1 := setRun { s.run with state := .insulate, sweepStage := .none } s
  if !s1.run.insOn then enterComplete s1
  else if s1.run.elected = none then enterComplete (offer .phaseSkipped s1)
  else
    let s2 := if fromPrepare then offerAll (notTestedOffers s1) s1 else s1
    bidNet (setInsStage .bidding (markStep inProgress s2))

/-- Enter SWEEP from PREPARE (R90). -/
def sweepEntry (inProgress : Bool) (s : State) : State :=
  bidDrive (setSweepStage .bidding (markStep inProgress (setRun { s.run with state := .sweep } s)))

/-- Whether the insulation check will run (R108). -/
def checkWillRun (s : State) : Bool := s.run.insOn && s.run.elected.isSome

/-- The end of the sweep (R107) and its end work (R108), in the order UNDRIVEN, FLOAT batch, NOT_TESTED, release. -/
def sweepEnd (s : State) : State :=
  let s1 := assertHold (setSweepStage .ending (withdraw 2 s))
  let s2 := offerAll (undrivenOffers s1) s1
  let s3 := requestBatch .endFloat (everyPoint s2 .float) s2
  reportAll (if checkWillRun s3 then offerAll (notTestedOffers s3) s3 else s3)

/-- The end of the insulation check (R134). -/
def insulationEnd (s : State) : State := enterComplete (withdraw 4 s)

/-- What a bid window outcome other than the opening of the next step ends (R92, R115). -/
def phaseEnd (s : State) : State :=
  if s.run.state = .sweep ∧ s.run.sweepStage = .bidding then sweepEnd s
  else if s.run.state = .insulate ∧ s.run.insStage = .bidding then insulationEnd s
  else s

/-! ## Run end (R83, R84) -/

/-- The where-field of a run end whose place is the current step (R84). -/
def currentWhere (s : State) : Where :=
  if s.run.state = .prepare then .prepare
  else
    match s.run.step with
    | .none => .prepare
    | .point gp _ => .point gp
    | .net n => .net n

/-- The end of a run (R83). The RUN_END record is offered before it (R139), so that a LIST_FULL of that offer finds the run
still active; the run state is ENDED when RUN_ENDED occurs, as its NOTICE reports (log entry 16). -/
def runEnd (cause : Cause) (loc : Where) (s : State) : State :=
  let s0 := offer (.runEnd cause loc) s
  let s1 := abandonJob (timerStop (setWindow .off (withdrawClassOne s0)))
  let s2 := if inInterval s1 then enterFollowing s1 else s1
  let s3 := releaseHold (setRun
    { s2.run with
      state := .ended, halt := false, sweepStage := .none, insStage := .none, settleWait := none
      driveDone := false } s2)
  stopSummary (raise .runEnded (floatAll .runEnd s3))

/-- End the run where one is active, at the current step (R33, R85, R86). -/
def endActiveRun (cause : Cause) (s : State) : State :=
  if runActive s then runEnd cause (currentWhere s) s else s

/-- Entry to SILENT (R50): the slot is emptied, the delayed request discarded, HOLD released, FLOAT forced with the
removal of a RETURN override (R38), HVEN dropped, an active run ended with cause BUS_FAULT. -/
def enterSilent (s : State) : State :=
  let s1 := setSlot [] { s with
    bus := { s.bus with silent := true, errors := Config.silentAt }
    decoder := { s.decoder with ctx := none } }
  let s2 := enterFollowing (forcedFloat (releaseHold s1))
  let s3 := if s2.matrix.override = .ret then { s2 with matrix := { s2.matrix with override := .none } } else s2
  if runActive s3 then runEnd .busFault (.station (addr s3)) s3 else s3

end Sys2Proof.Machine
end

