-- ==== Sys2Proof/Machine/ResetOps.lean ====
section
/-! DEFINITION. ESTOP (R33), RESET of either scope (R183 and the reset column of each block's table), and HELD with its
release (R58). -/

namespace Sys2Proof.Machine

/-- What ESTOP seen asserted does at a station (R33). -/
def estopWork (s : State) : State :=
  let s1 := enterFollowing (forcedFloat s)
  let s2 := if s1.matrix.override = .ret then { s1 with matrix := { s1.matrix with override := .none } } else s1
  endActiveRun .estop s2

/-- A point record after a reset (R1): run fields cleared, and in RESET FULL the netlist fields too. -/
def resetPoint (full : Bool) (p : Point) : Point :=
  let q := clearRunFields p
  if full then { q with net := 0, role := .signal } else q

/-- The state both scopes set (R40, R60, R72, R119, R138, R147, R150, R164, R183, R184): points' run fields, Net Map,
Defect List, jobs, timers, the run and the print pass; netlist, blocks, parameters, watches, user profile,
credit, page length and notice mask are kept. -/
def resetRunState (s : State) : State :=
  { s with
    bus := { s.bus with slot := [], window := .off, silent := false, errors := 0 }
    lines := { s.lines with holdOut := false }
    points := s.points.map (resetPoint false)
    matrix := { batches := [], override := .none }
    sampler := Sampler.powerUp
    run := { Run.powerUp with watch1 := s.run.watch1, watch2 := s.run.watch2 }
    netMap := []
    hv := { Hv.powerUp s.straps.hvsrc with segments := s.hv.segments, userLength := s.hv.userLength }
    defects := Defects.empty
    print := { Printer.powerUp with credit := s.print.credit, pageLength := s.print.pageLength }
    decoder := { s.decoder with ctx := none, status := 0, summary := none } }

/-- What RESET FULL sets beyond RESET RUN (R183, step 5, and R1, R16, R73, R97, R122, R150, R178), before its block
detection. -/
def resetFullState (s : State) : State :=
  { s with
    points := s.points.map (resetPoint true)
    blocks := Blocks.powerUp
    run := { s.run with watch1 := none, watch2 := none }
    params := Params.defaults
    hv := { s.hv with segments := (Hv.powerUp s.straps.hvsrc).segments, userLength := 0 }
    print := { s.print with credit := 0, pageLength := 60 }
    decoder := { s.decoder with mask := BitVec.allOnes 12 } }

/-- A reset (R183): the forced FLOAT and the drop of HVEN first, the block detection of a RESET FULL last. -/
def resetStation (full : Bool) (ids : IdCodes) (s : State) : State :=
  let s1 := resetRunState (enterFollowing (forcedFloat s))
  if full then detect ids (resetFullState s1) else s1

/-- The scope of a RESET general call from a console, where the frame is one (R58): true for FULL. -/
def resetCall (f : Frame) : Option Bool :=
  match f.payload with
  | .request code _ (scope :: _) =>
      if isConsole f.src && f.dst == Config.generalCall && code == 22 then
        if scope = 1 then some false else if scope = 2 then some true else none
      else none
  | _ => none

/-- Set the RESET count (R58). -/
def setResetCount (n : Nat) (s : State) : State := { s with bus := { s.bus with resetCount := n } }

/-- Release from HELD (R58): the reset of the second RESET's scope on the power-up state, the block detection under
either scope (R12), and an ESTOP seen asserted takes effect. -/
def release (full : Bool) (ids : IdCodes) (s : State) : State :=
  let s1 := resetStation full ids { s with bus := { s.bus with held := false, resetCount := 0 } }
  let s2 := if full then s1 else detect ids s1
  if s2.lines.estop then estopWork s2 else s2

/-- A clean frame taken in HELD (R58). A station with a strap fault takes no RESET pair (R57). -/
def heldTakes (f : Frame) (ids : IdCodes) (s : State) : State :=
  if strapFault s then s
  else
    match resetCall f with
    | some full => if s.bus.resetCount = 0 then setResetCount 1 s else release full ids s
    | none => setResetCount 0 s

end Sys2Proof.Machine
end

