-- ==== Sys2Proof/Machine/BusOps.lean ====
section
/-! DEFINITION. The Bus Controller's operations: a frame end (R42), the transmit slot at it (R43, R49), the bid window test
(R56), delivery (R52), the start of a frame (R44) and the ERR slot (R45, R46). -/

namespace Sys2Proof.Machine

/-- A frame held beside a begun one takes the entry; a held NOTICE is formed anew (R179). -/
def besideFrame (s : State) (f : Frame) : Frame :=
  match f.payload with
  | .notice .. => { f with payload := noticePayload s }
  | _ => f

/-- The entry of a frame that becomes pending. -/
def freshEntry (f : Frame) : TxEntry := { frame := f, begun := false, doomed := false, beside := none }

/-- What the frame end makes of an entry whose frame went out clean (R43). -/
def afterClean (s : State) (e : TxEntry) : Option TxEntry := e.beside.map fun f => freshEntry (besideFrame s f)

/-- What an entry becomes when its begun frame drew ERR (R43, R110): the frame held beside it replaces it; it goes where its
withdrawal was called for (log entry 9); else it is pending again. Its mark `recalled` does not bear on it: a DATA, or an END
marked complete, begun before a pause that has ended again is offered again with its content unchanged (R174 states both its
withdrawal and this, and ranks neither: DESIGN CHOICE, log entry 48). -/
def afterFailure (s : State) (e : TxEntry) : Option TxEntry :=
  if !e.begun then some e
  else
    match e.beside with
    | some f => some (freshEntry (besideFrame s f))
    | none => if e.doomed then none else some (freshEntry e.frame)

/-- What an entry becomes when the frame end shows that its begun frame had lost arbitration. It has been pending since
(R44): what was queued in that time has replaced it, a NOTICE as it was merged then, and what was withdrawn in that
time is gone (R43; log entry 8). -/
def afterLoss (e : TxEntry) : Option TxEntry :=
  if !e.begun then some e
  else
    match e.beside with
    | some f => some (freshEntry f)
    | none => if e.doomed || e.recalled then none else some (freshEntry e.frame)

/-- Whether a clean frame is the station's own, one it sent past the arbitration region (R45, R49): its slot holds that very
frame, begun. An equal frame of another node at its address, seen while its own has not begun, is not (log entry 7). -/
def isOwn (f : Frame) (s : State) : Bool :=
  match slotEntry s (kindCode f.payload) with
  | some e => e.begun && e.frame == f
  | none => false

/-- The station's frame of kind `k` was sent clean: its entry leaves the slot and the error count becomes 0
(R43, R49). -/
def sentClean (k : Nat) (s : State) : State :=
  let slot := s.bus.slot.filterMap fun e => if entryKind e = k then afterClean s e else some e
  { s with bus := { s.bus with slot := slot, errors := 0 } }

/-- The frame end of another frame: a begun frame of the station had lost arbitration (R44). A pause of the
delayed-request service stands (R174). -/
def notSent (s : State) : State := pauseService (setSlot (s.bus.slot.filterMap afterLoss) s)

/-- The frame end of the station's own frame that drew ERR (R43): a DATA, or an END marked complete, is withdrawn while the
delayed-request service pauses (R174). Whether it pauses is read at this frame end (DESIGN CHOICE, log entry 48). -/
def erred (s : State) : State := pauseService (setSlot (s.bus.slot.filterMap (afterFailure s)) s)

/-- What the station drove in the two slots of a frame. -/
def setSlots (err veto : Bool) (s : State) : State :=
  { s with bus := { s.bus with errDriven := err, vetoDriven := veto } }

/-- Whether the next clean frame is the bid window test's first frame (R56). -/
def isCandidate (s : State) : Bool := s.bus.window == .running false

/-- The bid window test at a clean frame end: the first candidate ends it; a frame passed over does not (R56). -/
def windowAfterClean : Window → Window
  | .running true => .running false
  | _ => .off

/-- A frame end with ERR: a frame passed over has ended, a candidate is passed over (R56). -/
def windowAfterErr : Window → Window
  | .running _ => .running false
  | .off => .off

/-- The bid window outcome "first frame" of a kind that does not open the next step (R92, R115). -/
def firstFrame (k : Nat) (s : State) : State :=
  if (s.run.state = .sweep ∧ k = 2) ∨ (s.run.state = .insulate ∧ k = 4) then s else phaseEnd s

/-- What a station drives in the VETO slot of a clean frame (R48). -/
def vetoOf (s : State) : Payload → Bool
  | .net n => drivesVeto s n.toNat
  | _ => false

/-- A clean frame at its frame end (R42): the slot first, then the block to which the frame is delivered (`act`, told
whether the frame is the station's own), then the bid window outcome (R92, R115; log entry 17). A station
that has not integrated takes no frame (R41); in HELD the frame is delivered to no block (R58). -/
def frameEnd (f : Frame) (act : Bool → State → State) (s : State) : State :=
  if !s.bus.integrated then s
  else if s.bus.held then (if strapFault s then s else setResetCount 0 s)
  else
    let own := isOwn f s
    let s1 := notSent (if own then sentClean (kindCode f.payload) s else s)
    let s2 := setWindow (windowAfterClean s.bus.window) (setSlots false (vetoOf s f.payload) s1)
    let s3 := act own s2
    if isCandidate s then firstFrame (kindCode f.payload) s3 else s3

/-- Delivery of a run-protocol frame to the Step Engine (R52). -/
def toStepEngine (r : Route) : Bool := isStation r.src && r.dst == Config.generalCall

/-- Delivery of an ABORT (R52). -/
def abortDelivered (r : Route) (s : State) : Bool :=
  isConsole r.src && (r.dst == Config.generalCall || decide (r.dst.toNat = addr s))

/-- Delivery of a CREDIT (R52, R151). -/
def creditDelivered (r : Route) : Bool := r.src == Config.printerAddr && r.dst == Config.generalCall

/-- A run-protocol frame. -/
def runFrame (r : Route) (p : Payload) (act : Bool → State → State) (s : State) : State :=
  frameEnd { src := r.src, dst := r.dst, payload := p } (fun own s' => if toStepEngine r then act own s' else s') s

/-- A REQUEST frame, judged at its frame end by its form (R168). The arguments do not bear on the slot, so the frame is
written without them. -/
def request (h : Header) (code : Nat) (act : Form → State → State) (s : State) : State :=
  frameEnd { src := h.src, dst := h.dst, payload := .request (byte code) h.tag [] }
    (fun _ s' => act (formOf h s') s') s

/-- The entry a station offers (R44): the lowest region, and among equal regions the lowest kind code. Entries stand in
the order of kind codes, so the first of the lowest is taken. -/
def offered : List TxEntry → Option TxEntry
  | [] => none
  | e :: rest =>
      match offered rest with
      | none => some e
      | some x => if frameRegion x.frame < frameRegion e.frame then some x else some e

/-- The station begins its offered frame (R44), unless one of its frames has begun already. -/
def beginOffered (s : State) : State :=
  if s.bus.slot.any TxEntry.begun || !s.bus.integrated then s
  else
    match offered s.bus.slot with
    | none => s
    | some x => setSlot (s.bus.slot.map fun e => if entryKind e = entryKind x then { e with begun := true } else e) s

/-- The station's own frame among those seen: the one it sent past the arbitration region (R45, R49). -/
def ownBegun (seen : RawFrame) (s : State) : Option TxEntry :=
  s.bus.slot.find? fun e => e.begun && frameRegion e.frame == rawRegion seen

/-- Whether the station drives the ERR slot: a frame fault (R46), or a bit fault as the transmitter (R45). -/
def drivesErr (seen : RawFrame) (s : State) : Bool :=
  frameFault seen ||
    match ownBegun seen s with
    | some e => rawOf e.frame != seen
    | none => false

/-- A frame end with ERR (R42, R45, R46, R49). -/
def frameErrEnd (seen : RawFrame) (s : State) : State :=
  if !s.bus.integrated || s.bus.held then s
  else
    let fault := drivesErr seen s
    let own := (ownBegun seen s).isSome
    let errors := if own then s.bus.errors + 1 else s.bus.errors
    let s1 := if own then erred s else notSent s
    let s2 := { s1 with bus := { s1.bus with
      errors := errors, errDriven := fault, vetoDriven := false, window := windowAfterErr s.bus.window
      -- an extent that could not be decoded: the length exceeds 48 (R41, R46; log entry 25)
      integrated := !(fault && decide (Config.maxPayload < seen.len.toNat)) } }
    if own && decide (Config.silentAt ≤ errors) then enterSilent s2 else s2

end Sys2Proof.Machine
end

