-- ==== Sys2Proof/Machine/PrintOps.lean ====
section
/-! DEFINITION. The Print Engine (chapter 9): the texts of the print lines (R149, R156, spec 3.11 "Print lines"), the
choice of the next line (R155), bids (R157) and the end of a pass. -/

namespace Sys2Proof.Machine

/-! ## Text -/

/-- A string as characters. -/
def chars (s : String) : List Char := s.toList

/-- A number in decimal without leading zeros. -/
def decimal (n : Nat) : List Char := Nat.toDigits 10 n

/-- A number in decimal with leading zeros to a width. -/
def padded (w n : Nat) : List Char :=
  let d := decimal n
  List.replicate (w - d.length) '0' ++ d

/-- A text left-justified in a column. -/
def column (w : Nat) (t : List Char) : List Char := (t ++ List.replicate (w - t.length) ' ').take w

/-- A print line of 48 characters: columns 1–15, 17–26, 28–37 and 39–48 (spec 3.11). -/
def printLine (a b c d : List Char) : List Byte :=
  (column 15 a ++ ' ' :: column 10 b ++ ' ' :: column 10 c ++ ' ' :: column 10 d).map fun ch => byte ch.toNat

/-- A point as `ss-ppp` (spec 00). -/
def pointText (gp : Nat) : List Char :=
  padded 2 (gp / Config.pointCount) ++ '-' :: padded 3 (gp % Config.pointCount)

/-- An effective net: its number, or `PIN ss-ppp` (R2, R149). -/
def netText (n : Nat) : List Char :=
  if n ≤ Config.maxNet then decimal n else chars "PIN " ++ pointText (n - Config.pseudoBase)

/-- A resistance in ohms with one decimal; 65535 prints as OVER (R149). -/
def ohmText (r : Nat) : List Char :=
  if r = Config.overR then chars "OVER" else decimal (r / 10) ++ '.' :: decimal (r % 10)

/-- A word and a number separated by one space. -/
def wordNumber (w : String) (n : Nat) : List Char := chars w ++ ' ' :: decimal n

/-- A bar reason by name. -/
def reasonText : BarReason → List Char
  | .shorted => chars "SHORTED"
  | .leakage => chars "LEAKAGE"
  | .rating => chars "RATING"

/-- A run end cause by name. -/
def causeText : Cause → List Char
  | .stepTimeout => chars "TIMEOUT"
  | .aborted => chars "ABORTED"
  | .estop => chars "ESTOP"
  | .dischargeFault => chars "DISCHARGE"
  | .busFault => chars "BUS_FAULT"

/-- A where-field (R149). -/
def whereText : Where → List Char
  | .prepare => chars "PREPARE"
  | .point gp => pointText gp
  | .net n => netText n
  | .station a => wordNumber "STN" a

/-- The print line of a record (R149). -/
def recordText : Defect → List Byte
  | .opn net gp => printLine (chars "OPEN") (netText net) (pointText gp) []
  | .highResistance net gp r _ => printLine (chars "HIGH_RESISTANCE") (netText net) (pointText gp) (ohmText r)
  | .short lo hi => printLine (chars "SHORT") (netText lo) (netText hi) []
  | .leakage lo hi r => printLine (chars "LEAKAGE") (netText lo) (netText hi) (ohmText r)
  | .driveFault gp ref => printLine (chars "DRIVE_FAULT") [] (pointText gp) (wordNumber "REF" ref)
  | .undriven net => printLine (chars "UNDRIVEN") (netText net) [] []
  | .insulationFail net v _ ir =>
      printLine (chars "INSULATION_FAIL") (netText net) (wordNumber "V" v) (wordNumber "IR" ir)
  | .breakdown net i ms => printLine (chars "BREAKDOWN") (netText net) (wordNumber "MS" ms) (wordNumber "I" i)
  | .undervolt net v => printLine (chars "UNDERVOLT") (netText net) (wordNumber "V" v) []
  | .notTested net reason => printLine (chars "NOT_TESTED") (netText net) (reasonText reason) []
  | .phaseSkipped => printLine (chars "PHASE_SKIPPED") (chars "NO_SOURCE") [] []
  | .runEnd cause loc => printLine (chars "RUN_END") (causeText cause) (whereText loc) []

/-- The print line of an entry of the Defect List (R144, R149). -/
def entryText (s : State) : ListEntry → List Byte
  | .stored r => recordText r.what
  | .lost => printLine (chars "LOST") (wordNumber "STN" (addr s)) [] (decimal s.defects.lost)

/-- The text of a header line (R156). -/
def headerText (s : State) (n : Nat) : List Byte :=
  if n = 1 then
    printLine (chars "HARNESS DEFECTS") (wordNumber "RUN" s.run.number) []
      (wordNumber "PAGE" (min Config.maxPage (s.print.page + 1)))
  else printLine (chars "DEFECT") (chars "NET") (chars "POINT/NET") (chars "VALUE")

/-- The text of a footer line (R156). Footer line 1 shows the pages begun when it is queued, also where it takes the last
position of a page and R167 counts the page that footer line 2 opens (DEDUCED, log entry 42). -/
def footerText (s : State) (n : Nat) : List Byte :=
  if n = 1 then
    printLine (chars "DEFECT LINES") (decimal s.print.printed) (chars "PAGES") (decimal s.print.page)
  else printLine (chars "END OF REPORT") (wordNumber "RUN" s.run.number) [] []

/-- The print key of an entry (R137, R144). -/
def entryKey (s : State) (e : ListEntry) : Value :=
  printKey (entryIdent s e).order (entryIdent s e).a (entryIdent s e).b (addr s)

/-- The next line of a pass (R155): header, lowest unprinted entry, or footer. -/
def nextLine (s : State) : Payload :=
  if s.print.lineOn < 2 then .line (printKey 0 (s.print.lineOn + 1) 0 0) (headerText s (s.print.lineOn + 1))
  else
    match lowestUnprinted s with
    | some e => .line (entryKey s e) (entryText s e)
    | none => .line (printKey 14 (s.print.footer + 1) 0 0) (footerText s (s.print.footer + 1))

/-- Replace the Print Engine's state. -/
def setPrint (p : Printer) (s : State) : State := { s with print := p }

/-- The LINE bid at the frame ends of R157: formed anew, or withdrawn while the credit copy is 0. -/
def rebid (s : State) : State :=
  if s.print.pass && !s.bus.silent && decide (0 < s.print.credit) then queue Config.generalCall (nextLine s) s
  else withdraw 15 s

/-- The end of a pass in progress (R153, R160, R162, R163): the pending LINE is withdrawn and the stall timer stops;
counters and marks keep their values. -/
def endPass (how : PassEnd) (s : State) : State :=
  withdraw 15 (setPrint { s.print with pass := false, outcome := how, stall := none } s)

/-- A pass start (R152), without its first bid. -/
def startPass (s : State) : State :=
  let s1 := clearMarks s
  setPrint { s1.print with
    pass := true, lineOn := 0, page := 0, printed := 0, footer := 0, pageLength := s1.params.page
    stall := some 0 } s1

/-- The page counters at a clean LINE during a pass (R158, R159). -/
def countLine (key : Value) (p : Printer) : Printer :=
  let o := keyOrder key
  { p with
    lineOn := if p.lineOn + 1 = p.pageLength then 0 else p.lineOn + 1
    page := if o = 0 ∧ keyA key = 1 then min Config.maxPage (p.page + 1) else p.page
    printed := if 1 ≤ o ∧ o ≤ 13 then min Config.countLimit (p.printed + 1) else p.printed
    footer := if o = 14 ∧ keyA key = 1 then 1 else if o = 14 ∧ keyA key = 2 then 2 else p.footer
    stall := some 0 }

/-- A clean LINE (R145, R151, R157 to R161). -/
def takeLine (src : Addr) (key : Value) (s : State) : State :=
  let s1 := markLine src key (setPrint { s.print with credit := s.print.credit - 1 } s)
  if !s1.print.pass then s1
  else
    let s2 := setPrint (countLine key s1.print) s1
    if keyOrder key = 14 ∧ keyA key = 2 then raise .printDone (endPass .done s2) else rebid s2

/-- A clean CREDIT (R151, R157, R162). -/
def takeCredit (count : Nat) (s : State) : State :=
  let s1 := setPrint { s.print with credit := count } s
  if s1.print.pass then rebid (setPrint { s1.print with stall := some 0 } s1) else s1

end Sys2Proof.Machine
end

