-- ==== Sys2Proof/Machine/Answers.lean ====
section
/-! DEFINITION. What the Request Decoder answers: block records, QUERY STATUS sections (R172), point and defect items
(R175, R176), the service of delayed requests (R173, R174, R177), and the SUMMARY (R182). Layouts: spec 3.11. -/

namespace Sys2Proof.Machine

/-! ## QUERY STATUS -/

/-- A block record in four bytes. -/
def blockBytes (b : Block) : List Byte :=
  [byte (b.code.getD 0), byte (bandCode b.band), byte (kindNumber b.kind),
    byte (fittedCount b.kind + 128 * (kindRated b.kind).toNat)]

/-- The eight block records. -/
def blocksBytes (s : State) : List Byte := (s.blocks.records.map blockBytes).flatten

/-- The current step as kind and value (section 0, bytes 9 to 12). -/
def stepBytes : CurStep → List Byte
  | .none => [0, 0, 0, 255]
  | .point gp d => 1 :: halfBytes (half gp) ++ [byte d]
  | .net n => 2 :: halfBytes (half n) ++ [255]

/-- The offset in two's complement. -/
def offsetByte (o : Int) : Byte := BitVec.ofInt 8 o

/-- The delayed request in progress (section 0, bytes 21 to 23). -/
def contextBytes : Option Context → List Byte
  | none => [0, 0, 0]
  | some c => [1, byte (delayedCode c.kind), addrByte c.requester]

/-- Section 0, station and run. -/
def statusStation (s : State) : List Byte :=
  [byte (addr s), byte (s.straps.rate.toNat + 2 * s.straps.hvsrc.toNat + 4 * s.straps.autodet.toNat),
    byte (runStateCode s.run.state)]
    ++ halfBytes (half s.run.number)
    ++ [byte (s.run.sweepOn.toNat + 2 * s.run.insOn.toNat), byte (s.run.elected.getD 255), boolByte s.run.halt]
    ++ stepBytes s.run.step
    ++ [byte (s.lines.estop.toNat + 2 * s.lines.holdSeen.toNat + 4 * s.lines.liveSeen.toNat
          + 8 * s.lines.holdOut.toNat + 16 * s.lines.liveOut.toNat),
        byte (overrideCode s.matrix.override), byte s.bus.errors, offsetByte s.sampler.offset]
    ++ halfBytes (statusField s.decoder.status) ++ halfBytes (statusField s.decoder.mask)
    ++ contextBytes s.decoder.ctx

/-- Section 1, parameters. -/
def statusParams (s : State) : List Byte :=
  paramBytes s.params ++ halfBytes (half s.params.l) ++ halfBytes (half (effectiveH s.params))
    ++ watchBytes s s.run.watch1 ++ watchBytes s s.run.watch2

/-- Section 2, blocks. -/
def statusBlocks (s : State) : List Byte :=
  blocksBytes s ++ s.blocks.manual.map (fun k => byte (kindNumber k)) ++ [byte (allowedCode s.blocks.allowed)]

/-- Section 3, insulation; nothing after the section number where HVSRC is low. -/
def statusHv (s : State) : List Byte :=
  if !s.straps.hvsrc then []
  else
    [boolByte s.hv.elected, byte (hvStageCode s.hv.stage)]
      ++ (match s.hv.result with
          | some r => byte (verdictCode r.verdict) :: halfBytes (half r.v) ++ halfBytes (half r.i)
              ++ wideBytes (wide r.ir) ++ wideBytes (wide r.ms)
          | none => 255 :: List.replicate 12 0)
      ++ [byte s.hv.userLength]

/-- Section 4, list and print. -/
def statusList (s : State) : List Byte :=
  halfBytes (half s.defects.records.length)
    ++ ((List.range 12).map fun k => halfBytes (half (classCount s (k + 1)))).flatten
    ++ halfBytes (half s.defects.lost)
    ++ [boolByte s.print.pass, byte (passEndCode s.print.outcome), byte s.print.credit, byte s.print.pageLength,
        byte s.print.lineOn]
    ++ halfBytes (half s.print.page) ++ halfBytes (half s.print.printed) ++ [byte s.print.footer]

/-- The REPLY data of QUERY STATUS (R172); none for a section above 4. -/
def statusData (s : State) (part : Nat) : Option (List Byte) :=
  match part with
  | 0 => some (0 :: statusStation s)
  | 1 => some (1 :: statusParams s)
  | 2 => some (2 :: statusBlocks s)
  | 3 => some (3 :: statusHv s)
  | 4 => some (4 :: statusList s)
  | _ => none

/-! ## Items -/

/-- The switch states admitted, one bit per code (point item, byte 17). -/
def admittedBits (s : State) (i : Nat) (p : Point) : Nat :=
  ([Switch.float, .sense, .drive, .hv, .ret].map fun t => (admitsPoint s i p t).toNat * 2 ^ switchCode t).sum

/-- The Net Map entry of a point item (bytes 18 to 23). -/
def entryBytes : Option NetEntry → List Byte
  | none => [255, 0, 0, 0, 0, 0]
  | some e => byte (insStateCode e.state) :: halfBytes (half e.count) ++ halfBytes (gpField e.leader)
      ++ [byte ((e.reason.map reasonCode).getD 0)]

/-- The point item of QUERY POINT and DUMP POINTS (R175). -/
def pointItem (s : State) (gp : Nat) : List Byte :=
  let i := localOf gp
  let p := pointAt s i
  halfBytes (half gp) ++ halfBytes (half p.net) ++ [byte (roleCode p.role)]
    ++ halfBytes (half (effNetOf s i p))
    ++ [byte (switchCode p.switch), byte ((p.pending.map switchCode).getD 255), boolByte p.driven]
    ++ halfBytes (gpField p.leader)
    ++ [byte ((p.last.map fun x => classCode x.cls).getD 255)]
    ++ halfBytes (half ((p.last.map LastReading.r).getD 0))
    ++ [byte ((fitted s i).toNat + 2 * (rated s i).toNat + 4 * (busy s p).toNat
          + 8 * (s.matrix.override != .none).toNat),
        byte (kindNumber (blockKind s (i / Config.blockPoints))), byte (admittedBits s i p)]
    ++ entryBytes (netEntry s (effNetOf s i p))

/-- The eight body bytes of a defect item (spec 3.11), unused bytes 0. -/
def bodyBytes (d : Defect) : List Byte :=
  let used : List Byte :=
    match d with
    | .highResistance _ _ r drive => halfBytes (half r) ++ halfBytes (half drive)
    | .leakage _ _ r => halfBytes (half r)
    | .driveFault _ ref => halfBytes (half ref)
    | .insulationFail _ v i ir => halfBytes (half v) ++ halfBytes (half i) ++ wideBytes (wide ir)
    | .breakdown _ i ms => halfBytes (half i) ++ wideBytes (wide ms)
    | .undervolt _ v => halfBytes (half v)
    | .notTested _ reason => [byte (reasonCode reason)]
    | _ => []
  used ++ List.replicate (8 - used.length) 0

/-- The five key bytes of a defect item: the 37-bit key in the low bits. -/
def keyBytes (k : Value) : List Byte := byte (k.toNat / 2 ^ 32) :: wideBytes (wide (k.toNat % 2 ^ 32))

/-- The defect item of DUMP DEFECTS (R176). -/
def defectItem (s : State) (e : ListEntry) : List Byte :=
  let id := entryIdent s e
  let body := match e with
    | .stored r => bodyBytes r.what
    | .lost => halfBytes (half s.defects.lost) ++ List.replicate 6 0
  keyBytes (entryKey s e) ++ [byte id.order] ++ halfBytes (half id.a) ++ halfBytes (half id.b) ++ body
    ++ [byte (markCode (entryMark s e))]

/-! ## Delayed requests -/

/-- Replace the delayed-request context. -/
def setContext (c : Option Context) (s : State) : State := { s with decoder := { s.decoder with ctx := c } }

/-- The next item of a context as cursor field, item bytes and the key sent (R175, R176); none when no item remains. -/
def nextItem (s : State) (c : Context) : Option (Nat × List Byte × Option Ident) :=
  match c.kind with
  | .dumpDefects => (entryAbove s c.lastKey).map fun e => (c.sent, defectItem s e, some (entryIdent s e))
  | _ => if c.cursor ≤ c.last then some (c.cursor, pointItem s c.cursor, none) else none

/-- Queue END to the requester with the number sent (R174, R177); mark 0 complete, 1 cancelled. -/
def queueEnd (c : Context) (mark : Byte) (s : State) : State :=
  queue c.requester (.answerEnd (byte (delayedCode c.kind)) c.tag (half c.sent) mark) s

/-- The service of the delayed request (R174): while the station's HOLD output is released and no DATA is pending, the
next DATA is formed, or END with the number sent when no item remains. An END still pending from before an item that
appeared late is replaced (R43), so that it carries the number of every DATA sent; one that has begun stands. -/
def serve (s : State) : State :=
  match s.decoder.ctx with
  | none => s
  | some c =>
      if s.lines.holdOut || c.cancelled || hasPending s 11 then s
      else
        match nextItem s c with
        | some (cursor, item, key) =>
            queue c.requester (.data (byte (delayedCode c.kind)) c.tag (half cursor) item)
              (setContext (some { c with sending := key, formed := true }) s)
        | none => if (slotEntry s 12).any TxEntry.begun then s else queueEnd c 0 s

/-- The station's own DATA was sent clean (R174, R176): it counts for the context it was formed for. -/
def dataSent (s : State) : State :=
  match s.decoder.ctx with
  | none => s
  | some c =>
      if c.formed then
        setContext (some { c with
          sent := c.sent + 1
          cursor := c.cursor + 1
          lastKey := if c.kind = .dumpDefects then c.sending else c.lastKey
          formed := false }) s
      else s

/-- A delayed request in progress is cancelled (R176, R177): the pending DATA is withdrawn and END queued at once. -/
def cancelContext (c : Context) (s : State) : State :=
  queueEnd c 1 (setContext (some { c with cancelled := true }) (withdraw 11 s))

/-- The clearing of the Defect List at START RUN ends a DUMP DEFECTS in progress (R176). -/
def endDump (s : State) : State :=
  match s.decoder.ctx with
  | some c => if c.kind = .dumpDefects then cancelContext c s else s
  | none => s

/-- Open a delayed-request context (R173). -/
def openContext (k : Delayed) (h : Header) (first last : Nat) (s : State) : State :=
  setContext (some
    { kind := k, tag := h.tag, requester := h.src, cursor := first, last := last, lastKey := none
      sending := none, sent := 0, cancelled := false, formed := false }) s

/-! ## SUMMARY (R182) -/

/-- The grade of a sum of class counts. -/
def grade (n : Nat) : Nat :=
  if n = 0 then 0 else if n = 1 then 1 else if n ≤ 5 then 2 else if n ≤ 10 then 3 else if n ≤ 100 then 4 else 5

/-- Where kind and value of a SUMMARY. -/
def summaryWhere (s : State) : Nat × Nat :=
  match s.run.state, s.run.step with
  | .prepare, _ => (3, 0)
  | .sweep, .point gp _ => (1, gp)
  | .insulate, .net n => (2, n)
  | _, _ => (0, 0)

/-- The SUMMARY as it stands. -/
def summaryPayload (s : State) : Payload :=
  let c := classCount s
  let w := summaryWhere s
  .summary (half s.run.number) (byte (runStateCode s.run.state)) (byte w.1) (half w.2)
    (boolByte (decide (0 < s.defects.lost)))
    ([c 1, c 2, c 3 + c 4, c 5 + c 6, c 7 + c 8 + c 9].map fun n => byte (grade n))

end Sys2Proof.Machine
end

