-- ==== Sys2Proof/Machine/Power.lean ====
section
/-! DEFINITION. The commands of power-up and HELD: POWER_UP, HELD_FRAME, BUS_INTEGRATION. -/

namespace Sys2Proof.Machine

/-- What a command answers. -/
abbrev Answer := Host.Outcome State Fault Refusal

/-- POWER_UP (R57, R58): the straps are read, every relay is open, all state takes its power-up value. The queue is the
model's and stays. -/
def execPowerUp (straps : Straps) (hold live estop : Bool) (s : State) : Answer :=
  .next { State.atPowerUp straps hold live estop with pending := s.pending }

/-- HELD_FRAME (R58): a clean frame taken in HELD. -/
def execHeldFrame (f : Frame) (ids : IdCodes) (s : State) : Answer :=
  .next (if s.bus.integrated && s.bus.held then heldTakes f ids s else s)

/-- BUS_INTEGRATION (R41): eleven consecutive recessive bit times have been seen. -/
def execBusIntegration (s : State) : Answer :=
  .next { s with bus := { s.bus with integrated := true } }

end Sys2Proof.Machine
end

