-- ==== Sys2Proof/Machine/LineEvents.lean ====
section
/-! DEFINITION. The line events: ESTOP (R33, R34), HOLD (R77, R80, R81, R101, R104, R109, R118, R132, R133) and LIVE
(R29, R30, R77). An event whose line stands as it would become is no event (R53; log entry 3). -/

namespace Sys2Proof.Machine

/-- ESTOP_ASSERTED (R33). In HELD it takes effect at release (R58). -/
def execEstopAsserted (s : State) : Answer :=
  .next (if s.lines.estop then s
    else
      let s1 := { s with lines := { s.lines with estop := true } }
      if s1.bus.held then s1 else estopWork s1)

/-- ESTOP_RELEASED (R34): the hold of R32 ends where no FLOAT override is in force; nothing starts. -/
def execEstopReleased (s : State) : Answer :=
  .next { s with lines := { s.lines with estop := false } }

/-- HOLD_SEEN_ASSERTED (R77). -/
def execHoldSeenAsserted (s : State) : Answer :=
  .next (if s.lines.holdSeen then s else holdRises s)

/-- HOLD seen released in PREPARE: the election is fixed (R79) and the first phase entered (R80). -/
def prepareEnd (inProgress : Bool) (s : State) : State :=
  let s1 := if s.straps.hvsrc && s.run.elected == some (addr s) then setHv { s.hv with elected := true } s else s
  if s1.run.sweepOn then sweepEntry inProgress s1 else insulationEntry true inProgress s1

/-- The REF frame of a reference code (R101). -/
def refPayload (c : RefCode) : Payload := .ref (half c.gp) (half c.code) (boolByte c.weak)

/-- The end of the drive barrier (R101). -/
def driveBarrierEnd (s : State) : State :=
  let s1 := setSweepStage .awaitingRef s
  match drivenHere s1 with
  | none => s1
  | some gp =>
      let s2 := updatePoint (localOf gp) (fun p => { p with driven := true, leader := some gp }) s1
      let s3 := batch .toSense [(localOf gp, .sense)] s2
      match s3.sampler.ref with
      | some c => queue Config.generalCall (refPayload c) s3
      | none => s3

/-- The completion of a sweep step (R104). -/
def stepCompletion (inProgress : Bool) (s : State) : State :=
  bidDrive (setSweepStage .bidding (markStep inProgress (timerStop s)))

/-- The end of the switching barrier (R118): the HV interval at the elected source, the wait for its RESULT elsewhere. -/
def hvIntervalStart (s : State) : State :=
  if s.hv.elected then assertLive (assertHold (startEngine (setInsStage .hvInterval s)))
  else setInsStage .awaitingResult s

/-- The completion of an insulation step (R132). -/
def insStepComplete (inProgress : Bool) (s : State) : State :=
  bidNet (setInsStage .bidding (markStep inProgress (timerStop s)))

/-- A step that ends with no result (R133). -/
def stepWithoutResult (inProgress : Bool) (s : State) : State :=
  bidNet (setInsStage .bidding (markStep inProgress (timerStop (floatAll .noResult s))))

/-- What HOLD seen released completes, by run state and stage; in every other case the timer stops (R77). -/
def barrierEnd (inProgress : Bool) (s : State) : State :=
  match s.run.state with
  | .prepare => prepareEnd inProgress (timerStop s)
  | .sweep =>
      match s.run.sweepStage with
      | .driveReleased => driveBarrierEnd (timerRestart .running s)
      | .stepReleased => stepCompletion inProgress s
      | .endReleased => insulationEntry false inProgress (timerStop s)
      | _ => timerStop s
  | .insulate =>
      match s.run.insStage with
      | .switched => hvIntervalStart (timerRestart .running s)
      | .awaitingResult => stepWithoutResult inProgress s
      | .restored => insStepComplete inProgress s
      | _ => timerStop s
  | _ => s

/-- HOLD_SEEN_RELEASED (R54). While the station asserts its own output the line is not seen released (R53). -/
def execHoldSeenReleased (inProgress : Bool) (s : State) : Answer :=
  .next (if s.lines.holdSeen && !s.lines.holdOut then
      barrierEnd inProgress { s with lines := { s.lines with holdSeen := false } }
    else s)

/-- LIVE_SEEN_ASSERTED (R29, R77). The matrix holds changes by R29 from now on. -/
def execLiveSeenAsserted (s : State) : Answer :=
  .next (if s.lines.liveSeen then s else liveRises s)

/-- A timer suspended by LIVE runs again from the elapsed time kept (R77). -/
def timerResume (s : State) : State :=
  match s.run.timer.mode with
  | .suspended false => setTimer { s.run.timer with mode := .running } s
  | _ => s

/-- LIVE_SEEN_RELEASED (R30, R77). While the station asserts its own output the line is not seen released (R53). -/
def execLiveSeenReleased (s : State) : Answer :=
  .next (if s.lines.liveSeen && !s.lines.liveOut then
      mapPoints (fun _ p => liveFreed s.params.s p)
        (timerResume { s with lines := { s.lines with liveSeen := false } })
    else s)

end Sys2Proof.Machine
end

