-- ==== Sys2Proof/Machine/BusEvents.lean ====
section
/-! DEFINITION. The Bus Controller's commands: BEGIN_FRAME, FRAME_ERR, OTHER_CLEAN_FRAME, BID_WINDOW_EXPIRED. -/

namespace Sys2Proof.Machine

/-- BEGIN_FRAME (R44): the station begins the frame it offers, where it has one. -/
def execBeginFrame (s : State) : Answer := .next (beginOffered s)

/-- FRAME_ERR (R42, R45, R46, R49, R50). -/
def execFrameErr (seen : RawFrame) (s : State) : Answer := .next (frameErrEnd seen s)

/-- OTHER_CLEAN_FRAME (R52): no block takes the frame; it leaves its transmitter's slot and counts for the bid window
(R56) and, in HELD, for the RESET count (R58). -/
def execOtherCleanFrame (f : Frame) (s : State) : Answer := .next (frameEnd f (fun _ s' => s') s)

/-- BID_WINDOW_EXPIRED (R56, R92, R115): 64 idle bit times with no clean candidate. -/
def execBidWindowExpired (s : State) : Answer :=
  .next (if isCandidate s && !s.bus.slot.any TxEntry.begun then phaseEnd (setWindow .off s) else s)

end Sys2Proof.Machine
end

