-- ==== Sys2Proof/Machine/RunFrames.lean ====
section
/-! DEFINITION. The run-protocol frames: ABORT (R86), DRIVE (R93, R94), REF (R102, R103), NET (R116, R117), RESULT
(R131, R132, R87), SOURCE_READY (R78, R79), HALTED (R99). -/

namespace Sys2Proof.Machine

/-- ABORT (R86): ends an active run with cause ABORTED, and is ignored outside one. -/
def execAbort (r : Route) (s : State) : Answer :=
  .next (frameEnd { src := r.src, dst := r.dst, payload := .abort }
    (fun _ s' => if abortDelivered r s' then endActiveRun .aborted s' else s') s)

/-- A clean DRIVE opens a sweep step (R93), and the driver switches d to DRIVE (R94). The settle wait is 1 ms + S with
the S in force at this frame end (R95). -/
def openSweepStep (src gp net : Nat) (s : State) : State :=
  let s1 := withdraw 2 (setRun { s.run with
    step := .point gp src, driveNet := net, settleWait := some (Config.breakMs + s.params.s), driveDone := false } s)
  let s2 := setSweepStage .settling (assertHold s1)
  match drivenHere s2 with
  | some g => batch .toDrive [(localOf g, .drive)] s2
  | none => s2

/-- DRIVE_FRAME (R88, R93). -/
def execDriveFrame (r : Route) (gp net : Half) (s : State) : Answer :=
  .next (runFrame r (.drive gp net) (fun _ s' =>
    if s'.run.state = .sweep ∧ s'.run.sweepStage = .bidding then
      openSweepStep r.src.toNat gp.toNat net.toNat s' else s') s)

/-- The step's clean REF (R102, R103, R66, R20, R70): classification takes no time, so the station releases HOLD at the
same frame end. -/
def takeRef (gp code : Nat) (weak : Bool) (s : State) : State :=
  let s1 := assertHold (timerStop (setSweepStage .classifying s))
  let s2 :=
    if weak then
      (if drivenHere s1 = some gp then offer (.driveFault gp code) s1 else s1)
    else
      classifyStep { gp := gp, net := s1.run.driveNet } code (updateNet s1.run.driveNet (leadNet gp) s1)
  setSweepStage .stepReleased (releaseHold s2)

/-- REF_FRAME (R102): the step's REF has the step's gp and comes from its driver. -/
def execRefFrame (r : Route) (gp code : Half) (flags : Byte) (s : State) : Answer :=
  .next (runFrame r (.ref gp code flags) (fun _ s' =>
    if s'.run.state = .sweep ∧ s'.run.sweepStage = .awaitingRef ∧ s'.run.step = .point gp.toNat r.src.toNat then
      takeRef gp.toNat code.toNat (flags.getLsbD 0) s' else s') s)

/-- The target of a point in the switching batch (R117). -/
def switchingTarget (s : State) (n i : Nat) (p : Point) : Switch :=
  if !sensable s i p then .float else if effNetOf s i p = n then .hv else .ret

/-- A clean NET opens an insulation step (R116): vetoed, or switched (R117). -/
def openInsStep (n : Nat) (vetoed : Bool) (s : State) : State :=
  let s1 := withdraw 4 (setRun { s.run with step := .net n } s)
  if vetoed then bidNet (markStep false (updateNet n vetoNet s1))
  else
    let s2 := setInsStage .switching (assertHold s1)
    batch .switching (targetsBy s2 (switchingTarget s2 n)) s2

/-- NET_FRAME (R48, R112, R116): VETO is seen dominant where this station or another drives it. -/
def execNetFrame (r : Route) (n : Half) (othersVeto : Bool) (s : State) : Answer :=
  .next (runFrame r (.net n) (fun _ s' =>
    if s'.run.state = .insulate ∧ s'.run.insStage = .bidding then
      openInsStep n.toNat (othersVeto || s'.bus.vetoDriven) s' else s') s)

/-- The record of the source's measured verdict (R131). -/
def recordVerdict (n : Nat) (s : State) : State :=
  match s.hv.result with
  | none => s
  | some m =>
      match m.verdict with
      | .insulationFail => offer (.insulationFail n m.v m.i m.ir) s
      | .breakdown => offer (.breakdown n m.i m.ms) s
      | .undervolt => offer (.undervolt n m.v) s
      | _ => s

/-- The step's clean RESULT at a station (R132), or the run end of a discharge fault (R87). -/
def takeResult (n : Nat) (verdict : Byte) (s : State) : State :=
  let s1 := updateNet n testNet s
  if verdict.toNat = verdictCode .dischargeFault then runEnd .dischargeFault (.net n) s1
  else floatAll .restoring (setInsStage .restoring (assertHold s1))

/-- The quiet stage: HVEN low and setpoint 0, as the discharge left them (R128, R131). -/
def quietEngine (s : State) : State := setHv { s.hv with stage := .quiet, setpoint := 0, hven := false } s

/-- The source's own clean RESULT (R131): its record first, then R132 or R87; its interval stage becomes quiet unless a
discharge fault left it following. -/
def takeOwnResult (n : Nat) (verdict : Byte) (s : State) : State :=
  let s1 := recordVerdict n s
  takeResult n verdict (if verdict.toNat = verdictCode .dischargeFault then s1 else quietEngine s1)

/-- RESULT_FRAME (R112, R131, R132). -/
def execResultFrame (r : Route) (net : Half) (verdict : Byte) (v i : Half) (ir ms : Wide) (s : State) : Answer :=
  .next (runFrame r (.result net verdict v i ir ms) (fun own s' =>
    if s'.run.state = .insulate ∧ s'.run.step = .net net.toNat ∧ s'.run.elected = some r.src.toNat then
      match s'.run.insStage, own with
      | .awaitingResult, _ => takeResult net.toNat verdict s'
      | .hvInterval, true => takeOwnResult net.toNat verdict s'
      | _, _ => s'
    else s') s)

/-- The lowest source address noted (R79). -/
def lowestSource (held : Option Nat) (a : Nat) : Option Nat :=
  match held with
  | none => some a
  | some b => some (min b a)

/-- SOURCE_READY (R78, R79): noted for the election in PREPARE; its sender releases HOLD at its own clean frame. -/
def execSourceReady (r : Route) (run : Half) (s : State) : Answer :=
  .next (runFrame r (.sourceReady run) (fun own s' =>
    if s'.run.state = .prepare ∧ run.toNat = s'.run.number then
      let s1 := setRun { s'.run with elected := lowestSource s'.run.elected r.src.toNat } s'
      if own then releaseHold s1 else s1
    else s') s)

/-- HALTED (R77, R99): the timer of every station in the run stands suspended; its sender's halt flag is set. In INSULATE
it is disregarded (R112). -/
def execHalted (r : Route) (gp : Half) (watch : Byte) (s : State) : Answer :=
  .next (runFrame r (.halted gp watch) (fun own s' =>
    if s'.run.state = .sweep ∨ s'.run.state = .prepare then
      let s1 := timerHalt s'
      if own ∧ s1.run.sweepStage = .halted then setRun { s1.run with halt := true } s1 else s1
    else s') s)

end Sys2Proof.Machine
end

