-- ==== Sys2Proof/Machine/PrintFrames.lean ====
section
/-! DEFINITION. The frames of a print pass (CREDIT, LINE) and of delayed answers (DATA, END, and their service). -/

namespace Sys2Proof.Machine

/-- CREDIT (R151, R157, R162), from the printer adapter by general call alone. -/
def execCredit (r : Route) (count : Byte) (s : State) : Answer :=
  .next (frameEnd { src := r.src, dst := r.dst, payload := .credit count }
    (fun _ s' => if creditDelivered r then takeCredit count.toNat s' else s') s)

/-- LINE (R145, R151, R157 to R161). -/
def execLine (r : Route) (key : Value) (text : List Byte) (s : State) : Answer :=
  .next (runFrame r (.line key text) (fun _ s' => takeLine r.src key s') s)

/-- DATA_FRAME (R174): at the station's own clean DATA the cursor of the context it was formed for advances and
the number sent rises. -/
def execDataFrame (r : Route) (code tag : Byte) (cursor : Half) (item : List Byte) (s : State) : Answer :=
  .next (frameEnd { src := r.src, dst := r.dst, payload := .data code tag cursor item }
    (fun own s' => if own then dataSent s' else s') s)

/-- END_FRAME (R174): at the station's own clean END the context becomes none. A DATA formed for an item that appeared while
that END was on the bus stays pending, goes out after it and counts for no context (DESIGN CHOICE, log entry 43). -/
def execEndFrame (r : Route) (code tag : Byte) (count : Half) (mark : Byte) (s : State) : Answer :=
  .next (frameEnd { src := r.src, dst := r.dst, payload := .answerEnd code tag count mark }
    (fun own s' => if own then setContext none s' else s') s)

/-- DELAYED_REQUEST_SERVICE (R174). -/
def execDelayedRequestService (s : State) : Answer := .next (serve s)

end Sys2Proof.Machine
end

