-- ==== Sys2Proof/Machine/TableRequests.lean ====
section
/-! DEFINITION. The requests that write the netlist slice and the blocks: ASSIGN NET (R7), ASSIGN RANGE (R8), CLEAR TABLE
(R9), SET BLOCKS (R15), with the admission check (R6). -/

namespace Sys2Proof.Machine

/-- The points whose state, or pending target, the manual row does not admit (R6). -/
def notAdmitted (s : State) : List (Nat × Switch) :=
  s.points.zipIdx.filterMap fun q =>
    if admitsPoint s q.2 q.1 (q.1.pending.getD q.1.switch) then none else some (q.2, .float)

/-- The admission check (R6): every such point is requested to FLOAT, in one batch. -/
def admissionCheck (s : State) : State := batch .admission (notAdmitted s) s

/-- Write the netlist fields of a record. -/
def assign (net : Nat) (role : Role) (p : Point) : Point := { p with net := net, role := role }

/-- ASSIGN NET taken by its station: the checks of R7 in order, then the write, the REPLY and the admission check. -/
def assignNet (h : Header) (gp net : Nat) (role : Byte) (s : State) : State :=
  if !owns s gp then refuse h 1 .range gp s
  else if runActive s then refuse h 1 .runActive gp s
  else if s.matrix.override ≠ .none ∨ busy s (pointAt s (localOf gp)) then refuse h 1 .busy gp s
  else
    match (if net ≤ Config.maxNet then roleOfCode role else none) with
    | none => refuse h 1 .range gp s
    | some ro =>
        admissionCheck (reply h 1 (halfBytes (half gp) ++ halfBytes (half net) ++ [role])
          (updatePoint (localOf gp) (assign net ro) s))

/-- ASSIGN_NET (R7, R169). -/
def execAssignNet (h : Header) (gp net : Half) (role : Byte) (s : State) : Answer :=
  .next (request h 1 (fun form s' =>
    match form with
    | .addressed => assignNet h gp.toNat net.toNat role s'
    | _ => s') s)

/-- The net ASSIGN RANGE gives a gp (R8). -/
def rangeNet (first net stp gp : Nat) : Nat := if stp = 1 then net + (gp - first) else net

/-- Whether the arguments of ASSIGN RANGE are in order (R8). -/
def rangeInOrder (first last net stp : Nat) : Bool :=
  decide (first ≤ last) && decide (last ≤ Config.maxGp) && decide (net ≤ Config.maxNet) && decide (stp ≤ 1)
    && (stp == 0 || (net != 0 && decide (net + (last - first) ≤ Config.maxNet)))

/-- What ASSIGN RANGE makes of one record (R8): written where its gp lies in the range, it is not busy and no override
is in force. -/
def rangePoint (first last net stp : Nat) (role : Role) (s : State) (i : Nat) (p : Point) : Point :=
  if first ≤ gpOf s i ∧ gpOf s i ≤ last ∧ s.matrix.override = .none ∧ busy s p = false then
    assign (rangeNet first net stp (gpOf s i)) role p
  else p

/-- ASSIGN RANGE taken (R8). A range that holds no gp of this station changes nothing. -/
def assignRange (first last net stp : Nat) (role : Role) (s : State) : State :=
  if s.points.zipIdx.any (fun q => decide (first ≤ gpOf s q.2 ∧ gpOf s q.2 ≤ last)) then
    admissionCheck (mapPoints (rangePoint first last net stp role s) s)
  else s

/-- ASSIGN_RANGE (R8, R169). -/
def execAssignRange (h : Header) (first last net : Half) (stp role : Byte) (s : State) : Answer :=
  .next (request h 2 (fun form s' =>
    match form with
    | .unheard => s'
    | .addressed => refuse h 2 .range 0 s'
    | .general =>
        match roleOfCode role with
        | none => s'
        | some ro =>
            if rangeInOrder first.toNat last.toNat net.toNat stp.toNat && !runActive s' then
              assignRange first.toNat last.toNat net.toNat stp.toNat ro s'
            else s') s)

/-- Every record to net 0, SIGNAL (R9). -/
def clearTable (s : State) : State := mapPoints (fun _ p => assign 0 .signal p) s

/-- CLEAR_TABLE (R9). -/
def execClearTable (h : Header) (s : State) : Answer :=
  .next (request h 3 (fun form s' =>
    match form with
    | .unheard => s'
    | .addressed =>
        if runActive s' then refuse h 3 .runActive 0 s' else reply h 3 [] (clearTable s')
    | .general => if runActive s' then s' else clearTable s') s)

/-- The first argument of SET BLOCKS out of range: a block, or 8 for the allowed set (R170). -/
def firstBadBlock (kinds : List Byte) : Nat := kinds.findIdx fun k => (kindOfNumber k).isNone

/-- Store the arguments of SET BLOCKS (R15); with AUTODET low the manual kinds take force at once, with the admission
check where they alter the kinds in force (R6, R14). -/
def storeBlocks (manual : List Kind) (allowed : KindSet) (s : State) : State :=
  let s1 := { s with blocks := { s.blocks with manual := manual, allowed := allowed } }
  if s.straps.autodet then s1
  else
    setBlockRecords (manual.map fun k => { code := none, band := none, kind := k }) s1

/-- SET BLOCKS taken by its station (R15): the REPLY carries the records as they stand after the request. -/
def setBlocks (h : Header) (kinds : Vector Byte 8) (allowed : Byte) (s : State) : State :=
  if runActive s then refuse h 4 .runActive 0 s
  else if s.matrix.override ≠ .none ∨ s.points.any (busy s) then refuse h 4 .busy 0 s
  else
    match kinds.toList.mapM kindOfNumber, allowedOfCode allowed with
    | some manual, some a =>
        let s1 := storeBlocks manual a s
        let s2 := reply h 4 (blocksBytes s1) s1
        if s1.blocks.records.map Block.kind = s.blocks.records.map Block.kind then s2 else admissionCheck s2
    | _, _ => refuse h 4 .range (firstBadBlock kinds.toList) s

/-- SET_BLOCKS (R15, R169). -/
def execSetBlocks (h : Header) (kinds : Vector Byte 8) (allowed : Byte) (s : State) : Answer :=
  .next (request h 4 (fun form s' =>
    match form with
    | .addressed => setBlocks h kinds allowed s'
    | _ => s') s)

end Sys2Proof.Machine
end

