-- ==== Sys2Proof/Machine/RunRequests.lean ====
section
/-! DEFINITION. The requests of a run: RUN PARAMETERS (R73), PROFILE SEGMENT and LENGTH (R122), START RUN (R75, R76, R78),
CONTINUE (R100), SET WATCH (R171). -/

namespace Sys2Proof.Machine

/-- RUN_PARAMETERS (R73): stored in every run state; answered when addressed. -/
def execRunParameters (h : Header) (a : ParamArgs) (s : State) : Answer :=
  .next (request h 5 (fun form s' =>
    match form with
    | .unheard => s'
    | .addressed => reply h 5 (paramBytes (storedParams a)) { s' with params := storedParams a }
    | .general => { s' with params := storedParams a }) s)

/-- Store a user segment, level and duration clamped (R122). -/
def storeSegment (index level duration : Nat) (s : State) : State :=
  setHv { s.hv with segments := s.hv.segments.set index { level := clamp 0 100 level, ms := clamp 0 10000 duration } } s

/-- PROFILE_SEGMENT (R122, R169). -/
def execProfileSegment (h : Header) (index level : Byte) (duration : Half) (s : State) : Answer :=
  .next (request h 6 (fun form s' =>
    match form with
    | .unheard => s'
    | .addressed => refuse h 6 .range 0 s'
    | .general =>
        if s'.straps.hvsrc && decide (index.toNat < Config.segmentCount) then
          storeSegment index.toNat level.toNat duration.toNat s'
        else s') s)

/-- PROFILE_LENGTH (R122, R169). -/
def execProfileLength (h : Header) (length : Byte) (s : State) : Answer :=
  .next (request h 7 (fun form s' =>
    match form with
    | .unheard => s'
    | .addressed => refuse h 7 .range 0 s'
    | .general =>
        if s'.straps.hvsrc then setHv { s'.hv with userLength := clamp 0 16 length.toNat } s' else s') s)

/-- The case in which START RUN is not accepted, in the order of R75; none when it is accepted. -/
def startRefusal (number : Nat) (s : State) : Option RefusalCode :=
  if runActive s then some .runActive
  else if s.lines.estop then some .estop
  else if number = 0 then some .range
  else none

/-- What acceptance of START RUN does (R76), up to the PREPARE work. -/
def acceptRun (number : Nat) (s : State) : State :=
  let s1 := if s.print.pass then endPass .cut s else s
  let s2 := endDump (setDefects Defects.empty
    { s1 with bus := { s1.bus with silent := false, errors := 0 }, matrix := { s1.matrix with override := .none } })
  let s3 := setHv { s2.hv with elected := false } (setRun { s2.run with
    state := .prepare, number := number, sweepOn := s2.params.sweep, insOn := s2.params.insulation
    elected := none, step := .none, halt := false, sweepStage := .none, insStage := .none } s2)
  assertHold (timerRestart .running { s3 with decoder := { s3.decoder with summary := some 0 } })

/-- The PREPARE work of the START RUN frame end (R78, steps 1 to 4): run fields, buffer and Net Map cleared, blocks
detected, the Net Map built with its RATING bars, the calibration commanded. -/
def prepareWork (ids : IdCodes) (s : State) : State :=
  let s1 := detect ids (setNetMap [] (emptyBuffer (mapPoints (fun _ p => clearRunFields p) s)))
  let s2 := setNetMap (builtNetMap s1) s1
  setSampler { s2.sampler with job := .calibrating } s2

/-- START_RUN (R75, R76, R78). -/
def execStartRun (h : Header) (number : Half) (ids : IdCodes) (s : State) : Answer :=
  .next (request h 8 (fun form s' =>
    match form, startRefusal number.toNat s' with
    | .unheard, _ => s'
    | .general, some _ => raise .startIgnored s'
    | .general, none => prepareWork ids (acceptRun number.toNat s')
    | .addressed, some why => refuse h 8 why 0 (raise .startIgnored s')
    | .addressed, none => prepareWork ids (acceptRun number.toNat (reply h 8 (halfBytes number) s'))) s)

/-- An accepted CONTINUE (R100). -/
def resumeHalt (s : State) : State :=
  setSweepStage .driveReleased (releaseHold (setRun { s.run with halt := false } s))

/-- The watch gp of a halted step (R100). -/
def haltedGp (s : State) : Nat := (drivenHere s).getD 0

/-- CONTINUE (R100). -/
def execContinueRun (h : Header) (s : State) : Answer :=
  .next (request h 9 (fun form s' =>
    match form, s'.run.halt with
    | .addressed, true => reply h 9 (halfBytes (half (haltedGp s'))) (resumeHalt s')
    | .addressed, false => refuse h 9 .noHalt 0 s'
    | .general, true => resumeHalt s'
    | _, _ => s') s)

/-- SET_WATCH (R97, R171, R169). -/
def execSetWatch (h : Header) (w1 w2 : WatchArg) (s : State) : Answer :=
  .next (request h 10 (fun form s' =>
    match form with
    | .unheard => s'
    | .addressed => refuse h 10 .range 0 s'
    | .general => setRun { s'.run with watch1 := watchOf w1, watch2 := watchOf w2 } s') s)

end Sys2Proof.Machine
end

