-- ==== Sys2Proof/Machine/MatrixRequests.lean ====
section
/-! DEFINITION. SET SWITCH (R39) and the matrix overrides (R35 to R38). -/

namespace Sys2Proof.Machine

/-- SET SWITCH taken by its station: the checks of R39 in order, then the REPLY and the batch. -/
def setSwitch (h : Header) (gp : Nat) (target : Byte) (s : State) : State :=
  let i := localOf gp
  let p := pointAt s i
  let t := switchOfCode target
  if !owns s gp then refuse h 11 .range gp s
  else if runActive s then refuse h 11 .runActive gp s
  else if s.lines.estop then refuse h 11 .estop gp s
  else if !fitted s i then refuse h 11 .notFitted gp s
  else if (t.map fun x => !admitsPoint s i p x).getD false then refuse h 11 .role gp s
  else if s.matrix.override ≠ .none ∨ busy s p ∨ (t = some .hv ∧ s.lines.liveSeen) then refuse h 11 .busy gp s
  else
    match t with
    | none => refuse h 11 .range gp s
    | some x =>
        batch .manual [(i, x)] (reply h 11 (halfBytes (half gp) ++ [target, byte (switchCode p.switch)]) s)

/-- SET_SWITCH (R39, R169). -/
def execSetSwitch (h : Header) (gp : Half) (target : Byte) (s : State) : Answer :=
  .next (request h 11 (fun form s' =>
    match form with
    | .addressed => setSwitch h gp.toNat target s'
    | _ => s') s)

/-- Set the override state (R35). -/
def setOverride (o : Override) (s : State) : State := { s with matrix := { s.matrix with override := o } }

/-- MATRIX_OVERRIDE_FLOAT (R36, R169). -/
def execMatrixOverrideFloat (h : Header) (s : State) : Answer :=
  .next (request h 12 (fun form s' =>
    match form with
    | .unheard => s'
    | .addressed => refuse h 12 .range 0 s'
    | .general => endActiveRun .aborted (setOverride .float (forcedFloat s'))) s)

/-- The target of a point under the RETURN override (R37). -/
def returnTarget (s : State) (i : Nat) (p : Point) : Switch := if sensable s i p then .ret else .float

/-- MATRIX OVERRIDE RETURN taken as a general call (R37). -/
def overrideReturn (s : State) : State :=
  if runActive s || s.lines.estop then raise .overrideRefused s
  else if s.matrix.override = .ret then s
  else
    let s1 := setOverride .ret s
    batch .override (targetsBy s1 (returnTarget s1)) s1

/-- MATRIX_OVERRIDE_RETURN (R37, R169). -/
def execMatrixOverrideReturn (h : Header) (s : State) : Answer :=
  .next (request h 12 (fun form s' =>
    match form with
    | .unheard => s'
    | .addressed => refuse h 12 .range 0 s'
    | .general => overrideReturn s') s)

/-- MATRIX OVERRIDE OFF taken as a general call (R38). -/
def overrideOff (s : State) : State :=
  match s.matrix.override with
  | .none => s
  | .float => setOverride .none s
  | .ret => floatAll .override (setOverride .none s)

/-- MATRIX_OVERRIDE_OFF (R38, R169). -/
def execMatrixOverrideOff (h : Header) (s : State) : Answer :=
  .next (request h 12 (fun form s' =>
    match form with
    | .unheard => s'
    | .addressed => refuse h 12 .range 0 s'
    | .general => overrideOff s') s)

end Sys2Proof.Machine
end

