-- ==== Sys2Proof/Machine/ConsoleRequests.lean ====
section
/-! DEFINITION. PRINT and STOP PRINT (R152 to R154), the delayed requests (R173), QUERY STATUS (R172), the event requests
(R180), CANCEL (R177), RESET (R183) and requests that cannot be judged as their kind (R169). -/

namespace Sys2Proof.Machine

/-- PRINT (R152, R154). -/
def execPrint (h : Header) (s : State) : Answer :=
  .next (request h 13 (fun form s' =>
    match form with
    | .unheard => s'
    | .addressed => refuse h 13 .range 0 (raise .printRefused s')
    | .general =>
        if s'.run.state = .complete ∨ s'.run.state = .ended then rebid (startPass s')
        else raise .printRefused s') s)

/-- STOP_PRINT (R153, R154). -/
def execStopPrint (h : Header) (s : State) : Answer :=
  .next (request h 14 (fun form s' =>
    match form with
    | .unheard => s'
    | .addressed => refuse h 14 .range 0 s'
    | .general => if s'.print.pass then endPass .stopped s' else s') s)

/-- QUERY POINT taken by its station (R170, R173): its one item is the gp. -/
def queryPoint (h : Header) (gp : Nat) (s : State) : State :=
  if !owns s gp then refuse h 15 .range gp s
  else if s.decoder.ctx.isSome then refuse h 15 .busy 0 s
  else openContext .queryPoint h gp gp s

/-- QUERY_POINT (R173, R175, R169). -/
def execQueryPoint (h : Header) (gp : Half) (s : State) : Answer :=
  .next (request h 15 (fun form s' =>
    match form with
    | .addressed => queryPoint h gp.toNat s'
    | _ => s') s)

/-- DUMP POINTS taken by its station (R170, R173): the selector of a RANGE refusal is the first of the two gps that is not
this station's, or the first gp when first exceeds last. -/
def dumpPoints (h : Header) (first last : Nat) (s : State) : State :=
  if !owns s first then refuse h 16 .range first s
  else if !owns s last then refuse h 16 .range last s
  else if last < first then refuse h 16 .range first s
  else if s.decoder.ctx.isSome then refuse h 16 .busy 0 s
  else openContext .dumpPoints h first last s

/-- DUMP_POINTS (R173, R175, R169). -/
def execDumpPoints (h : Header) (first last : Half) (s : State) : Answer :=
  .next (request h 16 (fun form s' =>
    match form with
    | .addressed => dumpPoints h first.toNat last.toNat s'
    | _ => s') s)

/-- DUMP_DEFECTS (R173, R176, R169). -/
def execDumpDefects (h : Header) (s : State) : Answer :=
  .next (request h 17 (fun form s' =>
    match form with
    | .addressed =>
        if s'.decoder.ctx.isSome then refuse h 17 .busy 0 s' else openContext .dumpDefects h 0 0 s'
    | _ => s') s)

/-- QUERY_STATUS (R172, R169). -/
def execQueryStatus (h : Header) (part : Byte) (s : State) : Answer :=
  .next (request h 18 (fun form s' =>
    match form with
    | .addressed =>
        match statusData s' part.toNat with
        | some d => reply h 18 d s'
        | none => refuse h 18 .range part.toNat s'
    | _ => s') s)

/-- CLEAR_EVENTS (R180, R169): bits above bit 11 are ignored. -/
def execClearEvents (h : Header) (bits : Half) (s : State) : Answer :=
  .next (request h 19 (fun form s' =>
    match form with
    | .addressed =>
        let s1 := setStatus (s'.decoder.status &&& ~~~ bits.setWidth 12) s'
        reply h 19 (halfBytes (statusField s1.decoder.status) ++ halfBytes (statusField s1.decoder.mask)) s1
    | _ => s') s)

/-- SET_NOTICE_MASK (R180, R169): bits above bit 11 are ignored. -/
def execSetNoticeMask (h : Header) (bits : Half) (s : State) : Answer :=
  .next (request h 20 (fun form s' =>
    match form with
    | .addressed =>
        let s1 := { s' with decoder := { s'.decoder with mask := bits.setWidth 12 } }
        reply h 20 (halfBytes (statusField s1.decoder.mask) ++ halfBytes (statusField s1.decoder.status)) s1
    | _ => s') s)

/-- CANCEL (R177, R169). -/
def execCancel (h : Header) (s : State) : Answer :=
  .next (request h 21 (fun form s' =>
    match form with
    | .addressed =>
        match s'.decoder.ctx with
        | none => reply h 21 [0] s'
        | some c => cancelContext c (reply h 21 [byte (delayedCode c.kind)] s')
    | _ => s') s)

/-- A clean RESET frame of either scope (R58, R183, R169). -/
def resetFrame (full : Bool) (h : Header) (ids : IdCodes) (s : State) : State :=
  if s.bus.integrated && s.bus.held then
    heldTakes
      { src := h.src, dst := h.dst, payload := .request 22 h.tag [if full then 2 else 1] } ids s
  else
    request h 22 (fun form s' =>
      match form with
      | .unheard => s'
      | .addressed => refuse h 22 .range 0 s'
      | .general => resetStation full ids s') s

/-- RESET_RUN (R183). -/
def execResetRun (h : Header) (ids : IdCodes) (s : State) : Answer := .next (resetFrame false h ids s)

/-- RESET_FULL (R183). -/
def execResetFull (h : Header) (ids : IdCodes) (s : State) : Answer := .next (resetFrame true h ids s)

/-- UNKNOWN_REQUEST (R169): refused with RANGE, selector 0, when addressed; disregarded when a general call. -/
def execUnknownRequest (h : Header) (code : Byte) (_args : List Byte) (s : State) : Answer :=
  .next (request h code.toNat (fun form s' =>
    match form with
    | .addressed => refuse h code.toNat .range 0 s'
    | _ => s') s)

end Sys2Proof.Machine
end

