-- ==== Sys2Proof/Machine/Timers.lean ====
section
/-! DEFINITION. The timer expiries (R85, R162, R181), the ends of break and settle times (R24), of the settle wait (R95),
of a calibration (R61, R78) and of a sampling pass (R63, R96). A timer that does not run, or whose elapsed time has not
reached its limit, does not expire (log entries 3 and 4). -/

namespace Sys2Proof.Machine

/-- STEP_TIMEOUT (R77, R85). -/
def execStepTimeout (s : State) : Answer :=
  .next (if timerExpired s then endActiveRun .stepTimeout s else s)

/-- STALL_TIMER_EXPIRY (R162). -/
def execStallTimerExpiry (s : State) : Answer :=
  .next (if s.print.pass && reached Config.stallLimit s.print.stall then
      if s.print.credit = 0 then raise .printStall (endPass .stalled s)
      else setPrint { s.print with stall := none } s
    else s)

/-- SUMMARY_TIMER_EXPIRY (R181). -/
def execSummaryTimerExpiry (s : State) : Answer :=
  .next (if runActive s && reached Config.summaryLimit s.decoder.summary then
      let s1 := if s.params.summary then queue Config.consoleA (summaryPayload s) s else s
      { s1 with decoder := { s1.decoder with summary := some 0 } }
    else s)

/-- BREAK_TIME_END (R24, R28, R29). -/
def execBreakTimeEnd (points : List Nat) (s : State) : Answer :=
  .next (reportAll (dropReached (mapPoints
    (fun i p => if points.contains i then breakEnds s.lines.liveSeen s.params.s p else p) s)))

/-- SETTLE_TIME_END (R24, R28). -/
def execSettleTimeEnd (points : List Nat) (s : State) : Answer :=
  .next (reportAll (dropReached (mapPoints
    (fun i p => if points.contains i then settleEnds s.lines.liveSeen p else p) s)))

/-- SETTLE_WAIT_END (R95): the driver waits for its batch too. -/
def execSettleWaitEnd (s : State) : Answer :=
  .next (if s.run.sweepStage = .settling ∧ s.run.settleWait.isSome then
      let s1 := setRun { s.run with settleWait := none } s
      if (drivenHere s1).isSome && !s1.run.driveDone then s1 else commandPass s1
    else s)

/-- The fitted state at PREPARE (R5). -/
def prepareTarget (s : State) (i : Nat) (p : Point) : Switch := if sensable s i p then .sense else .float

/-- CALIBRATION_COMPLETE (R61), and the PREPARE batch (R78, step 5). -/
def execCalibrationComplete (codes : Vector Code12 8) (s : State) : Answer :=
  .next (if s.sampler.job = .calibrating then
      let o := rawOffset codes
      let s1 := setSampler { s.sampler with job := .free, offset := clampOffset o } s
      let s2 := if clampOffset o = o then s1 else raise .offsetLimit s1
      if s2.run.state = .prepare then batch .prepare (targetsBy s2 (prepareTarget s2)) s2 else s2
    else s)

/-- SAMPLING_PASS_COMPLETE (R63, R64, R96, R98). -/
def execSamplingPassComplete (readings : List Reading) (s : State) : Answer :=
  .next (match s.sampler.job with
    | .sampling n driven => finishPass n driven readings s
    | _ => s)

end Sys2Proof.Machine
end

