-- ==== Sys2Proof/Machine/Insulating.lean ====
section
/-! DEFINITION. The Insulation Engine's milliseconds (7.5 to 7.8): ramp, check, dwell, discharge and following. A command
that does not belong to the engine's stage is no event (log entry 3). -/

namespace Sys2Proof.Machine

/-- The engine's stage and settings, where it works in the stage named. -/
def engineIn (g : HvStage) (s : State) : Option HvSettings := if s.hv.stage = g then s.hv.settings else none

/-- The setpoint of the present elapsed time (R123). -/
def moveSetpoint (x : HvSettings) (s : State) : State :=
  setHv { s.hv with setpoint := rampSetpoint x.volt 0 x.segments s.hv.elapsed } s

/-- RAMP_MILLISECOND (R123, R124). -/
def execRampMillisecond (sample : Half) (monitor : Code12) (s : State) : Answer :=
  .next (match engineIn .ramp s with
    | some x =>
        if s.hv.elapsed < rampLength x then takeSample x sample.toNat monitor (moveSetpoint x) s else s
    | none => s)

/-- RAMP_END (R123): at elapsed time Er the engine enters the check stage. -/
def execRampEnd (s : State) : Answer :=
  .next (match engineIn .ramp s with
    | some x => if rampLength x ≤ s.hv.elapsed then setHv { s.hv with stage := .check } s else s
    | none => s)

/-- One check reading (R125): the dwell begins at the first that reaches floor(9 × T / 10). -/
def checkMonitor (x : HvSettings) (monitor : Code12) (s : State) : State :=
  let v := monitorVolts monitor
  let h := { s.hv with checkHigh := max s.hv.checkHigh v, checkNext := s.hv.checkNext + 1 }
  if 9 * finalTarget x / 10 ≤ v then setHv { h with stage := .dwell, dwellStart := s.hv.elapsed } s else setHv h s

/-- CHECK_READING (R124, R125): the reading t = 0 falls in the millisecond Er, whose sample the ramp has judged; every
later reading falls in a millisecond of its own. -/
def execCheckReading (sample : Half) (monitor : Code12) (s : State) : Answer :=
  .next (match engineIn .check s with
    | some x =>
        if Config.checkLimit < s.hv.checkNext then s
        else if s.hv.checkNext = 0 then checkMonitor x monitor s
        else takeSample x sample.toNat monitor (checkMonitor x monitor) s
    | none => s)

/-- UNDERVOLT (R125): the reading at t = 50 was below the threshold. -/
def execUndervolt (s : State) : Answer :=
  .next (match engineIn .check s with
    | some _ =>
        if Config.checkLimit < s.hv.checkNext then
          dropWith
            { verdict := .undervolt, v := s.hv.checkHigh, i := s.hv.lastSample
              ir := insulationResistance s.hv.checkHigh s.hv.lastSample, ms := s.hv.elapsed } s
        else s
    | none => s)

/-- A dwell sample that is no breakdown (R126): window, average, and in PEAK mode the peak once the window holds W. -/
def dwellSample (x : HvSettings) (sample : Nat) (s : State) : State :=
  let w := appendSample x.w sample s.hv.window
  setHv { s.hv with
    window := w
    peak := if x.peak ∧ w.length = x.w then peakAfter s.hv.peak (windowAverage w) else s.hv.peak } s

/-- DWELL_MILLISECOND (R124, R126). -/
def execDwellMillisecond (sample : Half) (monitor : Code12) (s : State) : Answer :=
  .next (match engineIn .dwell s with
    | some x =>
        if s.hv.elapsed < s.hv.dwellStart + x.dwell then
          takeSample x sample.toNat monitor (dwellSample x sample.toNat) s
        else s
    | none => s)

/-- I at the end of the dwell (R126). -/
def dwellCurrent (x : HvSettings) (s : State) : Nat :=
  if x.peak then s.hv.peak.getD (windowAverage s.hv.window) else windowAverage s.hv.window

/-- DWELL_END (R126, R127). -/
def execDwellEnd (monitor : Code12) (s : State) : Answer :=
  .next (match engineIn .dwell s with
    | some x =>
        if s.hv.dwellStart + x.dwell ≤ s.hv.elapsed then
          let v := monitorVolts monitor
          let i := dwellCurrent x s
          let ir := insulationResistance v i
          dropWith { verdict := dwellVerdict x.irMin ir, v := v, i := i, ir := ir, ms := s.hv.elapsed } s
        else s
    | none => s)

/-- Queue the RESULT of the measured result, with the verdict it carries (R128, R130). -/
def queueResult (v : Option Verdict) (s : State) : State :=
  match s.hv.result with
  | some r => queue Config.generalCall (resultPayload s (v.getD r.verdict) r) s
  | none => s

/-- DISCHARGE_READING (R128): at a code of 76 or less LIVE is released and the RESULT queued. -/
def execDischargeReading (monitor : Code12) (s : State) : Answer :=
  .next (if s.hv.stage = .discharge ∧ s.hv.dischargeNext ≤ Config.dischargeLimit then
      if monitor.toNat ≤ Config.dischargeCode then
        queueResult none (setHv { s.hv with stage := .reporting } (releaseLive s))
      else setHv { s.hv with dischargeNext := s.hv.dischargeNext + 1 } s
    else s)

/-- DISCHARGE_FAULT (R128): the reading at t = 2000 still exceeded 76. LIVE stays asserted, so the step timer stays suspended
while the RESULT is pending (R77, R118, R128), although R87 says that it runs (DEDUCED, log entry 39). -/
def execDischargeFault (s : State) : Answer :=
  .next (if s.hv.stage = .discharge ∧ Config.dischargeLimit < s.hv.dischargeNext then
      queueResult (some .dischargeFault) (setHv { s.hv with stage := .following } s)
    else s)

/-- Whether the station may assert LIVE in the following stage: not with a strap fault (R57), and while SILENT only as it
was (R50, R51; log entry 18). -/
def mayAssertLive (s : State) : Bool := !strapFault s && !s.bus.silent

/-- FOLLOWING_READING (R129). -/
def execFollowingReading (monitor : Code12) (s : State) : Answer :=
  .next (if s.straps.hvsrc ∧ s.hv.stage = .following then
      if Config.dischargeCode < monitor.toNat then (if mayAssertLive s then assertLive s else s)
      else setHv { s.hv with stage := .quiet } (releaseLive s)
    else s)

end Sys2Proof.Machine
end

