-- ==== Sys2Proof/Machine/Dispatch.lean ====
section
/-! DEFINITION. The dispatch: one arm per command, each a direct call of its meaning. -/

namespace Sys2Proof.Machine

def exec (i : Instr) (s : State) : Host.Outcome State Fault Refusal :=
  match i with
  | .powerUp straps hold live estop => Sys2Proof.Machine.execPowerUp straps hold live estop s
  | .heldFrame f ids => Sys2Proof.Machine.execHeldFrame f ids s
  | .estopAsserted => Sys2Proof.Machine.execEstopAsserted s
  | .estopReleased => Sys2Proof.Machine.execEstopReleased s
  | .holdSeenAsserted => Sys2Proof.Machine.execHoldSeenAsserted s
  | .holdSeenReleased busy => Sys2Proof.Machine.execHoldSeenReleased busy s
  | .liveSeenAsserted => Sys2Proof.Machine.execLiveSeenAsserted s
  | .liveSeenReleased => Sys2Proof.Machine.execLiveSeenReleased s
  | .beginFrame => Sys2Proof.Machine.execBeginFrame s
  | .frameErr seen => Sys2Proof.Machine.execFrameErr seen s
  | .otherCleanFrame f => Sys2Proof.Machine.execOtherCleanFrame f s
  | .bidWindowExpired => Sys2Proof.Machine.execBidWindowExpired s
  | .abort r => Sys2Proof.Machine.execAbort r s
  | .driveFrame r gp net => Sys2Proof.Machine.execDriveFrame r gp net s
  | .refFrame r gp code flags => Sys2Proof.Machine.execRefFrame r gp code flags s
  | .netFrame r n othersVeto => Sys2Proof.Machine.execNetFrame r n othersVeto s
  | .resultFrame r net verdict v cur ir ms => Sys2Proof.Machine.execResultFrame r net verdict v cur ir ms s
  | .sourceReady r run => Sys2Proof.Machine.execSourceReady r run s
  | .halted r gp watch => Sys2Proof.Machine.execHalted r gp watch s
  | .credit r count => Sys2Proof.Machine.execCredit r count s
  | .line r key text => Sys2Proof.Machine.execLine r key text s
  | .dataFrame r code tag cursor item => Sys2Proof.Machine.execDataFrame r code tag cursor item s
  | .endFrame r code tag count mark => Sys2Proof.Machine.execEndFrame r code tag count mark s
  | .delayedRequestService => Sys2Proof.Machine.execDelayedRequestService s
  | .assignNet h gp net role => Sys2Proof.Machine.execAssignNet h gp net role s
  | .assignRange h first last net stp role => Sys2Proof.Machine.execAssignRange h first last net stp role s
  | .clearTable h => Sys2Proof.Machine.execClearTable h s
  | .setBlocks h kinds allowed => Sys2Proof.Machine.execSetBlocks h kinds allowed s
  | .runParameters h a => Sys2Proof.Machine.execRunParameters h a s
  | .profileSegment h index level duration => Sys2Proof.Machine.execProfileSegment h index level duration s
  | .profileLength h length => Sys2Proof.Machine.execProfileLength h length s
  | .startRun h number ids => Sys2Proof.Machine.execStartRun h number ids s
  | .continueRun h => Sys2Proof.Machine.execContinueRun h s
  | .setWatch h w1 w2 => Sys2Proof.Machine.execSetWatch h w1 w2 s
  | .setSwitch h gp target => Sys2Proof.Machine.execSetSwitch h gp target s
  | .matrixOverrideFloat h => Sys2Proof.Machine.execMatrixOverrideFloat h s
  | .matrixOverrideReturn h => Sys2Proof.Machine.execMatrixOverrideReturn h s
  | .matrixOverrideOff h => Sys2Proof.Machine.execMatrixOverrideOff h s
  | .print h => Sys2Proof.Machine.execPrint h s
  | .stopPrint h => Sys2Proof.Machine.execStopPrint h s
  | .queryPoint h gp => Sys2Proof.Machine.execQueryPoint h gp s
  | .dumpPoints h first last => Sys2Proof.Machine.execDumpPoints h first last s
  | .dumpDefects h => Sys2Proof.Machine.execDumpDefects h s
  | .queryStatus h part => Sys2Proof.Machine.execQueryStatus h part s
  | .clearEvents h bits => Sys2Proof.Machine.execClearEvents h bits s
  | .setNoticeMask h bits => Sys2Proof.Machine.execSetNoticeMask h bits s
  | .cancel h => Sys2Proof.Machine.execCancel h s
  | .resetRun h ids => Sys2Proof.Machine.execResetRun h ids s
  | .resetFull h ids => Sys2Proof.Machine.execResetFull h ids s
  | .unknownRequest h code args => Sys2Proof.Machine.execUnknownRequest h code args s
  | .stepTimeout => Sys2Proof.Machine.execStepTimeout s
  | .stallTimerExpiry => Sys2Proof.Machine.execStallTimerExpiry s
  | .summaryTimerExpiry => Sys2Proof.Machine.execSummaryTimerExpiry s
  | .breakTimeEnd points => Sys2Proof.Machine.execBreakTimeEnd points s
  | .settleTimeEnd points => Sys2Proof.Machine.execSettleTimeEnd points s
  | .settleWaitEnd => Sys2Proof.Machine.execSettleWaitEnd s
  | .calibrationComplete codes => Sys2Proof.Machine.execCalibrationComplete codes s
  | .samplingPassComplete readings => Sys2Proof.Machine.execSamplingPassComplete readings s
  | .rampMillisecond sample monitor => Sys2Proof.Machine.execRampMillisecond sample monitor s
  | .rampEnd => Sys2Proof.Machine.execRampEnd s
  | .checkReading sample monitor => Sys2Proof.Machine.execCheckReading sample monitor s
  | .undervolt => Sys2Proof.Machine.execUndervolt s
  | .dwellMillisecond sample monitor => Sys2Proof.Machine.execDwellMillisecond sample monitor s
  | .dwellEnd monitor => Sys2Proof.Machine.execDwellEnd monitor s
  | .dischargeReading monitor => Sys2Proof.Machine.execDischargeReading monitor s
  | .dischargeFault => Sys2Proof.Machine.execDischargeFault s
  | .followingReading monitor => Sys2Proof.Machine.execFollowingReading monitor s
  | .busIntegration => Sys2Proof.Machine.execBusIntegration s

end Sys2Proof.Machine
end

