-- ==== Sys2Proof/Safety.lean ====
section
/-! DEFINITION. What a sound station looks like: the laws the manual states of every moment, one Bool each, in the terms
the claims use. Each cites the rule it comes from; each is a law of the MODEL's state, to be kept by every step. -/

namespace Sys2Proof.Machine

/-! ## Switch Matrix -/

/-- A point at FLOAT and at rest (R31, R32). -/
def pointFloats (p : Point) : Bool := p.switch == .float && p.pending.isNone && p.stage == .rest

/-- The stage, switch and pending fields of a point agree as the table of 2.2 lays down, the retarget held in the settle
stage of a change into HV included (R29). -/
def pointLawful (p : Point) : Bool :=
  match p.stage with
  | .rest => p.pending.isNone
  | .deferred => p.switch == .hv && p.pending.isSome && p.pending != some .hv
  | .brk => p.pending.isSome
  | .waitLive => p.pending == some .hv
  | .settle closed _ => closed != .float && p.pending.isSome && (p.pending == some closed || closed == .hv)

/-- The point records (R1, R24): one for each local index, each with agreeing fields. -/
def pointsLawful (s : State) : Bool :=
  decide (s.points.length = Config.pointCount) && s.points.all pointLawful

/-- The outstanding batches (R28): none without an outstanding point, no point in two of them, every outstanding point
in transit. -/
def batchesLawful (s : State) : Bool :=
  s.matrix.batches.all (fun b => !b.left.isEmpty)
    && decide (s.matrix.batches.map Batch.left).flatten.Nodup
    && (s.matrix.batches.map Batch.left).flatten.all (inTransit s)

/-- Every point is at FLOAT while ESTOP is seen asserted, while a FLOAT override is in force (R32) and in HELD (R40). -/
def floatHoldLawful (s : State) : Bool :=
  !(heldAtFloat s || s.bus.held) || s.points.all pointFloats

/-! ## Station bus and lines -/

/-- The kinds a station sends (3.11, Kinds): every kind but ABORT, REQUEST and CREDIT. -/
def stationSends (k : Nat) : Bool := k != 1 && k != 8 && k != 14

/-- An entry of the transmit slot: a frame of this station of a kind that stations send, and beside it only a frame of the
same kind of this station, held while the entry's frame is on the bus. -/
def entryLawful (a : Addr) (e : TxEntry) : Bool :=
  e.frame.src == a && stationSends (entryKind e) && (e.begun || !e.doomed) && (e.begun || !e.recalled)
    && (e.begun || e.beside.isNone)
    && e.beside.all fun f => f.src == a && kindCode f.payload == entryKind e

/-- Throughout HELD every event is masked (R178, R184). -/
def maskLawful (s : State) : Bool := !s.bus.held || s.decoder.mask == BitVec.allOnes 12

/-- The Block Detector (R10, R16): a record and a manual kind for each of the eight blocks. -/
def blocksLawful (s : State) : Bool :=
  decide (s.blocks.records.length = Config.blockCount) && decide (s.blocks.manual.length = Config.blockCount)

/-- The transmit slot (R43, R44): at most one entry of each kind, at most one frame begun, empty in HELD and SILENT. -/
def slotLawful (s : State) : Bool :=
  decide (s.bus.slot.Pairwise fun x y => entryKind x < entryKind y)
    && s.bus.slot.all (entryLawful s.straps.adr)
    && decide ((s.bus.slot.filter TxEntry.begun).length ≤ 1)
    && (!(s.bus.held || s.bus.silent) || s.bus.slot.isEmpty)

/-- The lines (R53, R54, R55): an own output asserted is seen asserted; HOLD is asserted in an active run alone; LIVE only
by a station strapped HVSRC. -/
def linesLawful (s : State) : Bool :=
  (!s.lines.holdOut || (s.lines.holdSeen && runActive s))
    && (!s.lines.liveOut || (s.lines.liveSeen && s.straps.hvsrc))

/-- The consecutive-error count (R49, R50): 0..8, and 8 only in SILENT. -/
def errorsLawful (s : State) : Bool :=
  decide (s.bus.errors ≤ Config.silentAt) && (s.bus.silent == decide (s.bus.errors = Config.silentAt))

/-! ## Runs -/

/-- The run's stages, timers and jobs exist in their run states alone (R58, R51, R72, R77, R88, R99, R112, R181). -/
def runLawful (s : State) : Bool :=
  (s.run.sweepStage == .none || s.run.state == .sweep)
    && (s.run.insStage == .none || s.run.state == .insulate)
    && (runActive s || s.run.timer.mode == .stopped)
    && (!s.run.halt || s.run.sweepStage == .halted)
    && (match s.sampler.job with
        | .sampling _ _ => s.run.sweepStage == .sampling
        | _ => true)
    && (s.decoder.summary.isSome == runActive s)
    && (!s.bus.held || s.run.state == .idle)
    && !(s.bus.silent && runActive s)

/-- The run parameters lie in their ranges (R73). -/
def paramsLawful (p : Params) : Bool :=
  decide (p.l ≤ 65533) && decide (1 ≤ p.h) && decide (p.h ≤ 65535) && [1, 2, 4, 8].contains p.n
    && decide (1 ≤ p.s) && decide (p.s ≤ 20) && decide (10 ≤ p.stepLimit) && decide (p.stepLimit ≤ 5000)
    && decide (50 ≤ p.volt) && decide (p.volt ≤ 1500) && decide (p.volt % 10 = 0) && decide (p.profile ≤ 4)
    && decide (10 ≤ p.dwell) && decide (p.dwell ≤ 60000) && [8, 16, 32].contains p.w
    && decide (1000 ≤ p.trip) && decide (p.trip ≤ 65535) && decide (1 ≤ p.irMin) && decide (p.irMin ≤ Config.maxIr)
    && decide (20 ≤ p.page) && decide (p.page ≤ 120)

/-! ## Net Map -/

/-- The Net Map (R17): entries in strictly ascending effective net. -/
def netMapLawful (s : State) : Bool := decide (s.netMap.Pairwise fun x y => x.net < y.net)

/-! ## Insulation Engine -/

/-- A user segment in its ranges (R119, R122). -/
def segmentLawful (g : Segment) : Bool := decide (g.level ≤ 100)

/-- The Insulation Engine (R55, R118, R119, R120, R126): HVEN is high in the ramp, the check and the dwell alone; with it
low the setpoint is 0; the setpoint never exceeds 1500 V; the window holds at most 32 samples; a station without
HVSRC has none of it. -/
def hvLawful (s : State) : Bool :=
  (s.hv.hven == (s.hv.stage == .ramp || s.hv.stage == .check || s.hv.stage == .dwell))
    && (s.hv.hven || decide (s.hv.setpoint = 0))
    && decide (s.hv.setpoint ≤ 1500) && decide (s.hv.window.length ≤ 32)
    && s.hv.segments.all segmentLawful
    && (s.hv.settings.all fun x => decide (x.volt ≤ 1500) && decide (x.w ≤ 32) && x.segments.all segmentLawful)
    && (s.straps.hvsrc || (!s.hv.elected && s.hv.stage == .quiet))

/-! ## Defect List and printout -/

/-- The Defect List (R138): at most 512 records in strictly ascending identity, never a SHORT and a LEAKAGE for one pair,
the lost count at most 65535. -/
def defectsLawful (d : Defects) : Bool :=
  decide (d.records.Pairwise fun x y => identLt (identOf x.what) (identOf y.what) = true)
    && decide (d.records.length ≤ Config.defectCapacity)
    && (d.records.all fun x => d.records.all fun y =>
          match x.what, y.what with
          | .short a b, .leakage a' b' _ => !(a == a' && b == b')
          | _, _ => true)
    && decide (d.lost ≤ Config.countLimit)

/-- The Print Engine (R150, R158, R162): every counter in its range, the stall timer stopped outside a pass. -/
def printLawful (p : Printer) : Bool :=
  decide (p.credit ≤ 255) && decide (20 ≤ p.pageLength) && decide (p.pageLength ≤ 120)
    && decide (p.lineOn < p.pageLength) && decide (p.page ≤ Config.maxPage) && decide (p.printed ≤ Config.countLimit)
    && decide (p.footer ≤ 2) && (p.pass || p.stall.isNone)
    && p.stall.all fun e => decide (e ≤ Config.stallLimit)

/-! ## All of them -/

/-- A sound station. -/
def lawful (s : State) : Bool :=
  pointsLawful s && batchesLawful s && floatHoldLawful s && slotLawful s && linesLawful s && errorsLawful s
    && runLawful s && paramsLawful s.params && netMapLawful s && hvLawful s && defectsLawful s.defects
    && printLawful s.print && maskLawful s && blocksLawful s

/-! ## The situations in which commands are taken -/

/-- The kind code of the frame that a command is; none for an event that is no clean frame. -/
def frameKind : Instr → Option Nat
  | .heldFrame f _ => some (kindCode f.payload)
  | .otherCleanFrame f => some (kindCode f.payload)
  | .abort _ => some 1
  | .driveFrame _ _ _ => some 2
  | .refFrame _ _ _ _ => some 3
  | .netFrame _ _ _ => some 4
  | .resultFrame _ _ _ _ _ _ _ => some 5
  | .sourceReady _ _ => some 6
  | .halted _ _ _ => some 7
  | .credit _ _ => some 14
  | .line _ _ _ => some 15
  | .dataFrame _ _ _ _ _ => some 11
  | .endFrame _ _ _ _ _ => some 12
  | .assignNet _ _ _ _ => some 8
  | .assignRange _ _ _ _ _ _ => some 8
  | .clearTable _ => some 8
  | .setBlocks _ _ _ => some 8
  | .runParameters _ _ => some 8
  | .profileSegment _ _ _ _ => some 8
  | .profileLength _ _ => some 8
  | .startRun _ _ _ => some 8
  | .continueRun _ => some 8
  | .setWatch _ _ _ => some 8
  | .setSwitch _ _ _ => some 8
  | .matrixOverrideFloat _ => some 8
  | .matrixOverrideReturn _ => some 8
  | .matrixOverrideOff _ => some 8
  | .print _ => some 8
  | .stopPrint _ => some 8
  | .queryPoint _ _ => some 8
  | .dumpPoints _ _ _ => some 8
  | .dumpDefects _ => some 8
  | .queryStatus _ _ => some 8
  | .clearEvents _ _ => some 8
  | .setNoticeMask _ _ => some 8
  | .cancel _ => some 8
  | .resetRun _ _ => some 8
  | .resetFull _ _ => some 8
  | .unknownRequest _ _ _ => some 8
  | _ => none

/-- Whether a command may be, or release the station by, a RESET (R58, R183). -/
def mayReset : Instr → Bool
  | .heldFrame _ _ => true
  | .resetRun _ _ => true
  | .resetFull _ _ => true
  | _ => false

/-- Whether a command is POWER_UP. -/
def isPowerUp : Instr → Bool
  | .powerUp _ _ _ _ => true
  | _ => false

/-- A station that takes frames: integrated on the bus (R41) and released from HELD (R58). -/
def listening (s : State) : Bool := s.bus.integrated && !s.bus.held

/-- The next clean frame is no first frame of a bid window (R56). -/
def noFirstFrame (s : State) : Bool := s.bus.window != .running false

/-- The header and request code of a command that is a REQUEST frame (R168). -/
def requestOf : Instr → Option (Header × Nat)
  | .assignNet h _ _ _ => some (h, 1)
  | .assignRange h _ _ _ _ _ => some (h, 2)
  | .clearTable h => some (h, 3)
  | .setBlocks h _ _ => some (h, 4)
  | .runParameters h _ => some (h, 5)
  | .profileSegment h _ _ _ => some (h, 6)
  | .profileLength h _ => some (h, 7)
  | .startRun h _ _ => some (h, 8)
  | .continueRun h => some (h, 9)
  | .setWatch h _ _ => some (h, 10)
  | .setSwitch h _ _ => some (h, 11)
  | .matrixOverrideFloat h => some (h, 12)
  | .matrixOverrideReturn h => some (h, 12)
  | .matrixOverrideOff h => some (h, 12)
  | .print h => some (h, 13)
  | .stopPrint h => some (h, 14)
  | .queryPoint h _ => some (h, 15)
  | .dumpPoints h _ _ => some (h, 16)
  | .dumpDefects h => some (h, 17)
  | .queryStatus h _ => some (h, 18)
  | .clearEvents h _ => some (h, 19)
  | .setNoticeMask h _ => some (h, 20)
  | .cancel h => some (h, 21)
  | .resetRun h _ => some (h, 22)
  | .resetFull h _ => some (h, 22)
  | .unknownRequest h code _ => some (h, code.toNat)
  | _ => none

/-- A station that takes frames, with a sound transmit slot. -/
def takesFrames (s : State) : Bool := listening s && slotLawful s

/-- A station that takes this addressed request: from a console to this station, which is not SILENT and has no answer
pending (R43, R51, R168). -/
def takesAddressed (h : Header) (s : State) : Bool :=
  takesFrames s && isConsole h.src && h.dst != Config.generalCall && h.dst.toNat == addr s && !s.bus.silent
    && !answerPending s

/-- A station that takes this general call: from a console (R168). -/
def takesGeneral (h : Header) (s : State) : Bool := takesFrames s && isConsole h.src && h.dst == Config.generalCall

/-- A run-protocol frame delivered to the Step Engine or the Print Engine of a station that takes frames: from a station,
by general call (R52). -/
def takesRunFrame (r : Route) (s : State) : Bool := takesFrames s && toStepEngine r

/-- A frame of the station waits in its slot, not begun. -/
abbrev waits (f : Frame) (t : State) : Prop := ∃ e ∈ t.bus.slot, e.frame = f ∧ e.begun = false

/-- A frame queued by the station stands in its slot: it waits there, or is held beside the begun one of its kind (R43). -/
abbrev standsQueued (f : Frame) (t : State) : Prop :=
  ∃ e ∈ t.bus.slot, (e.begun = false ∧ e.frame = f) ∨ (e.begun = true ∧ e.beside = some f)

/-- The bus fields a clean frame of another node leaves: the slot as given, the window moved on and both slots of the
frame left recessive. -/
def busAfter (s : State) (slot : List TxEntry) : Bus :=
  { s.bus with slot := slot, window := windowAfterClean s.bus.window, errDriven := false, vetoDriven := false }

/-- The bus fields after a clean frame of another node that nothing is queued on. -/
def heard (s : State) : Bus := busAfter s (notSent s).bus.slot

/-- The bus fields after a request that is answered: the answer stands in the slot, addressed to the request's source
(R168). -/
def answered (h : Header) (p : Payload) (s : State) : Bus :=
  busAfter s (putFrame (ownFrame s h.src p) (notSent s).bus.slot)

/-- A station with a frame queued (R43). -/
def withFrame (dst : Addr) (p : Payload) (u : State) : State :=
  { u with bus := { u.bus with slot := putFrame (ownFrame u dst p) u.bus.slot } }

/-- The REFUSED to a request (R170). -/
def refusal (h : Header) (code : Nat) (why : RefusalCode) (selector : Half) : Payload :=
  .refused (byte code) h.tag (byte (refusalNumber why)) selector

/-- The REPLY to a request (R168). -/
def replyTo (h : Header) (code : Nat) (data : List Byte) : Payload := .reply (byte code) h.tag data

/-- Whether a run end empties the sample buffer and the reference code: a pass is in progress, or the driver's is still to
come in the settling stage (R65, R110). -/
def passCut (s : State) : Bool :=
  match s.sampler.job with
  | .sampling _ _ => true
  | .calibrating => false
  | .free => driverSettles s

/-- The Step Engine's state after a run end (R83): ENDED, timer stopped, halt flag clear, no stage; the rest kept. -/
def endedRun (s : State) : Run :=
  { s.run with
    state := .ended, timer := { s.run.timer with mode := .stopped }, halt := false, sweepStage := .none
    insStage := .none, settleWait := none, driveDone := false }

/-- What the end of a run with a cause and a where-field leaves of everything but the points and their batches (R83, R62,
R65, R110, R129, R139, R181), where `b` are the bus fields it finds: the run ENDED, HOLD released, no bid window test, no
class 1 frame pending that had not begun, no job, an HV interval left for the following stage, RUN_END offered while the run
was active, RUN_ENDED set, the summary timer stopped and no SUMMARY pending that had not begun. A NOTICE of the moment: of an
unmasked RUN_ENDED with the state ENDED; else, of an unmasked LIST_FULL of the lost RUN_END, with the state the run still
had; the slot's other entries stay. -/
abbrev runEnds (cause : Cause) (loc : Where) (b : Bus) (s t : State) : Prop :=
  let kept := dropUnbegun (fun e => entryKind e == 16)
    (b.slot.filterMap fun e => if 2 ≤ entryKind e ∧ entryKind e ≤ 7 then withdrawn e else some e)
  let lost := holdsIdent s (identOf (.runEnd cause loc)) = false ∧ 512 ≤ s.defects.records.length
  t.run = endedRun s ∧ t.lines.holdOut = false ∧ t.bus = { b with slot := t.bus.slot, window := .off } ∧
  (∀ e ∈ t.bus.slot, 2 ≤ entryKind e → entryKind e ≤ 7 → e.begun = true ∧ e.doomed = true) ∧
  (∀ e ∈ t.bus.slot, entryKind e = 16 → e.begun = true) ∧
  (∀ e ∈ kept, entryKind e ≠ 13 → e ∈ t.bus.slot) ∧ (∀ e ∈ t.bus.slot, entryKind e ≠ 13 → e ∈ kept) ∧
  (b.held = true ∨ b.silent = true ∨
    (s.decoder.mask.getLsbD 0 = true ∧ (s.decoder.mask.getLsbD 6 = true ∨ ¬ lost)) → t.bus.slot = kept) ∧
  (b.held = false → b.silent = false →
    (s.decoder.mask.getLsbD 0 = false →
      standsQueued (ownFrame s 28 (.notice (t.decoder.status.setWidth 16) 5)) t) ∧
    (s.decoder.mask.getLsbD 0 = true → s.decoder.mask.getLsbD 6 = false → lost →
      standsQueued (ownFrame s 28
        (.notice ((s.decoder.status ||| 64).setWidth 16) (byte (runStateCode s.run.state)))) t)) ∧
  t.sampler = (if passCut s then
      { job := .free, offset := s.sampler.offset, buffer := List.replicate 256 none, ref := none }
    else { s.sampler with job := .free }) ∧
  t.hv = (if inInterval s ∧ s.straps.hvsrc then { s.hv with stage := .following, setpoint := 0, hven := false } else s.hv) ∧
  t.defects = (offer (.runEnd cause loc) s).defects ∧
  t.decoder = { s.decoder with
    status := (offer (.runEnd cause loc) s).decoder.status ||| 1, summary := none } ∧
  t.pending = s.pending ∧ t.straps = s.straps ∧ t.blocks = s.blocks ∧ t.params = s.params ∧ t.netMap = s.netMap ∧
  t.print = s.print

/-- What a batch with one target for each point makes of a record (R27, R32). -/
def requestedTo (s : State) (t : Switch) (p : Point) : Point :=
  if heldAtFloat s then p else requestPoint s.lines.liveSeen s.params.s t p

/-- What entering COMPLETE makes of the station `u` that enters it (R82, R181): run state COMPLETE, timer and summary timer
stopped, HOLD released, every point requested to FLOAT, a SUMMARY not begun withdrawn, and nothing else. Of the batches
nothing is said here. -/
abbrev completes (u t : State) : Prop :=
  (t.points.length = u.points.length ∧ ∀ j < u.points.length, pointAt t j = requestedTo u .float (pointAt u j)) ∧
  t = { u with
    bus := { u.bus with slot := dropUnbegun (fun e => entryKind e == 16) u.bus.slot }
    lines := { u.lines with holdOut := false }, points := t.points
    matrix := { u.matrix with batches := t.matrix.batches }
    run := { u.run with
      state := .complete, sweepStage := .none, insStage := .none, timer := { u.run.timer with mode := .stopped } }
    decoder := { u.decoder with summary := none } }

/-- Every record the same function of what it was, none added or removed. -/
abbrev eachPoint (s t : State) (f : Nat → Point → Point) : Prop :=
  t.points.length = s.points.length ∧ ∀ j < s.points.length, pointAt t j = f j (pointAt s j)

/-- Every point at FLOAT and at rest, its other fields kept (R31). -/
abbrev allForced (s t : State) : Prop := eachPoint s t fun _ p => { p with switch := .float, pending := none, stage := .rest }

/-- The bus fields after a clean frame, the station's own or another's: its own leaves the slot and clears the error count
(R43, R49), and VETO is driven on a NET of a barred entry (R48). -/
def frameSeen (f : Frame) (s : State) : Bus :=
  { (notSent (if isOwn f s then sentClean (kindCode f.payload) s else s)).bus with
    window := windowAfterClean s.bus.window, errDriven := false, vetoDriven := vetoOf s f.payload }

/-- A run-protocol frame of a route. -/
def onRoute (r : Route) (p : Payload) : Frame := { src := r.src, dst := r.dst, payload := p }

/-- The step timer when HOLD is asserted by the station: it restarts where the line was released (R77). -/
def timerAtHold (s : State) : StepTimer :=
  if s.lines.holdSeen then s.run.timer
  else { mode := if s.lines.liveSeen then .suspended false else .running, elapsed := 0, limit := s.params.stepLimit }

/-- Whether every point is at rest. -/
def allAtRest (t : State) : Bool := t.points.all fun p => p.stage == .rest

/-- The DRIVE bid of R91: the lowest drivable gp and its effective net. -/
def driveBid (s : State) : Option Payload := (lowestDrivable s).map fun q => .drive (half q.1) (half q.2)

/-- The NET bid of R114: the lowest net still PENDING. -/
def netBid (s : State) : Option Payload := (lowestPending s).map fun n => .net (half n)

/-- The slot with a bid queued in it, where there is one to queue. -/
def withBid (b : Option Payload) (s : State) : List TxEntry :=
  match b with
  | some p => putFrame (ownFrame s 31 p) s.bus.slot
  | none => s.bus.slot

/-- The bus fields after a step completion: the bid window test begun (R56) and the bid queued. -/
def busBidding (b : Option Payload) (inProgress : Bool) (s : State) : Bus :=
  { s.bus with slot := withBid b s, window := .running (inProgress || s.bus.slot.any TxEntry.begun) }

/-- What the admission check makes of a record (R6): not admitted, it is requested to FLOAT. -/
def afterAdmission (s : State) (i : Nat) (p : Point) : Point :=
  if heldAtFloat s || admitsPoint s i p (p.pending.getD p.switch) then p
  else requestPoint s.lines.liveSeen s.params.s .float p

/-- The insulation resistance of a voltage in V and a current in nA (R127). -/
def irOf (v i : Nat) : Nat := if i = 0 then 999999 else min 999999 (v * 1000 / i)

/-- The voltage of a monitor code (R120). -/
def volts (c : Code12) : Nat := c.toNat * 1600 / 4095

/-- The drop of HVEN with a measured result (R124 to R128): the setpoint 0, the discharge before its first reading. -/
def dropped (r : HvResult) (h : Hv) : Hv :=
  { h with stage := .discharge, setpoint := 0, hven := false, result := some r, dischargeNext := 0 }

/-- What a leakage sample makes of the engine (R124): above the trip a breakdown, else what the stage makes of it. -/
def afterSample (x : HvSettings) (sample : Half) (monitor : Code12) (h : Hv) (rest : Hv → Hv) : Hv :=
  let h1 := { h with elapsed := h.elapsed + 1, lastSample := sample.toNat }
  if x.trip < sample.toNat then
    dropped ⟨.breakdown, volts monitor, sample.toNat, irOf (volts monitor) sample.toNat, h.elapsed + 1⟩ h1
  else rest h1

/-- The slot as R157 leaves it at a frame end of a pass, from the entries of that frame end: the next line waits where the
station may send lines, else no LINE is pending. -/
abbrev linesBid (slot : List TxEntry) (t : State) : Prop :=
  t.bus.slot =
    if t.bus.silent = false ∧ 0 < t.print.credit then putFrame (ownFrame t 31 (nextLine t)) slot
    else slot.filter fun e => entryKind e != 15

/-- The item that a context sends next, with its cursor field and the key it stands for (R175, R176): the point at the cursor
up to the range's end, or the first entry of the list above the last key sent. -/
def dueItem (s : State) (c : Context) : Option (Nat × List Byte × Option Ident) :=
  if c.kind = .dumpDefects then
    ((listEntries s).find? fun e => c.lastKey.all fun k => identLt k (entryIdent s e)).map fun e =>
      (c.sent, defectItem s e, some (entryIdent s e))
  else if c.cursor ≤ c.last then some (c.cursor, pointItem s c.cursor, none) else none

/-- A batch outstanding in a state whose points have all come to rest in another: it is complete (R28). -/
def batchDone (p : Purpose) (s t : State) : Bool :=
  s.matrix.batches.any fun b => b.purpose == p && b.left.all fun i => !inTransit t i

/-- Whether a watch slot matches the gp that the station drives (R98). -/
def watchHit (s : State) (w : Option Watch) : Bool :=
  match drivenHere s, w with
  | some d, some x => x.gp == d
  | _, _ => false

/-- What the end of a sampling pass makes of the station `s`, with what the pass leaves in the Sampling Engine (R96, R98): the
watch events with their NOTICE where unmasked, then the halted stage with HOLD kept and HALTED queued, or the release; the
slot's other entries stay, and the whole slot where no watch matches. -/
abbrev passEnds (x : Sampler) (s t : State) : Prop :=
  let halts (w : Option Watch) : Bool := watchHit s w && w.any Watch.halt
  let halted := halts s.run.watch1 || halts s.run.watch2
  let found : BitVec 12 := (if watchHit s s.run.watch1 = true then 2 else 0) ||| (if watchHit s s.run.watch2 = true then 4 else 0)
  let kept (e : TxEntry) : Prop :=
    (entryKind e = 7 → halted = false) ∧ (entryKind e = 13 → found &&& ~~~ s.decoder.mask = 0)
  t = { s with
    sampler := x
    run := { s.run with sweepStage := if halted = true then .halted else .driveReleased }
    lines := { s.lines with holdOut := s.lines.holdOut && halted }
    bus := { s.bus with slot := t.bus.slot }
    decoder := { s.decoder with status := s.decoder.status ||| found } } ∧
  (found = 0 ∨ s.bus.held = true ∨ s.bus.silent = true → t.bus.slot = s.bus.slot) ∧
  (∀ e ∈ s.bus.slot, kept e → e ∈ t.bus.slot) ∧ (∀ e ∈ t.bus.slot, kept e → e ∈ s.bus.slot) ∧
  (s.bus.held = false → s.bus.silent = false →
    (found &&& ~~~ s.decoder.mask ≠ 0 → ∃ y ∈ [found &&& 2, found &&& 4, found],
      found &&& ~~~ s.decoder.mask &&& ~~~ y = 0 ∧ standsQueued (ownFrame s 28
        (.notice ((s.decoder.status ||| y).setWidth 16) (byte (runStateCode s.run.state)))) t) ∧
    (halted = true → standsQueued (ownFrame s 31
      (.halted (half ((drivenHere s).getD 0)) (if halts s.run.watch1 = true then 1 else 2))) t))

/-- What the reports of the batches that complete in a step lead to (R28, R78, R95, R108, R117, R132): `u` is the station with its
points moved and those batches gone, and a report that its stage does not await changes nothing. -/
abbrev batchReports (s t : State) : Prop :=
  let batches := (s.matrix.batches.map fun b => { b with left := b.left.filter (inTransit t) }).filter fun b =>
    !b.left.isEmpty
  let u : State := { s with points := t.points, matrix := { s.matrix with batches := batches } }
  if s.run.state = .prepare ∧ batchDone .prepare s t = true then
    if s.straps.hvsrc = true ∧ s.run.insOn = true then
      t = withFrame 31 (.sourceReady (half s.run.number)) u ∧
      standsQueued (ownFrame s 31 (.sourceReady (half s.run.number))) t
    else t = { u with lines := { s.lines with holdOut := false } }
  else if s.run.sweepStage = .settling ∧ batchDone .toDrive s t = true then
    let v : State := { u with run := { s.run with driveDone := true } }
    let emptied : Sampler := { s.sampler with job := .free, buffer := List.replicate 256 none, ref := none }
    if s.run.settleWait.isSome = true then t = v
    else if anySensable s = true then t = { v with
      run := { v.run with sweepStage := .sampling }
      sampler := { emptied with job := .sampling s.params.n (drivenHere s) } }
    else passEnds emptied v t
  else if s.run.sweepStage = .ending ∧ batchDone .endFloat s t = true then
    t = { u with run := { s.run with sweepStage := .endReleased }, lines := { s.lines with holdOut := false } }
  else if s.run.insStage = .switching ∧ batchDone .switching s t = true then
    t = { u with run := { s.run with insStage := .switched }, lines := { s.lines with holdOut := false } }
  else if s.run.insStage = .restoring ∧ batchDone .restoring s t = true then
    t = { u with run := { s.run with insStage := .restored }, lines := { s.lines with holdOut := false } }
  else t = u

/-! ## What the station tells of itself (3.11, Answer data) -/

/-- The number in `n` bytes of an answer from offset `k` on, most significant byte first. -/
def fieldAt (d : List Byte) (k n : Nat) : Nat := ((d.drop k).take n).foldl (fun a b => a * 256 + b.toNat) 0

/-- The status bits that a detection sets (R13): ADAPTER_REJECTED where a band names a kind outside the allowed set,
ADAPTER_FAULT where a band is INVALID. -/
def foundBits (a : KindSet) (ids : IdCodes) : BitVec 12 :=
  (if ids.toList.any (fun c => rejected a (bandOf c.toNat)) = true then 16 else 0)
    ||| (if ids.toList.any (fun c => decide (c.toNat < 32)) = true then 32 else 0)

/-- A Net Map as built (R17, R18): in strict order, an entry for each effective net of a sensable point and for no other,
with the number of those points, no leader, PENDING, or BARRED with reason RATING where a fitted point of the net is on a
block that is not rated. -/
abbrev netMapBuilt (t : State) : Prop :=
  netMapLawful t = true ∧
  (∀ i < t.points.length, sensable t i (pointAt t i) = true → ∃ e ∈ t.netMap, e.net = effNet t i) ∧
  ∀ e ∈ t.netMap,
    (∃ i < t.points.length, sensable t i (pointAt t i) = true ∧ effNet t i = e.net) ∧
    e.count = ((List.range t.points.length).filter fun i => sensable t i (pointAt t i) && effNet t i == e.net).length ∧
    e.leader = none ∧
    (if ∃ i < t.points.length, fitted t i = true ∧ rated t i = false ∧ effNet t i = e.net then
      e.state = .barred ∧ e.reason = some .rating else e.state = .pending ∧ e.reason = none)

/-- QUERY STATUS section 0, station and run (R172). -/
abbrev stationSection (s : State) (d : List Byte) : Prop :=
  d.length = 24 ∧ fieldAt d 0 1 = 0 ∧ fieldAt d 1 1 = addr s ∧
  fieldAt d 2 1 = s.straps.rate.toNat + 2 * s.straps.hvsrc.toNat + 4 * s.straps.autodet.toNat ∧
  fieldAt d 3 1 = runStateCode s.run.state ∧ fieldAt d 4 2 = s.run.number % 65536 ∧
  fieldAt d 6 1 = s.run.sweepOn.toNat + 2 * s.run.insOn.toNat ∧ fieldAt d 7 1 = s.run.elected.getD 255 % 256 ∧
  fieldAt d 8 1 = s.run.halt.toNat ∧
  (fieldAt d 9 1, fieldAt d 10 2, fieldAt d 12 1) =
    (match s.run.step with
      | .none => (0, 0, 255)
      | .point gp driver => (1, gp % 65536, driver % 256)
      | .net n => (2, n % 65536, 255)) ∧
  fieldAt d 13 1 = s.lines.estop.toNat + 2 * s.lines.holdSeen.toNat + 4 * s.lines.liveSeen.toNat
    + 8 * s.lines.holdOut.toNat + 16 * s.lines.liveOut.toNat ∧
  fieldAt d 14 1 = overrideCode s.matrix.override ∧ fieldAt d 15 1 = s.bus.errors % 256 ∧
  fieldAt d 16 1 = (s.sampler.offset % 256).toNat ∧ fieldAt d 17 2 = s.decoder.status.toNat ∧
  fieldAt d 19 2 = s.decoder.mask.toNat ∧ fieldAt d 21 1 = s.decoder.ctx.isSome.toNat ∧
  (fieldAt d 22 1, fieldAt d 23 1) =
    (match s.decoder.ctx with
      | none => (0, 0)
      | some c => (delayedCode c.kind, c.requester.toNat))

/-- QUERY STATUS section 1, parameters (R68, R73, R97, R172). -/
abbrev paramSection (s : State) (d : List Byte) : Prop :=
  let p := s.params
  let slot (w : Option Watch) : Nat × Nat :=
    match w with
    | none => (0, 65535)
    | some x => (1 + 2 * x.halt.toNat + (if x.gp / 256 = addr s then 4 else 0), x.gp % 65536)
  d.length = 36 ∧ fieldAt d 0 1 = 1 ∧ fieldAt d 1 2 = p.l % 65536 ∧ fieldAt d 3 2 = p.h % 65536 ∧
  fieldAt d 5 1 = p.n % 256 ∧ fieldAt d 6 1 = p.s % 256 ∧ fieldAt d 7 2 = p.stepLimit % 65536 ∧
  fieldAt d 9 1 = p.sweep.toNat ∧ fieldAt d 10 1 = p.insulation.toNat ∧ fieldAt d 11 2 = p.volt % 65536 ∧
  fieldAt d 13 1 = p.profile % 256 ∧ fieldAt d 14 2 = p.dwell % 65536 ∧ fieldAt d 16 1 = p.w % 256 ∧
  fieldAt d 17 1 = p.peak.toNat ∧ fieldAt d 18 2 = p.trip % 65536 ∧ fieldAt d 20 4 = p.irMin % 4294967296 ∧
  fieldAt d 24 1 = p.summary.toNat ∧ fieldAt d 25 1 = p.page % 256 ∧ fieldAt d 26 2 = p.l % 65536 ∧
  fieldAt d 28 2 = (if p.l < p.h then p.h else p.l + 1) % 65536 ∧
  (fieldAt d 30 1, fieldAt d 31 2) = slot s.run.watch1 ∧ (fieldAt d 33 1, fieldAt d 34 2) = slot s.run.watch2

/-- QUERY STATUS section 2, blocks (R10, R13, R172). -/
abbrev blockSection (s : State) (d : List Byte) : Prop :=
  d.length = 42 ∧ fieldAt d 0 1 = 2 ∧
  (∀ b < 8, ∀ r ∈ s.blocks.records[b]?,
    fieldAt d (1 + 4 * b) 1 = r.code.getD 0 % 256 ∧
    fieldAt d (2 + 4 * b) 1 =
      (match r.band with
        | none => 255
        | some .invalid => 5
        | some (.kind k) => kindNumber k) ∧
    fieldAt d (3 + 4 * b) 1 = kindNumber r.kind ∧
    fieldAt d (4 + 4 * b) 1 = fittedCount r.kind + (if kindRated r.kind = true then 128 else 0)) ∧
  (∀ b < 8, ∀ k ∈ s.blocks.manual[b]?, fieldAt d (33 + b) 1 = kindNumber k) ∧
  fieldAt d 41 1 = s.blocks.allowed.std16.toNat + 2 * s.blocks.allowed.std32.toNat + 4 * s.blocks.allowed.hv16.toNat
    + 8 * s.blocks.allowed.hv32.toNat

/-- QUERY STATUS section 3, insulation (R119, R172): the section number alone where HVSRC is low. -/
abbrev engineSection (s : State) (d : List Byte) : Prop :=
  if s.straps.hvsrc = false then d = [3]
  else
    d.length = 17 ∧ fieldAt d 0 1 = 3 ∧ fieldAt d 1 1 = s.hv.elected.toNat ∧
    fieldAt d 2 1 = hvStageCode s.hv.stage ∧
    (fieldAt d 3 1, fieldAt d 4 2, fieldAt d 6 2, fieldAt d 8 4, fieldAt d 12 4) =
      (match s.hv.result with
        | none => (255, 0, 0, 0, 0)
        | some r => (verdictCode r.verdict, r.v % 65536, r.i % 65536, r.ir % 4294967296, r.ms % 4294967296)) ∧
    fieldAt d 16 1 = s.hv.userLength % 256

/-- QUERY STATUS section 4, list and print (R138, R148, R150, R172). -/
abbrev listSection (s : State) (d : List Byte) : Prop :=
  d.length = 39 ∧ fieldAt d 0 1 = 4 ∧ fieldAt d 1 2 = s.defects.records.length % 65536 ∧
  (∀ k < 12, fieldAt d (3 + 2 * k) 2 =
    (s.defects.records.filter fun r => classOrder r.what == k + 1).length % 65536) ∧
  fieldAt d 27 2 = s.defects.lost % 65536 ∧ fieldAt d 29 1 = s.print.pass.toNat ∧
  fieldAt d 30 1 = passEndCode s.print.outcome ∧ fieldAt d 31 1 = s.print.credit % 256 ∧
  fieldAt d 32 1 = s.print.pageLength % 256 ∧ fieldAt d 33 1 = s.print.lineOn % 256 ∧
  fieldAt d 34 2 = s.print.page % 65536 ∧ fieldAt d 36 2 = s.print.printed % 65536 ∧
  fieldAt d 38 1 = s.print.footer % 256

/-- The point item of QUERY POINT and DUMP POINTS (R175). -/
abbrev pointItemSays (s : State) (gp : Nat) (d : List Byte) : Prop :=
  let i := gp % 256
  let p := pointAt s i
  let net := if p.net = 0 then 4096 + addr s * 256 + i else p.net
  d.length = 24 ∧ fieldAt d 0 2 = gp % 65536 ∧ fieldAt d 2 2 = p.net % 65536 ∧ fieldAt d 4 1 = roleCode p.role ∧
  fieldAt d 5 2 = net % 65536 ∧ fieldAt d 7 1 = switchCode p.switch ∧
  fieldAt d 8 1 = (p.pending.map switchCode).getD 255 ∧ fieldAt d 9 1 = p.driven.toNat ∧
  fieldAt d 10 2 = p.leader.getD 65535 % 65536 ∧
  (fieldAt d 12 1, fieldAt d 13 2) =
    (match p.last with
      | none => (255, 0)
      | some x => (classCode x.cls, x.r % 65536)) ∧
  fieldAt d 15 1 = (fitted s i).toNat + 2 * (rated s i).toNat + 4 * (busy s p).toNat
    + (if s.matrix.override = .none then 0 else 8) ∧
  fieldAt d 16 1 = kindNumber (blockKind s (i / 32)) ∧ fieldAt d 17 1 < 32 ∧
  (∀ t ∈ [Switch.float, .sense, .drive, .hv, .ret], (fieldAt d 17 1).testBit (switchCode t) = admitsPoint s i p t) ∧
  (fieldAt d 18 1, fieldAt d 19 2, fieldAt d 21 2, fieldAt d 23 1) =
    (match s.netMap.find? fun e => e.net == net with
      | none => (255, 0, 0, 0)
      | some e => (insStateCode e.state, e.count % 65536, e.leader.getD 65535 % 65536, (e.reason.map reasonCode).getD 0))

/-- The body of a record in a defect item, unused bytes 0 (R136, R176). -/
abbrev bodySays (w : Defect) (d : List Byte) : Prop :=
  match w with
  | .highResistance _ _ r drive =>
      fieldAt d 10 2 = r % 65536 ∧ fieldAt d 12 2 = drive % 65536 ∧ fieldAt d 14 4 = 0
  | .leakage _ _ r => fieldAt d 10 2 = r % 65536 ∧ fieldAt d 12 6 = 0
  | .driveFault _ ref => fieldAt d 10 2 = ref % 65536 ∧ fieldAt d 12 6 = 0
  | .insulationFail _ v i ir =>
      fieldAt d 10 2 = v % 65536 ∧ fieldAt d 12 2 = i % 65536 ∧ fieldAt d 14 4 = ir % 4294967296
  | .breakdown _ i ms => fieldAt d 10 2 = i % 65536 ∧ fieldAt d 12 4 = ms % 4294967296 ∧ fieldAt d 16 2 = 0
  | .undervolt _ v => fieldAt d 10 2 = v % 65536 ∧ fieldAt d 12 6 = 0
  | .notTested _ why => fieldAt d 10 1 = reasonCode why ∧ fieldAt d 11 7 = 0
  | _ => fieldAt d 10 8 = 0

/-- The defect item of DUMP DEFECTS (R137, R144, R176): of a stored record, and of the LOST record. -/
abbrev defectItemSays (s : State) (e : ListEntry) (d : List Byte) : Prop :=
  d.length = 19 ∧
  match e with
  | .stored r =>
      let k := identOf r.what
      fieldAt d 0 5 = (k.order * 8589934592 + k.a * 524288 + k.b * 32 + addr s) % 137438953472 ∧
      fieldAt d 5 1 = classOrder r.what ∧ fieldAt d 6 2 = k.a % 65536 ∧ fieldAt d 8 2 = k.b % 65536 ∧
      bodySays r.what d ∧ fieldAt d 18 1 = markCode r.mark
  | .lost =>
      fieldAt d 0 5 = 13 * 8589934592 + addr s * 524288 + addr s ∧ fieldAt d 5 1 = 13 ∧ fieldAt d 6 2 = addr s ∧
      fieldAt d 8 2 = 0 ∧ fieldAt d 10 2 = s.defects.lost % 65536 ∧ fieldAt d 12 6 = 0 ∧
      fieldAt d 18 1 = markCode s.defects.lostMark

/-! ## What the print lines say (3.11, Print lines) -/

/-- A print line: 48 characters, each text from the first character of its column on and blanks elsewhere. The columns are
1–15, 17–26, 28–37 and 39–48. -/
abbrev lineSays (text : List Byte) (name : String) (first second value : List Char) : Prop :=
  text.length = 48 ∧ ∀ i < 48, text[i]? = some (byte (Char.toNat (
    if i < 15 then name.toList.getD i ' '
    else if 16 ≤ i ∧ i < 26 then first.getD (i - 16) ' '
    else if 27 ≤ i ∧ i < 37 then second.getD (i - 27) ' '
    else if 38 ≤ i then value.getD (i - 38) ' '
    else ' ')))

/-- A point as `ss-ppp`, of a gp below 25600 (spec 00). -/
def pointName (gp : Nat) : List Char :=
  let digit (n : Nat) : Char := Char.ofNat (48 + n % 10)
  [digit (gp / 2560), digit (gp / 256), '-', digit (gp % 256 / 100), digit (gp % 256 / 10), digit (gp % 256)]

/-- An effective net: its number, or the point whose pseudo-net it is (R2, R149). -/
def netName (n : Nat) : List Char := if n < 4096 then Nat.toDigits 10 n else "PIN ".toList ++ pointName (n - 4096)

/-- A resistance of 0.1 Ω units in ohms, with one decimal (R149). -/
def ohms (r : Nat) : List Char :=
  if r = 65535 then "OVER".toList else Nat.toDigits 10 (r / 10) ++ '.' :: Nat.toDigits 10 (r % 10)

/-- The line of a record whose points and nets are of the tester (R136, R149). -/
abbrev recordSays (w : Defect) : Prop :=
  let line := recordText w
  let numbered (word : String) (n : Nat) : List Char := word.toList ++ ' ' :: Nat.toDigits 10 n
  match w with
  | .opn net gp => net < 10240 → gp < 6144 → lineSays line "OPEN" (netName net) (pointName gp) []
  | .highResistance net gp r _ => net < 10240 → gp < 6144 →
      lineSays line "HIGH_RESISTANCE" (netName net) (pointName gp) (ohms r)
  | .short lo hi => lo < 10240 → hi < 10240 → lineSays line "SHORT" (netName lo) (netName hi) []
  | .leakage lo hi r => lo < 10240 → hi < 10240 → lineSays line "LEAKAGE" (netName lo) (netName hi) (ohms r)
  | .driveFault gp ref => gp < 6144 → lineSays line "DRIVE_FAULT" [] (pointName gp) (numbered "REF" ref)
  | .undriven net => net < 10240 → lineSays line "UNDRIVEN" (netName net) [] []
  | .insulationFail net v _ ir => net < 10240 →
      lineSays line "INSULATION_FAIL" (netName net) (numbered "V" v) (numbered "IR" ir)
  | .breakdown net i ms => net < 10240 → lineSays line "BREAKDOWN" (netName net) (numbered "MS" ms) (numbered "I" i)
  | .undervolt net v => net < 10240 → lineSays line "UNDERVOLT" (netName net) (numbered "V" v) []
  | .notTested net why => net < 10240 →
      lineSays line "NOT_TESTED" (netName net) (String.toList (match why with
        | .shorted => "SHORTED"
        | .leakage => "LEAKAGE"
        | .rating => "RATING")) []
  | .phaseSkipped => lineSays line "PHASE_SKIPPED" "NO_SOURCE".toList [] []
  | .runEnd cause loc =>
      (match loc with
        | .point gp => gp < 6144
        | .net net => net < 10240
        | _ => True) →
      lineSays line "RUN_END" (String.toList (match cause with
        | .stepTimeout => "TIMEOUT"
        | .aborted => "ABORTED"
        | .estop => "ESTOP"
        | .dischargeFault => "DISCHARGE"
        | .busFault => "BUS_FAULT")) (match loc with
          | .prepare => "PREPARE".toList
          | .point gp => pointName gp
          | .net net => netName net
          | .station a => numbered "STN" a) []

end Sys2Proof.Machine
end

