-- ==== Sys2Proof/Certificates/Slice0/Obligations.lean ====
section
/-! DEFINITION. The statements about the station, for the provers. Each docstring names the rules it rests on. -/

open Sys2Proof Sys2Proof.Machine

/-! ## Requests: how they are taken (R52, R168 to R170) -/

/-- R52, R168, R43, R51: a REQUEST that is no console's, that is addressed elsewhere, or that is addressed here while an
answer is pending or the station is SILENT, leaves everything but the transmit slot and the bid window as it was. -/
def Obligations.RequestNotTakenChangesNothing : Prop :=
  ∀ (c : Instr) (h : Header) (k : Nat) (s : State), requestOf c = some (h, k) → takesFrames s = true →
    noFirstFrame s = true →
    (isConsole h.src = false ∨
      (h.dst ≠ Config.generalCall ∧
        (h.dst.toNat ≠ addr s ∨ s.bus.silent = true ∨ (∃ e ∈ (notSent s).bus.slot, entryKind e = 9 ∨ entryKind e = 10)))) →
    exec c s = .next { s with bus := heard s }

/-- R169: an addressed request of a general-call-only kind, and an addressed request that cannot be judged as its kind, is
refused with RANGE and selector 0 and changes nothing else. R154: so is an addressed STOP PRINT.

R169: a general call of an addressed-only kind, and one that cannot be judged as its kind, is disregarded.

The model's choices used here: log entry 27. -/
def Obligations.RequestsOfTheWrongFormAreRefused : Prop :=
  (∀ (c : Instr) (h : Header) (k : Nat) (s : State), requestOf c = some (h, k) → takesAddressed h s = true →
    noFirstFrame s = true →
    (k ∈ [2, 6, 7, 10, 12, 14, 22] ∨ ∃ code args, c = .unknownRequest h code args) →
    exec c s = .next { s with bus := answered h (refusal h k .range 0) s }) ∧
  (∀ (c : Instr) (h : Header) (k : Nat) (s : State), requestOf c = some (h, k) → takesGeneral h s = true →
    noFirstFrame s = true →
    (k ∈ [1, 4, 11, 15, 16, 17, 18, 19, 20, 21] ∨ ∃ code args, c = .unknownRequest h code args) →
    exec c s = .next { s with bus := heard s })


/-! ## Requests: the netlist slice and the blocks (R7, R8, R9, R15) -/

/-- R7, R170, R6: the checks of ASSIGN NET in order, each with its refusal; on acceptance the record's net and role, the
REPLY, and the admission check over every point. Of the batches nothing is said here. -/
def Obligations.AssignNetJudgesInOrder : Prop :=
  ∀ (h : Header) (gp net : Half) (role : Byte) (s : State), takesAddressed h s = true → noFirstFrame s = true →
    runLawful s = true →
    ∃ t, exec (.assignNet h gp net role) s = .next t ∧
      if gp.toNat / 256 ≠ addr s then t = { s with bus := answered h (refusal h 1 .range gp) s }
      else if runActive s = true then t = { s with bus := answered h (refusal h 1 .runActive gp) s }
      else if s.matrix.override ≠ .none ∨ busy s (pointAt s (gp.toNat % 256)) = true then
        t = { s with bus := answered h (refusal h 1 .busy gp) s }
      else
        match roleOfCode role with
        | none => t = { s with bus := answered h (refusal h 1 .range gp) s }
        | some ro =>
            if 4095 < net.toNat then t = { s with bus := answered h (refusal h 1 .range gp) s }
            else
              t = { s with
                bus := answered h (replyTo h 1 (halfBytes gp ++ halfBytes net ++ [role])) s
                points := t.points, matrix := { s.matrix with batches := t.matrix.batches } } ∧
              t.points.length = s.points.length ∧
              ∀ j < s.points.length, pointAt t j = afterAdmission s j
                (if j = gp.toNat % 256 then { pointAt s j with net := net.toNat, role := ro } else pointAt s j)

/-- R8, R6: ASSIGN RANGE as a general call. It is disregarded in each of the cases R8 lists, with a run active, and where the
range holds no gp of this station; else each owned record in range that is not busy takes its net and role, unless an
override is in force, and the admission check follows.

R9: CLEAR TABLE, addressed and as a general call, with and without an active run. -/
def Obligations.NetlistCallsWriteOwnedPoints : Prop :=
  (∀ (h : Header) (first last net : Half) (stp role : Byte) (s : State), takesGeneral h s = true →
    noFirstFrame s = true → runLawful s = true →
    ∃ t, exec (.assignRange h first last net stp role) s = .next t ∧
      match roleOfCode role with
      | none => t = { s with bus := heard s }
      | some ro =>
          if last.toNat < first.toNat ∨ 6143 < first.toNat ∨ 6143 < last.toNat ∨ 4095 < net.toNat ∨ 1 < stp.toNat
              ∨ (stp = 1 ∧ (net = 0 ∨ 4095 < net.toNat + (last.toNat - first.toNat))) ∨ runActive s = true
              ∨ (∀ j < s.points.length, gpOf s j < first.toNat ∨ last.toNat < gpOf s j) then
            t = { s with bus := heard s }
          else
            t = { s with
              bus := heard s, points := t.points, matrix := { s.matrix with batches := t.matrix.batches } } ∧
            t.points.length = s.points.length ∧
            ∀ j < s.points.length, pointAt t j = afterAdmission s j
              (if first.toNat ≤ gpOf s j ∧ gpOf s j ≤ last.toNat ∧ s.matrix.override = .none
                  ∧ busy s (pointAt s j) = false then
                { pointAt s j with
                  net := if stp = 1 then net.toNat + (gpOf s j - first.toNat) else net.toNat, role := ro }
              else pointAt s j)) ∧
  (∀ (h : Header) (s : State), noFirstFrame s = true →
    (takesAddressed h s = true →
      ∃ t, exec (.clearTable h) s = .next t ∧
        if runActive s = true then t = { s with bus := answered h (refusal h 3 .runActive 0) s }
        else
          t = { s with bus := answered h (replyTo h 3 []) s, points := t.points } ∧
          t.points.length = s.points.length ∧
          ∀ j < s.points.length, pointAt t j = { pointAt s j with net := 0, role := .signal }) ∧
    (takesGeneral h s = true →
      ∃ t, exec (.clearTable h) s = .next t ∧
        if runActive s = true then t = { s with bus := heard s }
        else
          t = { s with bus := heard s, points := t.points } ∧ t.points.length = s.points.length ∧
          ∀ j < s.points.length, pointAt t j = { pointAt s j with net := 0, role := .signal }))


/-- R15, R170, R14, R6: the checks of SET BLOCKS in order; on acceptance both arguments are stored, with AUTODET low the
kinds take force at once, the REPLY carries the records as they then stand, and with AUTODET low the admission check
follows (where the kinds in force are the same it finds every point as before, so no record changes). -/
def Obligations.SetBlocksJudgesInOrder : Prop :=
  ∀ (h : Header) (kinds : Vector Byte 8) (allowed : Byte) (s : State), takesAddressed h s = true →
    noFirstFrame s = true → runLawful s = true →
    ∃ t, exec (.setBlocks h kinds allowed) s = .next t ∧
      if runActive s = true then t = { s with bus := answered h (refusal h 4 .runActive 0) s }
      else if s.matrix.override ≠ .none ∨ s.points.any (busy s) = true then
        t = { s with bus := answered h (refusal h 4 .busy 0) s }
      else if ∃ b ∈ kinds.toList, 4 < b.toNat then
        t = { s with
          bus := answered h (refusal h 4 .range (half (kinds.toList.findIdx fun b => decide (4 < b.toNat)))) s }
      else if 15 < allowed.toNat then t = { s with bus := answered h (refusal h 4 .range 8) s }
      else
        kinds.toList.mapM kindOfNumber = some t.blocks.manual ∧ allowedOfCode allowed = some t.blocks.allowed ∧
        t.blocks.records = (if s.straps.autodet = true then s.blocks.records
          else t.blocks.manual.map fun k => { code := none, band := none, kind := k }) ∧
        t = { s with
          bus := answered h (replyTo h 4 ((t.blocks.records.map blockBytes).flatten)) s
          blocks := t.blocks, points := t.points, matrix := { s.matrix with batches := t.matrix.batches } } ∧
        t.points.length = s.points.length ∧
        ∀ j < s.points.length, pointAt t j =
          if t.blocks.records.map Block.kind = s.blocks.records.map Block.kind then pointAt s j
          else afterAdmission { s with blocks := t.blocks } j (pointAt s j)

/-! ## Requests: runs, parameters and watches (R73, R75 to R78, R97, R100, R122, R171) -/

/-- R73: every field of RUN PARAMETERS stored in its range, in every run state; the REPLY with the stored values when
addressed, none for a general call. -/
def Obligations.RunParametersStoredInRange : Prop :=
  ∀ (h : Header) (a : ParamArgs) (s : State), noFirstFrame s = true →
    (takesAddressed h s = true ∨ takesGeneral h s = true) →
    ∃ t, exec (.runParameters h a) s = .next t ∧
      t = { s with
        params := t.params
        bus := if h.dst = Config.generalCall then heard s else answered h (replyTo h 5 (paramBytes t.params)) s } ∧
      t.params.l = min 65533 a.l.toNat ∧ t.params.h = max 1 a.h.toNat ∧
      t.params.n = (if 8 ≤ a.n.toNat then 8 else if 4 ≤ a.n.toNat then 4 else if 2 ≤ a.n.toNat then 2 else 1) ∧
      t.params.s = max 1 (min 20 a.s.toNat) ∧ t.params.stepLimit = max 10 (min 5000 a.stepLimit.toNat) ∧
      t.params.sweep = (a.sweep != 0) ∧ t.params.insulation = (a.insulation != 0) ∧
      t.params.volt = max 50 (min 1500 a.volt.toNat) / 10 * 10 ∧
      t.params.profile = (if 4 < a.profile.toNat then 1 else a.profile.toNat) ∧
      t.params.dwell = max 10 (min 60000 a.dwell.toNat) ∧
      t.params.w = (if a.w = 8 then 8 else if a.w = 32 then 32 else 16) ∧ t.params.peak = (a.mode == 1) ∧
      t.params.trip = max 1000 a.trip.toNat ∧ t.params.irMin = max 1 (min 999999 a.irMin.toNat) ∧
      t.params.summary = (a.summary != 0) ∧ t.params.page = max 20 (min 120 a.page.toNat)

/-- R122: PROFILE SEGMENT and PROFILE LENGTH as general calls: stored clamped by a station strapped HVSRC, disregarded by
any other, and PROFILE SEGMENT with an index above 15 by all. -/
def Obligations.ProfileCallsStoreClamped : Prop :=
  ∀ (h : Header) (s : State), noFirstFrame s = true → takesGeneral h s = true →
    (∀ (index level : Byte) (duration : Half), ∃ t, exec (.profileSegment h index level duration) s = .next t ∧
      t = { s with bus := heard s, hv := { s.hv with segments := t.hv.segments } } ∧
      t.hv.segments.length = s.hv.segments.length ∧
      ∀ j < s.hv.segments.length, t.hv.segments[j]? =
        if j = index.toNat ∧ s.straps.hvsrc = true ∧ index.toNat ≤ 15 then
          some { level := min 100 level.toNat, ms := min 10000 duration.toNat }
        else s.hv.segments[j]?) ∧
    (∀ (length : Byte), ∃ t, exec (.profileLength h length) s = .next t ∧
      t = { s with
        bus := heard s
        hv := { s.hv with
          userLength := if s.straps.hvsrc = true then min 16 length.toNat else s.hv.userLength } })

/-- R75, R76, R78 (steps 1 to 4), R17, R18, R147, R163, R176: a START RUN that is accepted; the Net Map built entry by entry,
the events of the detection (R12, R13) with their NOTICE where unmasked, which shows each unmasked one, and the cancelled END of a DUMP DEFECTS in
progress.

R75, R34: a START RUN that is ignored sets START_IGNORED and changes nothing else but the transmit slot; an addressed one
is refused with RUN_ACTIVE, ESTOP or RANGE, in that order.

The model's choices used here: log entries 5 and 45 (the status that a merged NOTICE shows). -/
def Obligations.StartRunIsJudged : Prop :=
  (∀ (h : Header) (number : Half) (ids : IdCodes) (s : State),
    (takesAddressed h s = true ∨ takesGeneral h s = true) → runLawful s = true → linesLawful s = true →
    runActive s = false → s.lines.estop = false → number ≠ 0 →
    ∃ t, exec (.startRun h number ids) s = .next t ∧
      t.run = { s.run with
        state := .prepare, number := number.toNat, sweepOn := s.params.sweep, insOn := s.params.insulation
        elected := none, step := .none, halt := false, sweepStage := .none, insStage := .none
        timer :=
          { mode := if s.lines.liveSeen = true ∧ s.lines.holdSeen = false then .suspended false else .running
            elapsed := 0, limit := s.params.stepLimit } } ∧
      t.lines = { s.lines with holdOut := true, holdSeen := true } ∧
      t.defects = { records := [], lost := 0, lostMark := .unprinted } ∧
      t.bus.silent = false ∧ t.bus.errors = 0 ∧ t.bus.held = false ∧ t.bus.integrated = true ∧
      t.bus.resetCount = s.bus.resetCount ∧
      t.matrix = { s.matrix with override := .none } ∧
      eachPoint s t (fun _ p => { p with driven := false, leader := none, last := none }) ∧
      t.sampler =
        { job := .calibrating, offset := s.sampler.offset, buffer := List.replicate 256 none, ref := none } ∧
      t.blocks = (if s.straps.autodet = true then
        { s.blocks with records := ids.toList.map (detectBlock s.blocks.allowed) } else s.blocks) ∧
      t.netMap = builtNetMap t ∧ netMapBuilt t ∧ t.decoder.summary = some 0 ∧ t.decoder.mask = s.decoder.mask ∧
      t.decoder.status =
        (if s.straps.autodet = true then s.decoder.status ||| foundBits s.blocks.allowed ids else s.decoder.status) ∧
      (s.straps.autodet = true → foundBits s.blocks.allowed ids &&& ~~~ s.decoder.mask ≠ 0 →
        let found := foundBits s.blocks.allowed ids
        ∃ x ∈ [found &&& 16, found &&& 32, found], found &&& ~~~ s.decoder.mask &&& ~~~ x = 0 ∧
          waits (ownFrame s 28 (.notice ((s.decoder.status ||| x).setWidth 16) 1)) t) ∧
      (∀ c ∈ s.decoder.ctx, c.kind = .dumpDefects →
        waits (ownFrame s c.requester (.answerEnd (byte (delayedCode .dumpDefects)) c.tag (half c.sent) 1)) t ∧
        ∀ e ∈ t.bus.slot, entryKind e ≠ 11) ∧
      t.decoder.ctx = s.decoder.ctx.map (fun c => if c.kind = .dumpDefects then { c with cancelled := true } else c) ∧
      t.print = (if s.print.pass = true then { s.print with pass := false, outcome := .cut, stall := none }
        else s.print) ∧
      (∀ e ∈ t.bus.slot, s.print.pass = true → entryKind e ≠ 15) ∧
      (h.dst ≠ Config.generalCall → waits (ownFrame s h.src (replyTo h 8 (halfBytes number))) t) ∧
      (let kept (e : TxEntry) : Bool := !servesRequest e && (entryKind e != 9 || h.dst == Config.generalCall)
          && (entryKind e != 11 && entryKind e != 12 || s.decoder.ctx.all fun c => c.kind != .dumpDefects)
          && (entryKind e != 13 || !s.straps.autodet || foundBits s.blocks.allowed ids &&& ~~~ s.decoder.mask == 0)
          && (entryKind e != 15 || !s.print.pass);
        (∀ e ∈ (heard s).slot, kept e = true → e ∈ t.bus.slot) ∧
        (∀ e ∈ t.bus.slot, kept e = true → e ∈ (heard s).slot) ∧ ∀ e ∈ t.bus.slot, servesRequest e = false) ∧
      t.hv = { s.hv with elected := false } ∧ t.params = s.params ∧ t.straps = s.straps ∧ t.pending = s.pending) ∧
  (∀ (h : Header) (number : Half) (ids : IdCodes) (s : State), noFirstFrame s = true →
    (takesAddressed h s = true ∨ takesGeneral h s = true) →
    (runActive s = true ∨ s.lines.estop = true ∨ number = 0) →
    ∃ t, exec (.startRun h number ids) s = .next t ∧
      let u := raise .startIgnored { s with bus := heard s }
      t = (if h.dst = Config.generalCall then u
        else withFrame h.src (refusal h 8
          (if runActive s = true then .runActive else if s.lines.estop = true then .estop else .range) 0) u) ∧
      t.decoder = { s.decoder with status := s.decoder.status ||| 128 })


/-- R178, R179, R51: an event sets its status bit and nothing else, but where it is unmasked, at a station that is neither
SILENT nor in HELD, it queues a NOTICE to address 28 with the status and run state as they stand after it.

The model's choices used here: log entry 45 (the status that a merged NOTICE shows). -/
def Obligations.EventSetsStatusAndNotice : Prop :=
  ∀ (e : Event) (s : State),
    let st := s.decoder.status ||| BitVec.ofNat 12 (2 ^ eventBit e)
    let s1 : State := { s with decoder := { s.decoder with status := st } }
    let f : Frame := ⟨s.straps.adr, 28, .notice (st.setWidth 16) (byte (runStateCode s.run.state))⟩
    raise e s =
      if s.decoder.mask.getLsbD (eventBit e) = true ∨ s.bus.held = true ∨ s.bus.silent = true then s1
      else { s1 with bus := { s1.bus with slot := putFrame f s.bus.slot } }

/-- R100: CONTINUE, addressed and as a general call, with the halt flag set and clear.

R171, R97: SET WATCH replaces both slots in every run state and leaves the halt flag; a slot without its present flag,
or with a gp above 6143, is stored absent. -/
def Obligations.ContinueAndSetWatch : Prop :=
  (∀ (h : Header) (s : State), noFirstFrame s = true →
    (takesAddressed h s = true → s.run.halt = true → (drivenHere s).isSome = true →
      exec (.continueRun h) s = .next
        { s with
        bus := answered h (replyTo h 9 (halfBytes (half ((drivenHere s).getD 0)))) s
        lines := { s.lines with holdOut := false }
        run := { s.run with halt := false, sweepStage := .driveReleased } }) ∧
    (takesAddressed h s = true → s.run.halt = false →
      exec (.continueRun h) s = .next { s with bus := answered h (refusal h 9 .noHalt 0) s }) ∧
    (takesGeneral h s = true →
      exec (.continueRun h) s = .next (if s.run.halt = true then
        { s with
          bus := heard s, lines := { s.lines with holdOut := false }
          run := { s.run with halt := false, sweepStage := .driveReleased } }
        else { s with bus := heard s }))) ∧
  (∀ (h : Header) (w1 w2 : WatchArg) (s : State), noFirstFrame s = true → takesGeneral h s = true →
    ∃ t, exec (.setWatch h w1 w2) s = .next t ∧
      t = { s with bus := heard s, run := { s.run with watch1 := t.run.watch1, watch2 := t.run.watch2 } } ∧
      t.run.watch1 = (if w1.flags.getLsbD 0 = false ∨ 6143 < w1.gp.toNat then none
        else some { gp := w1.gp.toNat, halt := w1.flags.getLsbD 1 }) ∧
      t.run.watch2 = (if w2.flags.getLsbD 0 = false ∨ 6143 < w2.gp.toNat then none
        else some { gp := w2.gp.toNat, halt := w2.flags.getLsbD 1 }))

/-! ## Requests: the switch matrix (R35 to R39) -/

/-- R39, R170, R27, R28: the checks of SET SWITCH in order; on acceptance the REPLY with the switch state at acceptance and a
batch of the one point, which leaves its earlier batch. -/
def Obligations.SetSwitchJudgesInOrder : Prop :=
  ∀ (h : Header) (gp : Half) (target : Byte) (s : State), takesAddressed h s = true → noFirstFrame s = true →
    runLawful s = true → gp.toNat % 256 < s.points.length →
    ∃ t, exec (.setSwitch h gp target) s = .next t ∧
      if gp.toNat / 256 ≠ addr s then t = { s with bus := answered h (refusal h 11 .range gp) s }
      else if runActive s = true then t = { s with bus := answered h (refusal h 11 .runActive gp) s }
      else if s.lines.estop = true then t = { s with bus := answered h (refusal h 11 .estop gp) s }
      else if fitted s (gp.toNat % 256) = false then t = { s with bus := answered h (refusal h 11 .notFitted gp) s }
      else if (switchOfCode target).any
          (fun x => !admitsPoint s (gp.toNat % 256) (pointAt s (gp.toNat % 256)) x) = true then
        t = { s with bus := answered h (refusal h 11 .role gp) s }
      else if s.matrix.override ≠ .none ∨ busy s (pointAt s (gp.toNat % 256)) = true
          ∨ (target = 3 ∧ s.lines.liveSeen = true) then
        t = { s with bus := answered h (refusal h 11 .busy gp) s }
      else
        match switchOfCode target with
        | none => t = { s with bus := answered h (refusal h 11 .range gp) s }
        | some x =>
            t = { s with
              bus := answered h (replyTo h 11
                (halfBytes gp ++ [target, byte (switchCode (pointAt s (gp.toNat % 256)).switch)])) s
              points := t.points, matrix := { s.matrix with batches := t.matrix.batches } } ∧
            eachPoint s t (fun j p =>
              if j = gp.toNat % 256 then requestPoint s.lines.liveSeen s.params.s x p else p) ∧
            t.matrix.batches =
              (s.matrix.batches.map (dropPoints [gp.toNat % 256])
                ++ [({ purpose := .manual, left := [gp.toNat % 256].filter (inTransit t) } : Batch)]).filter fun b => !b.left.isEmpty

/-- R36, R31, R83, R84, R86: MATRIX OVERRIDE FLOAT as a general call opens every relay, abandons every batch and puts the
override in force; an active run ends with cause ABORTED at the current step.

The model's choices used here: log entries 16, 32, 38 (buffer and reference code after a run end in
settling), 45 (the status that a merged NOTICE shows)
and 47 (the elapsed time of a stopped step timer). -/
def Obligations.OverrideFloatForcesFloat : Prop :=
  ∀ (h : Header) (s : State), takesGeneral h s = true → noFirstFrame s = true → runLawful s = true →
    ∃ t, exec (.matrixOverrideFloat h) s = .next t ∧ allForced s t ∧ t.matrix = { batches := [], override := .float } ∧
      if runActive s = true then
        runEnds .aborted (currentWhere s) (heard s) s t ∧ t.lines = { s.lines with holdOut := false }
      else t = { s with bus := heard s, points := t.points, matrix := t.matrix }

/-- R37, R34: MATRIX OVERRIDE RETURN as a general call. With a run active or ESTOP seen asserted it sets OVERRIDE_REFUSED;
with RETURN in force it changes nothing; else RETURN is in force, every sensable point is requested to RETURN and every
other to FLOAT.

R38: MATRIX OVERRIDE OFF as a general call, for each override state, in every run state (RETURN is never in force in an active
run, R37, R78).

The model's choices used here: log entry 45 (the status that a merged NOTICE shows). -/
def Obligations.OverrideReturnAndOff : Prop :=
  (∀ (h : Header) (s : State), takesGeneral h s = true → noFirstFrame s = true → runLawful s = true →
    ∃ t, exec (.matrixOverrideReturn h) s = .next t ∧
      if runActive s = true ∨ s.lines.estop = true then t = raise .overrideRefused { s with bus := heard s }
      else if s.matrix.override = .ret then t = { s with bus := heard s }
      else
        t = { s with bus := heard s, points := t.points, matrix := { override := .ret, batches := t.matrix.batches } } ∧
        eachPoint s t (fun j p =>
          requestPoint s.lines.liveSeen s.params.s (if sensable s j p = true then .ret else .float) p)) ∧
  (∀ (h : Header) (s : State), takesGeneral h s = true → noFirstFrame s = true → runLawful s = true →
    (s.matrix.override = .ret → runActive s = false) →
    ∃ t, exec (.matrixOverrideOff h) s = .next t ∧
      match s.matrix.override with
      | .none => t = { s with bus := heard s }
      | .float => t = { s with bus := heard s, matrix := { s.matrix with override := .none } }
      | .ret =>
          t = { s with bus := heard s, points := t.points, matrix := { override := .none, batches := t.matrix.batches } } ∧
          eachPoint s t (fun _ p =>
            if s.lines.estop = true then p else requestPoint s.lines.liveSeen s.params.s .float p))


/-! ## Requests: printing, delayed answers, status and events (R152 to R154, R170, R172, R173, R177, R180) -/

/-- R152, R145, R155, R157: a PRINT taken in COMPLETE or ENDED starts a pass with every mark UNPRINTED and bids header line 1
where the station may send lines; in any other state, and addressed, it sets PRINT_REFUSED (R154).

R153: STOP PRINT as a general call ends a pass with outcome STOPPED, marks and counters kept, no LINE left pending; with no
pass it changes nothing.

The model's choices used here: log entry 45 (the status that a merged NOTICE shows). -/
def Obligations.PrintAndStopPrint : Prop :=
  (∀ (h : Header) (s : State), noFirstFrame s = true →
    (takesGeneral h s = true → (s.run.state = .complete ∨ s.run.state = .ended) →
      ∃ t, exec (.print h) s = .next t ∧
        t = { s with
          bus := { heard s with slot := t.bus.slot }, print := t.print
          defects := { s.defects with
            records := s.defects.records.map (fun r => { r with mark := .unprinted }), lostMark := .unprinted } } ∧
        t.print = { s.print with
          pass := true, pageLength := s.params.page, lineOn := 0, page := 0, printed := 0, footer := 0
          stall := some 0 } ∧
        t.bus.slot =
          if s.bus.silent = false ∧ 0 < s.print.credit then
            putFrame (ownFrame s 31 (.line (printKey 0 1 0 0) (headerText t 1))) (heard s).slot
          else (heard s).slot.filter fun e => entryKind e != 15) ∧
    (takesGeneral h s = true → s.run.state ≠ .complete → s.run.state ≠ .ended →
      exec (.print h) s = .next (raise .printRefused { s with bus := heard s })) ∧
    (takesAddressed h s = true →
      ∃ t, exec (.print h) s = .next t ∧
        t = withFrame h.src (refusal h 13 .range 0) (raise .printRefused { s with bus := heard s }) ∧
        t.decoder = { s.decoder with status := s.decoder.status ||| 512 })) ∧
  (∀ (h : Header) (s : State), takesGeneral h s = true → noFirstFrame s = true →
    ∃ t, exec (.stopPrint h) s = .next t ∧
      if s.print.pass = true then
        t = { s with
          bus := { heard s with slot := (heard s).slot.filter fun e => entryKind e != 15 }
          print := { s.print with pass := false, outcome := .stopped, stall := none } }
      else t = { s with bus := heard s })


/-- R173, R170: QUERY POINT, DUMP POINTS and DUMP DEFECTS open a context at their first item, or are refused RANGE with the
gp that R170 names, or BUSY with selector 0; acceptance queues nothing.

R177: CANCEL with no delayed request in progress is answered with 0 and changes nothing else; with one, it is answered
with its request code, the DATA not begun is withdrawn, and an END marked cancelled is queued to its requester. -/
def Obligations.DelayedRequestsOpenAndCancel : Prop :=
  (∀ (h : Header) (s : State), takesAddressed h s = true → noFirstFrame s = true →
    (∀ (gp : Half), exec (.queryPoint h gp) s = .next (
      if gp.toNat / 256 ≠ addr s then { s with bus := answered h (refusal h 15 .range gp) s }
      else if s.decoder.ctx ≠ none then { s with bus := answered h (refusal h 15 .busy 0) s }
      else { s with
        bus := heard s
        decoder := { s.decoder with ctx := some ⟨.queryPoint, h.tag, h.src, gp.toNat, gp.toNat, none, none, 0, false, false⟩ } })) ∧
    (∀ (first last : Half), exec (.dumpPoints h first last) s = .next (
      if first.toNat / 256 ≠ addr s then { s with bus := answered h (refusal h 16 .range first) s }
      else if last.toNat / 256 ≠ addr s then { s with bus := answered h (refusal h 16 .range last) s }
      else if last.toNat < first.toNat then { s with bus := answered h (refusal h 16 .range first) s }
      else if s.decoder.ctx ≠ none then { s with bus := answered h (refusal h 16 .busy 0) s }
      else { s with
        bus := heard s
        decoder := { s.decoder with
          ctx := some ⟨.dumpPoints, h.tag, h.src, first.toNat, last.toNat, none, none, 0, false, false⟩ } })) ∧
    (exec (.dumpDefects h) s = .next (
      if s.decoder.ctx ≠ none then { s with bus := answered h (refusal h 17 .busy 0) s }
      else { s with
        bus := heard s
        decoder := { s.decoder with ctx := some ⟨.dumpDefects, h.tag, h.src, 0, 0, none, none, 0, false, false⟩ } }))) ∧
  (∀ (h : Header) (s : State), takesAddressed h s = true → noFirstFrame s = true →
    ∃ t, exec (.cancel h) s = .next t ∧
      match s.decoder.ctx with
      | none => t = { s with bus := answered h (replyTo h 21 [0]) s }
      | some c =>
          let others := (answered h (replyTo h 21 [byte (delayedCode c.kind)]) s).slot.filter fun e => entryKind e != 11
          t = { s with
            bus := { heard s with
              slot := putFrame (ownFrame s c.requester (.answerEnd (byte (delayedCode c.kind)) c.tag (half c.sent) 1)) others }
            decoder := { s.decoder with ctx := some { c with cancelled := true } } } ∧
          waits (ownFrame s h.src (replyTo h 21 [byte (delayedCode c.kind)])) t ∧
          waits (ownFrame s c.requester (.answerEnd (byte (delayedCode c.kind)) c.tag (half c.sent) 1)) t)

/-- R172: QUERY STATUS is answered at once in every run state with the section's values as they stand and changes nothing
else; a section above 4 is refused with RANGE and the section as selector. The five sections hold, field by field and
truncated to the fields' widths, what R172 lists.

R180: CLEAR EVENTS clears the bits named and SET NOTICE MASK stores the mask, each in every run state, with a REPLY of the
two words and with no NOTICE; bits above bit 11 are ignored.

The model's choices used here: log entry 28. -/
def Obligations.StatusAndEventRequests : Prop :=
  (∀ (h : Header) (part : Byte) (s : State), takesAddressed h s = true → noFirstFrame s = true →
    exec (.queryStatus h part) s = .next { s with
      bus := answered h
        (match statusData s part.toNat with
          | some d => replyTo h 18 d
          | none => refusal h 18 .range (half part.toNat)) s } ∧
    ((statusData s part.toNat).isSome = true ↔ part.toNat ≤ 4) ∧
    (statusData s part.toNat).all (fun d => d.head? == some part) = true) ∧
  (∀ (s : State) (d : List Byte),
    (statusData s 0 = some d → stationSection s d) ∧ (statusData s 1 = some d → paramSection s d) ∧
    (statusData s 2 = some d → blocksLawful s = true → blockSection s d) ∧
    (statusData s 3 = some d → engineSection s d) ∧ (statusData s 4 = some d → listSection s d)) ∧
  (∀ (h : Header) (bits : Half) (s : State), takesAddressed h s = true → noFirstFrame s = true →
    (exec (.clearEvents h bits) s = .next { s with
      decoder := { s.decoder with status := s.decoder.status &&& ~~~ bits.setWidth 12 }
      bus := answered h (replyTo h 19
        (halfBytes ((s.decoder.status &&& ~~~ bits.setWidth 12).setWidth 16) ++ halfBytes (s.decoder.mask.setWidth 16))) s }) ∧
    (exec (.setNoticeMask h bits) s = .next { s with
      decoder := { s.decoder with mask := bits.setWidth 12 }
      bus := answered h (replyTo h 20
        (halfBytes ((bits.setWidth 12).setWidth 16) ++ halfBytes (s.decoder.status.setWidth 16))) s }))


/-! ## Resets and HELD (R58, R183) -/

/-- R183, R164, and the reset columns of R1, R16, R40, R60, R72, R119, R138, R150, R184: RESET RUN as a general call at a station
that has left HELD.

R183, R164, R12 to R14, and the same columns: RESET FULL as a general call at a station that has left HELD restores the
power-up values and then detects the blocks where AUTODET is high; only the event status shows what it found.

The model's choices used here: log entry 31. -/
def Obligations.ResetSetsItsScope : Prop :=
  (∀ (h : Header) (ids : IdCodes) (s : State), takesGeneral h s = true →
    ∃ t, exec (.resetRun h ids) s = .next t ∧
      eachPoint s t (fun _ p => { Point.powerUp with net := p.net, role := p.role }) ∧
      t = { State.atPowerUp s.straps false s.lines.holdSeen s.lines.estop with
        pending := s.pending
        bus := { heard s with slot := [], window := .off, errors := 0, silent := false }
        lines := { s.lines with holdOut := false }
        points := t.points, blocks := s.blocks, params := s.params
        run := { Run.powerUp with watch1 := s.run.watch1, watch2 := s.run.watch2 }
        hv := { Hv.powerUp s.straps.hvsrc with segments := s.hv.segments, userLength := s.hv.userLength }
        print := { Printer.powerUp with credit := s.print.credit, pageLength := s.print.pageLength }
        decoder := { Decoder.powerUp with mask := s.decoder.mask } }) ∧
  (∀ (h : Header) (ids : IdCodes) (s : State), takesGeneral h s = true →
    ∃ t, exec (.resetFull h ids) s = .next t ∧
      eachPoint s t (fun _ _ => Point.powerUp) ∧
      t = { State.atPowerUp s.straps false s.lines.holdSeen s.lines.estop with
        pending := s.pending
        bus := { heard s with slot := [], window := .off, errors := 0, silent := false }
        lines := { s.lines with holdOut := false }
        points := t.points, blocks := t.blocks
        decoder := { Decoder.powerUp with status := t.decoder.status } } ∧
      if s.straps.autodet = true then
        t.blocks = { Blocks.powerUp with records := ids.toList.map (detectBlock Blocks.powerUp.allowed) } ∧
        t.decoder.status = (if ids.toList.any (fun c => decide (c.toNat < 32)) = true then 32 else 0)
      else t.blocks = Blocks.powerUp ∧ t.decoder.status = 0)

/-- R58, R57: in HELD a RESET general call from a console raises the RESET count and every other clean frame clears it; the
second RESET releases the station with its scope's values, blocks detected under either scope where AUTODET is high, the
events of the detection set and, being masked throughout HELD (R12, R184), sending no NOTICE. A station with a strap fault
takes no frame.

R58, R41, R57: every other clean frame command in HELD clears the RESET count and is delivered to no block; a station that
has not integrated, or has a strap fault, takes none; a RESET command in HELD is the RESET frame of its scope.

The model's choices used here: log entries 11, 19, 30 and 31. -/
def Obligations.HeldTakesTheResetPairAlone : Prop :=
  (∀ (f : Frame) (ids : IdCodes) (s : State), s.bus.integrated = true → s.bus.held = true →
    runLawful s = true → floatHoldLawful s = true → pointsLawful s = true → maskLawful s = true →
    ∃ t, exec (.heldFrame f ids) s = .next t ∧
      if 24 ≤ addr s then t = s
      else
        match resetCall f with
        | none => t = { s with bus := { s.bus with resetCount := 0 } }
        | some full =>
            if s.bus.resetCount = 0 then t = { s with bus := { s.bus with resetCount := 1 } }
            else
              eachPoint s t (fun _ p =>
                if full = true then Point.powerUp else { Point.powerUp with net := p.net, role := p.role }) ∧
              t = { State.atPowerUp s.straps false s.lines.holdSeen s.lines.estop with
                pending := s.pending
                bus := { s.bus with
                  held := false, resetCount := 0, slot := [], window := .off, errors := 0, silent := false }
                lines := { s.lines with holdOut := false }
                points := t.points, blocks := t.blocks
                params := if full = true then Params.defaults else s.params
                run := if full = true then Run.powerUp
                  else { Run.powerUp with watch1 := s.run.watch1, watch2 := s.run.watch2 }
                hv := if full = true then Hv.powerUp s.straps.hvsrc
                  else { Hv.powerUp s.straps.hvsrc with
                    segments := s.hv.segments, userLength := s.hv.userLength }
                print := if full = true then Printer.powerUp
                  else { Printer.powerUp with credit := s.print.credit, pageLength := s.print.pageLength }
                decoder := { Decoder.powerUp with
                  mask := if full = true then BitVec.allOnes 12 else s.decoder.mask
                  status := t.decoder.status } } ∧
              let kept := if full = true then Blocks.powerUp else s.blocks
              t.blocks = (if s.straps.autodet = true then
                { kept with records := ids.toList.map (detectBlock kept.allowed) } else kept) ∧
              t.decoder.status = if s.straps.autodet = true then foundBits kept.allowed ids else 0) ∧
  (∀ (c : Instr) (s : State), s.bus.held = true →
    ((frameKind c).isSome = true → mayReset c = false →
      exec c s = .next (if s.bus.integrated = false ∨ 24 ≤ addr s then s
        else { s with bus := { s.bus with resetCount := 0 } })) ∧
    (∀ h ids, s.bus.integrated = true →
      exec (.resetRun h ids) s = exec (.heldFrame ⟨h.src, h.dst, .request 22 h.tag [1]⟩ ids) s ∧
      exec (.resetFull h ids) s = exec (.heldFrame ⟨h.src, h.dst, .request 22 h.tag [2]⟩ ids) s))


/-! ## Lines (R29, R30, R33, R34, R41, R53, R77) -/

/-- R41, R34, R53, R77: bus integration, the release of ESTOP, HOLD seen asserted and LIVE seen asserted; in an active run HOLD
restarts the step timer, suspended while LIVE is seen asserted, and LIVE suspends a running one. -/
def Obligations.LinesRiseAndTheTimer : Prop :=
  ∀ (s : State),
    (exec .busIntegration s = .next { s with bus := { s.bus with integrated := true } }) ∧
    (exec .estopReleased s = .next { s with lines := { s.lines with estop := false } }) ∧
    (s.lines.holdSeen = false → exec .holdSeenAsserted s = .next { s with
      lines := { s.lines with holdSeen := true }
      run := { s.run with timer := if runActive s = true then
          { mode := if s.lines.liveSeen = true then .suspended false else .running, elapsed := 0
            limit := s.params.stepLimit }
        else s.run.timer } }) ∧
    (s.lines.liveSeen = false → exec .liveSeenAsserted s = .next { s with
      lines := { s.lines with liveSeen := true }
      run := { s.run with timer := { s.run.timer with
        mode := if runActive s = true ∧ s.run.timer.mode = .running then .suspended false else s.run.timer.mode } } })

/-- R33, R31, R84, R58: ESTOP seen asserted outside HELD forces FLOAT, abandons every batch, removes a RETURN override, sends an
HVSRC station's engine to the following stage with HVEN low, and ends an active run with cause ESTOP; in HELD it is noted.

The model's choices used here: log entries 16, 19, 32, 38 (buffer and reference code after a run end in
settling), 45 (the status that a merged NOTICE shows)
and 47 (the elapsed time of a stopped step timer). -/
def Obligations.EstopForcesFloat : Prop :=
  ∀ (s : State), runLawful s = true → s.lines.estop = false →
    ∃ t, exec .estopAsserted s = .next t ∧
      if s.bus.held = true then t = { s with lines := { s.lines with estop := true } }
      else
        let h := if s.straps.hvsrc = true then { s.hv with stage := .following, setpoint := 0, hven := false } else s.hv
        allForced s t ∧
        t.matrix = { batches := [], override := if s.matrix.override = .float then .float else .none } ∧
        if runActive s = true then
          runEnds .estop (currentWhere s) s.bus { s with hv := h } t ∧
          t.lines = { s.lines with estop := true, holdOut := false }
        else t = { s with
          lines := { s.lines with estop := true }, points := t.points, matrix := t.matrix, hv := h }

/-- R30, R77: LIVE seen released starts every deferred change, closes the HV relay of every change waiting for LIVE, and lets a
step timer that LIVE suspended run on.

The model's choices used here: log entry 13. -/
def Obligations.LiveReleasedFreesHeldChanges : Prop :=
  ∀ (s : State), pointsLawful s = true → s.lines.liveSeen = true → s.lines.liveOut = false →
    ∃ t, exec .liveSeenReleased s = .next t ∧
      t = { s with
        lines := { s.lines with liveSeen := false }, points := t.points
        run := { s.run with timer := { s.run.timer with
          mode := if s.run.timer.mode = .suspended false then .running else s.run.timer.mode } } } ∧
      eachPoint s t (fun _ p =>
        match p.stage with
        | .deferred => { p with stage := .brk }
        | .waitLive => { p with stage := .settle .hv s.params.s }
        | .settle closed _ => if p.pending = some closed then p else { p with stage := .brk }
        | _ => p)

/-! ## Barriers that end (R77, R79 to R82, R101, R104, R109, R113, R118, R132, R133) -/

/-- R101, R104, R3, R77: HOLD seen released in the sweep ends the drive barrier (the driver marks its point, requests it back to
SENSE and queues REF) or completes the step (the bid window test and the next bid).

The model's choices used here: log entries 10, 30
and 47 (the elapsed time of a stopped step timer). -/
def Obligations.SweepBarriersEnd : Prop :=
  ∀ (busy : Bool) (s : State), s.lines.holdSeen = true → s.lines.holdOut = false → runLawful s = true →
    s.run.state = .sweep →
    (s.run.sweepStage = .driveReleased → ∃ t, exec (.holdSeenReleased busy) s = .next t ∧
      t = { s with
        lines := { s.lines with holdSeen := false }
        run := { s.run with
          sweepStage := .awaitingRef, timer := { mode := .running, elapsed := 0, limit := s.params.stepLimit } }
        bus := { s.bus with slot := t.bus.slot }, points := t.points
        matrix := { s.matrix with batches := t.matrix.batches } } ∧
      match drivenHere s with
      | none => t.bus.slot = s.bus.slot ∧ t.points = s.points ∧ t.matrix = s.matrix
      | some gp =>
          t.bus.slot = withBid (s.sampler.ref.map refPayload) s ∧
          eachPoint s t (fun j p =>
            if j = gp % 256 then requestedTo s .sense { p with driven := true, leader := some gp } else p)) ∧
    (s.run.sweepStage = .stepReleased → exec (.holdSeenReleased busy) s = .next { s with
      lines := { s.lines with holdSeen := false }
      run := { s.run with sweepStage := .bidding, timer := { s.run.timer with mode := .stopped } }
      bus := busBidding (driveBid s) busy s })

/-- R80, R81, R82, R79, R90, R113: HOLD seen released in PREPARE fixes the election and enters the sweep; where the sweep is
disabled, and after the end-of-sweep barrier, the insulation check begins, or the run is COMPLETE where the check is disabled
or no source was elected (PHASE_SKIPPED). From PREPARE the BARRED entries are recorded NOT_TESTED.

The model's choices used here: log entries 10, 45 (the status that a merged NOTICE shows)
and 47 (the elapsed time of a stopped step timer). -/
def Obligations.PhasesAreEntered : Prop :=
  ∀ (busy : Bool) (s : State), s.lines.holdSeen = true → s.lines.holdOut = false → runLawful s = true →
    (s.run.state = .prepare ∨ (s.run.state = .sweep ∧ s.run.sweepStage = .endReleased)) →
    ∃ t, exec (.holdSeenReleased busy) s = .next t ∧
      let h := if s.run.state = .prepare ∧ s.straps.hvsrc = true ∧ s.run.elected = some (addr s) then
        { s.hv with elected := true } else s.hv
      let s1 : State := { s with lines := { s.lines with holdSeen := false }, hv := h }
      if s.run.state = .prepare ∧ s.run.sweepOn = true then
        t = { s1 with
          run := { s.run with
            state := .sweep, sweepStage := .bidding, timer := { s.run.timer with mode := .stopped } }
          bus := busBidding (driveBid s) busy s }
      else if s.run.insOn = false then completes s1 t
      else if s.run.elected = none then
        completes (offer .phaseSkipped { s1 with run := { s1.run with state := .insulate } }) t
      else
        let u := if s.run.state = .prepare then offerAll (notTestedOffers s) { s1 with run := { s1.run with state := .insulate } }
          else s1
        t = { s1 with
          run := { s.run with
            state := .insulate, sweepStage := .none, insStage := .bidding
            timer := { s.run.timer with mode := .stopped } }
          bus := busBidding (netBid s) busy u
          defects := u.defects, decoder := u.decoder }

/-- R118, R119, R132, R133, R77: HOLD seen released in the insulation check: the elected source opens its HV interval and every
other station awaits the RESULT; a restored step, and a step without result, complete.

R77, R54, R53: HOLD seen released in every other case stops the step timer of an active run and does nothing else; outside
a run it is taken without action; while the station asserts its own output, or the line stands released, it is no event.

The model's choices used here: log entries 3, 5
and 47 (the elapsed time of a stopped step timer). -/
def Obligations.InsulationBarriersEnd : Prop :=
  (∀ (busy : Bool) (s : State), s.lines.holdSeen = true → s.lines.holdOut = false → runLawful s = true →
    linesLawful s = true → s.run.state = .insulate →
    (s.run.insStage = .switched → s.hv.elected = false → exec (.holdSeenReleased busy) s = .next { s with
      lines := { s.lines with holdSeen := false }
      run := { s.run with
        insStage := .awaitingResult, timer := { mode := .running, elapsed := 0, limit := s.params.stepLimit } } }) ∧
    (s.run.insStage = .switched → s.hv.elected = true → ∃ t, exec (.holdSeenReleased busy) s = .next t ∧
      let x : HvSettings := ⟨s.params.volt, profileSegments s, s.params.dwell, s.params.w, s.params.peak, s.params.trip,
        s.params.irMin⟩
      t = { s with
        bus := { s.bus with slot := dropUnbegun servesRequest s.bus.slot }
        lines := { s.lines with holdOut := true, holdSeen := true, liveOut := true, liveSeen := true }
        run := { s.run with
          insStage := .hvInterval, timer := { mode := .suspended false, elapsed := 0, limit := s.params.stepLimit } }
        hv := { s.hv with
          stage := .ramp, settings := some x, setpoint := rampSetpoint x.volt 0 x.segments 0, elapsed := 0, window := []
          peak := none, result := none, hven := true, checkNext := 0, checkHigh := 0, lastSample := 0, dwellStart := 0
          dischargeNext := 0 } }) ∧
    (s.run.insStage = .restored → exec (.holdSeenReleased busy) s = .next { s with
      lines := { s.lines with holdSeen := false }
      run := { s.run with insStage := .bidding, timer := { s.run.timer with mode := .stopped } }
      bus := busBidding (netBid s) busy s }) ∧
    (s.run.insStage = .awaitingResult → ∃ t, exec (.holdSeenReleased busy) s = .next t ∧
      t = { s with
        lines := { s.lines with holdSeen := false }
        run := { s.run with insStage := .bidding, timer := { s.run.timer with mode := .stopped } }
        bus := busBidding (netBid s) busy s, points := t.points
        matrix := { s.matrix with batches := t.matrix.batches } } ∧
      eachPoint s t (fun _ p => requestedTo s .float p))) ∧
  (∀ (busy : Bool) (s : State),
    (s.lines.holdSeen = true → s.lines.holdOut = false → runActive s = false →
      exec (.holdSeenReleased busy) s = .next { s with lines := { s.lines with holdSeen := false } }) ∧
    (s.lines.holdSeen = true → s.lines.holdOut = false →
      ((s.run.state = .sweep ∧ s.run.sweepStage ≠ .driveReleased ∧ s.run.sweepStage ≠ .stepReleased
          ∧ s.run.sweepStage ≠ .endReleased) ∨
        (s.run.state = .insulate ∧ s.run.insStage ≠ .switched ∧ s.run.insStage ≠ .awaitingResult
          ∧ s.run.insStage ≠ .restored)) →
      exec (.holdSeenReleased busy) s = .next { s with
        lines := { s.lines with holdSeen := false }
        run := { s.run with timer := { s.run.timer with mode := .stopped } } }) ∧
    (s.lines.holdSeen = false ∨ s.lines.holdOut = true → exec (.holdSeenReleased busy) s = .next s))


/-! ## The Bus Controller (R43 to R46, R49, R50, R52, R56, R92, R107, R108, R115, R134) -/

/-- R44: at a moment at which it may, a station with a frame pending and none begun begins the frame of lowest arbitration
region, and among equal regions the one of lowest kind code.

The model's choices used here: log entry 10. -/
def Obligations.BeginFrameTakesLowestRegion : Prop :=
  ∀ (s : State), slotLawful s = true →
    ∃ t, exec .beginFrame s = .next t ∧
      if s.bus.integrated = true ∧ s.bus.slot ≠ [] ∧ (∀ e ∈ s.bus.slot, e.begun = false) then
        ∃ x ∈ s.bus.slot,
          (∀ y ∈ s.bus.slot, frameRegion x.frame < frameRegion y.frame ∨
            (frameRegion x.frame = frameRegion y.frame ∧ entryKind x ≤ entryKind y)) ∧
          t = { s with bus := { s.bus with
            slot := s.bus.slot.map fun e => if e = x then { e with begun := true } else e } }
      else t = s

/-- R42, R45, R46, R49, R41: a frame that draws ERR below the eighth own error changes the bus fields alone: the count of own
errors, the level driven in the ERR slot, the frame pending again, and, where the station drove ERR on a length above 48,
the wait for an interframe space; a running bid window test passes over the frame (R56).

R46, R47: the faults that a receiver finds in a frame, by the kind table of 3.11, and the CRC over the frame's bits from the class
to the last payload bit: the register's start, each bit, and that a frame followed by its own CRC leaves the register 0.

The model's choices used here: log entries 8, 9, 25 and 48 (a DATA or END begun before a pause that has ended
again is offered again after ERR). -/
def Obligations.ErredFrameCountsAtItsTransmitter : Prop :=
  (∀ (seen : RawFrame) (s : State), takesFrames s = true → errorsLawful s = true →
    (∀ e ∈ s.bus.slot, e.begun = true → frameRegion e.frame = rawRegion seen → s.bus.errors + 1 < 8) →
    ∃ t, exec (.frameErr seen) s = .next t ∧
      t = { s with bus := { s.bus with
        slot := if (s.bus.slot.any fun e => e.begun && frameRegion e.frame == rawRegion seen) = true then (erred s).bus.slot
          else (notSent s).bus.slot
        errors := if (s.bus.slot.any fun e => e.begun && frameRegion e.frame == rawRegion seen) = true then s.bus.errors + 1
          else s.bus.errors
        errDriven := t.bus.errDriven, vetoDriven := false
        window := match s.bus.window with
          | .off => .off
          | .running _ => .running false
        integrated := !(t.bus.errDriven && decide (48 < seen.len.toNat)) } } ∧
      (t.bus.errDriven = true ↔
        (frameFault seen = true ∨
          ∃ e ∈ s.bus.slot, e.begun = true ∧ frameRegion e.frame = rawRegion seen ∧ rawOf e.frame ≠ seen)) ∧
      (∀ e ∈ t.bus.slot, e.begun = false) ∧
      (s.lines.holdOut = false → ∀ e ∈ s.bus.slot, e.doomed = false → e.recalled = false → e.beside = none →
        waits e.frame t)) ∧
  (∀ (r : RawFrame),
    let bits (w n : Nat) : List Bool := (List.range w).map fun i => n.testBit (w - 1 - i)
    let row := [(1, 0, 0, 0), (2, 1, 4, 4), (3, 1, 5, 5), (4, 1, 2, 2), (5, 1, 15, 15), (6, 1, 2, 2), (7, 1, 3, 3),
      (8, 2, 2, 48), (9, 3, 2, 48), (10, 3, 5, 5), (11, 3, 4, 48), (12, 3, 5, 5), (13, 3, 3, 3), (14, 3, 1, 1),
      (15, 4, 48, 48), (16, 5, 12, 12)].find? fun (q : Nat × Nat × Nat × Nat) => q.1 == r.kind.toNat
    frameFault r = true ↔
      (r.crc ≠ crc16 (bits 3 r.cls.toNat ++ bits 37 r.value.toNat ++ bits 5 r.src.toNat ++ bits 5 r.kind.toNat
          ++ bits 5 r.dst.toNat ++ bits 6 r.len.toNat ++ (r.payload.map fun b => bits 8 b.toNat).flatten) ∨
        48 < r.len.toNat ∨
        match row with
        | none => True
        | some (k, cls, shortest, longest) => cls ≠ r.cls.toNat ∨ r.len.toNat < shortest ∨ longest < r.len.toNat ∨
            (k ∉ [2, 4, 15] ∧ r.value ≠ 0))) ∧
  (∀ (sent : List Bool) (b : Bool), crc16 [] = 0xFFFF ∧
    crc16 (sent ++ [b]) = (crc16 sent <<< 1) ^^^ (if (crc16 sent).getLsbD 15 = b then 0 else 0x1021) ∧
    crc16 (sent ++ (List.range 16).map fun i => (crc16 sent).getLsbD (15 - i)) = 0)

/-- R49, R50, R31, R38, R84: the eighth own frame in a row that draws ERR silences the station: slot emptied, delayed request
discarded, HOLD released, LIVE kept, FLOAT forced, RETURN override removed, HVEN dropped, an active run ended with cause
BUS_FAULT at the station's own address.

R42, R45, R46, R41, R56: beside the count, the level driven in the ERR slot, the wait for an interframe space where the station
drove ERR on a length above 48, and the candidate passed over.

The model's choices used here: log entries 16, 18, 25, 32, 38 (buffer and reference code after a run end in
settling), 45 (the status that a merged NOTICE shows)
and 47 (the elapsed time of a stopped step timer). -/
def Obligations.EighthErrorSilences : Prop :=
  ∀ (seen : RawFrame) (s : State), takesFrames s = true → runLawful s = true → s.bus.errors = 7 →
    (∃ e ∈ s.bus.slot, e.begun = true ∧ frameRegion e.frame = rawRegion seen) →
    ∃ t, exec (.frameErr seen) s = .next t ∧
      let b : Bus := { s.bus with
        silent := true, errors := 8, slot := [], errDriven := t.bus.errDriven, vetoDriven := false
        window := match s.bus.window with
          | .off => .off
          | .running _ => .running false
        integrated := !(t.bus.errDriven && decide (48 < seen.len.toNat)) }
      (t.bus.errDriven = true ↔
        (frameFault seen = true ∨
          ∃ e ∈ s.bus.slot, e.begun = true ∧ frameRegion e.frame = rawRegion seen ∧ rawOf e.frame ≠ seen)) ∧
      allForced s t ∧
      t.lines = { s.lines with holdOut := false } ∧
      t.matrix = { batches := [], override := if s.matrix.override = .float then .float else .none } ∧
      let h := if s.straps.hvsrc = true then { s.hv with stage := .following, setpoint := 0, hven := false } else s.hv
      let s1 : State := { s with hv := h, decoder := { s.decoder with ctx := none } }
      if runActive s = true then runEnds .busFault (.station (addr s)) b s1 t
      else t = { s1 with bus := b, points := t.points, lines := t.lines, matrix := t.matrix }

/-- R42, R43, R49, R52: a clean frame that no block takes: another node's leaves all but the bus fields as they were; the
station's own leaves its slot and clears the error count, and a frame held beside it becomes pending, a NOTICE formed anew.

R45, R49: the station's own frame is one it has begun and that is seen as it sent it; an equal frame of a node that shares its
address, seen while its own is pending, is another node's.

R44, R43: another node's clean frame shows that a begun frame had lost arbitration. It is pending as it has been since: what
was queued in its place since then has replaced it, and what was withdrawn since then is gone.

The model's choices used here: log entries 7, 8 and 9. -/
def Obligations.CleanFrameLeavesItsSlot : Prop :=
  ∀ (f : Frame) (s : State), takesFrames s = true → noFirstFrame s = true →
    ∃ t, exec (.otherCleanFrame f) s = .next t ∧ t = { s with bus := frameSeen f s } ∧
      (isOwn f s = true ↔ ∃ e ∈ s.bus.slot, e.begun = true ∧ e.frame = f) ∧
      (isOwn f s = false → t.bus.errors = s.bus.errors ∧
        (∀ e ∈ t.bus.slot, e.begun = false ∧ ∃ x ∈ s.bus.slot, entryKind x = entryKind e) ∧
        (s.lines.holdOut = false → t.bus.slot = s.bus.slot.filterMap fun e =>
          if e.begun = false then some e
          else
            match e.beside with
            | some b => some ⟨b, false, false, none, false⟩
            | none => if e.doomed = true ∨ e.recalled = true then none else some ⟨e.frame, false, false, none, false⟩)) ∧
      (isOwn f s = true → t.bus.errors = 0 ∧
        ∀ e ∈ t.bus.slot, entryKind e = kindCode f.payload →
          ∃ x ∈ s.bus.slot, ∃ b ∈ x.beside, entryKind x = entryKind e ∧ e.begun = false ∧
            e.frame = (if entryKind e = 13 then { b with payload := noticePayload s } else b))

/-- R92, R115, R56: a clean first frame of a bid window that does not open the next step has its own effects, as if no test
ran, and then ends the phase, unless its taking has ended the run. A RESET that no console sent as a general call is one of these
(R168, R169).

The model's choices used here: log entries 17 and 24. -/
def Obligations.FirstFrameEndsThePhase : Prop :=
  ∀ (c : Instr) (k : Nat) (s t u : State), frameKind c = some k →
    (mayReset c = true → ∃ h, requestOf c = some (h, 22) ∧ (isConsole h.src = false ∨ h.dst ≠ Config.generalCall)) →
    listening s = true → s.bus.window = .running false → (s.run.state = .sweep → k ≠ 2) → (s.run.state = .insulate → k ≠ 4) →
    exec c s = .next t → exec c { s with bus := { s.bus with window := .off } } = .next u → t = phaseEnd u

/-- R107, R108, R56, R92: the bid window expired in the bidding stage of the sweep: the bid is withdrawn, HOLD asserted, UNDRIVEN
offered, every point requested to FLOAT, NOT_TESTED offered where the check will run, and HOLD released once the batch is
complete, at once where no point is in transit.

R134, R82, R56: the bid window expired in the bidding stage of the insulation check completes the run; in any other stage
the test only ends; a window that does not run, or whose candidate is on the bus, does not expire.

The model's choices used here: log entries 3, 5, 10, 45 (the status that a merged NOTICE shows)
and 47 (the elapsed time of a stopped step timer). -/
def Obligations.ExpiredWindowEndsThePhase : Prop :=
  (∀ (s : State), s.run.state = .sweep → s.run.sweepStage = .bidding → s.bus.window = .running false →
    (∀ e ∈ s.bus.slot, e.begun = false) → s.lines.holdOut = false → runLawful s = true → floatHoldLawful s = true →
    batchesLawful s = true → pointsLawful s = true → (∀ b ∈ s.matrix.batches, b.purpose ≠ .endFloat) →
    ∃ t, exec .bidWindowExpired s = .next t ∧
      t.run = { s.run with
        sweepStage := if allAtRest t = true then .endReleased else .ending, timer := timerAtHold s } ∧
      t.lines = { s.lines with holdOut := !allAtRest t, holdSeen := true } ∧
      eachPoint s t (fun _ p => requestedTo s .float p) ∧
      let offers := undrivenOffers s ++ (if s.run.insOn = true ∧ s.run.elected ≠ none then notTestedOffers s else [])
      let u := offerAll offers { s with bus := { s.bus with
        window := .off, slot := dropUnbegun servesRequest (s.bus.slot.filter fun e => entryKind e != 2) } }
      t = { u with
        lines := t.lines, points := t.points, matrix := { s.matrix with batches := t.matrix.batches }, run := t.run }) ∧
  (∀ (s : State), runLawful s = true →
    (s.bus.window = .running false → (∀ e ∈ s.bus.slot, e.begun = false) →
      s.run.state = .insulate → s.run.insStage = .bidding →
      ∃ t, exec .bidWindowExpired s = .next t ∧
        completes { s with bus := { s.bus with
          window := .off, slot := s.bus.slot.filter fun e => entryKind e != 4 } } t) ∧
    (s.bus.window = .running false → (∀ e ∈ s.bus.slot, e.begun = false) →
      s.run.sweepStage ≠ .bidding → s.run.insStage ≠ .bidding →
      exec .bidWindowExpired s = .next { s with bus := { s.bus with window := .off } }) ∧
    (s.bus.window ≠ .running false ∨ s.bus.slot.any TxEntry.begun = true → exec .bidWindowExpired s = .next s))


/-! ## Runs that end (R83 to R86) -/

/-- R86, R83, R84: a console's ABORT, by general call or to this station, ends an active run with cause ABORTED at the current
step, every point requested to FLOAT; outside a run, and from any other route, it is ignored.

R85, R77, R83, R84: a running step timer whose elapsed time has reached the step limit of its last restart expires and ends
the run with cause STEP_TIMEOUT at the current step; a timer that does not run, or has restarted since, does not expire.

The model's choices used here: log entries 4, 16, 32, 38 (buffer and reference code after a run end in
settling), 45 (the status that a merged NOTICE shows)
and 47 (the elapsed time of a stopped step timer). -/
def Obligations.AbortAndTimeoutEndTheRun : Prop :=
  (∀ (r : Route) (s : State), takesFrames s = true → noFirstFrame s = true → runLawful s = true →
    ∃ t, exec (.abort r) s = .next t ∧
      if isConsole r.src = true ∧ (r.dst = 31 ∨ r.dst.toNat = addr s) ∧ runActive s = true then
        runEnds .aborted (currentWhere s) (heard s) s t ∧ t.lines = { s.lines with holdOut := false } ∧
        eachPoint s t (fun _ p => requestedTo s .float p) ∧ t.matrix.override = s.matrix.override
      else t = { s with bus := heard s }) ∧
  (∀ (s : State), runLawful s = true →
    ∃ t, exec .stepTimeout s = .next t ∧
      if s.run.timer.mode = .running ∧ s.run.timer.limit ≤ s.run.timer.elapsed then
        runEnds .stepTimeout (currentWhere s) s.bus s t ∧ t.lines = { s.lines with holdOut := false } ∧
        eachPoint s t (fun _ p => requestedTo s .float p) ∧ t.matrix.override = s.matrix.override
      else t = s)

/-! ## Run frames (R20, R66, R70, R77, R79, R87, R93 to R95, R99, R102, R103, R105, R106, R112, R116, R117, R131, R132) -/

/-- R93, R94, R95, R77, R88: a clean DRIVE taken in the bidding stage opens the step at every station, and its driver requests
the point to DRIVE; at any other stage, and in any other run state, it is disregarded.

The model's choices used here: log entries 5 and 30. -/
def Obligations.DriveOpensTheSweepStep : Prop :=
  ∀ (r : Route) (gp net : Half) (s : State), takesRunFrame r s = true → runLawful s = true →
    ((s.run.state = .sweep ∧ s.run.sweepStage = .bidding) → s.lines.holdOut = false →
      ∃ t, exec (.driveFrame r gp net) s = .next t ∧
        let here := decide (r.src.toNat = addr s ∧ gp.toNat / 256 = addr s)
        t = { s with
          bus := { frameSeen (onRoute r (.drive gp net)) s with
            slot := dropUnbegun servesRequest
              ((frameSeen (onRoute r (.drive gp net)) s).slot.filter fun e => entryKind e != 2) }
          lines := { s.lines with holdOut := true, holdSeen := true }
          run := { s.run with
            step := .point gp.toNat r.src.toNat, driveNet := net.toNat, sweepStage := .settling
            settleWait := some (1 + s.params.s), driveDone := t.run.driveDone, timer := timerAtHold s }
          points := t.points, matrix := { s.matrix with batches := t.matrix.batches } } ∧
        (here = false → t.run.driveDone = false) ∧
        eachPoint s t (fun j p => if here = true ∧ j = gp.toNat % 256 then requestedTo s .drive p else p)) ∧
    (¬ (s.run.state = .sweep ∧ s.run.sweepStage = .bidding) → noFirstFrame s = true →
      exec (.driveFrame r gp net) s = .next { s with bus := frameSeen (onRoute r (.drive gp net)) s })

/-- R102, R103, R20, R66, R70, R71, R77: the step's clean REF without the weak flag at a station awaiting it: the drive net's
entry takes its first leader, every sensed point but the driven one its last reading and, where it is of the drive net,
uncovered and not ISOLATED, its leader; a sensed point of another net bars its entry; HOLD is asserted and released.

R105, R106, R139, R140, R141: in ascending local index, an uncovered point of the drive net that reads MARGINAL makes the offer
HIGH_RESISTANCE, and one that reads ISOLATED at the net's first drive OPEN; a point of another net makes the offer SHORT where
it reads CONNECTED and LEAKAGE where it reads MARGINAL; a LIST_FULL of them queues its NOTICE.

R66, R102, R103: the step's clean weak REF: nothing is classified, no leader is set, and the driver alone offers
DRIVE_FAULT with the frame's reference code.

The model's choices used here: log entries 5, 30, 45 (the status that a merged NOTICE shows)
and 47 (the elapsed time of a stopped step timer). -/
def Obligations.RefIsTaken : Prop :=
  (∀ (r : Route) (gp code : Half) (flags : Byte) (s : State), takesRunFrame r s = true → noFirstFrame s = true →
    runLawful s = true → s.run.state = .sweep → s.run.sweepStage = .awaitingRef →
    s.run.step = .point gp.toNat r.src.toNat → s.lines.holdOut = false → flags.getLsbD 0 = false →
    ∃ t, exec (.refFrame r gp code flags) s = .next t ∧
      let m := s.run.driveNet
      let reads (j : Nat) : Option (Nat × Machine.Class) :=
        if gpOf s j = gp.toNat ∨ sensable s j (pointAt s j) = false then none
        else (s.sampler.buffer.getD j none).map fun c =>
          (resistance c code.toNat, classify s.params.l (effectiveH s.params) (resistance c code.toNat))
      let first := (s.netMap.find? fun e => e.net == m).any fun e => e.leader.all (· == gp.toNat)
      let offers : List Defect := ((List.range s.points.length).map fun j =>
        let n := effNet s j
        match reads j with
        | none => []
        | some (x, c) =>
            if n = m then
              if (pointAt s j).leader ≠ none then []
              else
                match c with
                | .connected => []
                | .marginal => [.highResistance m (gpOf s j) x gp.toNat]
                | .isolated => if first = true then [.opn m (gpOf s j)] else []
            else
              match c with
              | .connected => [.short (min n m) (max n m)]
              | .marginal => [.leakage (min n m) (max n m) x]
              | .isolated => []).flatten
      let seen := frameSeen (onRoute r (.ref gp code flags)) s
      let u := offerAll offers { s with bus := { seen with slot := dropUnbegun servesRequest seen.slot } }
      t = { s with
        bus := u.bus
        lines := { s.lines with holdSeen := true }
        run := { s.run with
          sweepStage := .stepReleased, timer := timerAtHold { s with run := { s.run with
            timer := { s.run.timer with mode := .stopped } } } }
        points := t.points, netMap := t.netMap, defects := u.defects, decoder := u.decoder } ∧
      eachPoint s t (fun j p =>
        match reads j with
        | none => p
        | some (x, c) =>
            { p with
              last := some { cls := c, r := x }
              leader := if effNet s j = m ∧ p.leader = none ∧ c ≠ .isolated then some gp.toNat else p.leader }) ∧
      t.netMap.map NetEntry.net = s.netMap.map NetEntry.net ∧
      ∀ k < s.netMap.length, ∀ e ∈ s.netMap[k]?, ∀ e' ∈ t.netMap[k]?,
        let hit (c : Machine.Class) : Bool := e.net != m &&
          (List.range s.points.length).any fun j => effNet s j == e.net && (reads j).any fun x => x.2 == c
        e'.count = e.count ∧
        e'.leader = (if e.net = m ∧ e.leader = none then some gp.toNat else e.leader) ∧
        e'.state = (if hit .connected || hit .marginal then .barred else e.state) ∧
        e'.reason = (if hit .connected then some .shorted
          else if hit .marginal && e.reason != some .shorted then some .leakage else e.reason)) ∧
  (∀ (r : Route) (gp code : Half) (flags : Byte) (s : State), takesRunFrame r s = true → noFirstFrame s = true →
    runLawful s = true → s.run.state = .sweep → s.run.sweepStage = .awaitingRef →
    s.run.step = .point gp.toNat r.src.toNat → s.lines.holdOut = false → flags.getLsbD 0 = true →
    ∃ t, exec (.refFrame r gp code flags) s = .next t ∧
      let seen := frameSeen (onRoute r (.ref gp code flags)) s
      let s1 : State := { s with bus := { seen with slot := dropUnbegun servesRequest seen.slot } }
      let u := if r.src.toNat = addr s ∧ gp.toNat / 256 = addr s then offer (.driveFault gp.toNat code.toNat) s1 else s1
      t = { s with
        bus := u.bus
        lines := { s.lines with holdSeen := true }
        run := { s.run with
          sweepStage := .stepReleased, timer := timerAtHold { s with run := { s.run with
            timer := { s.run.timer with mode := .stopped } } } }
        defects := u.defects, decoder := u.decoder })

/-- R105, R106, R19, R20: what one reading of a sensed point does to its leader, to the Defect List and to its Net Map entry, in
the order of the tables.

The model's choices used here: log entry 45 (the status that a merged NOTICE shows). -/
def Obligations.ReadingMeansWhatTheTablesSay : Prop :=
  ∀ (d : Drive) (i : Nat) (c : Machine.Class) (x : Nat) (s : State), i < s.points.length →
    (effNet s i = d.net →
      readSameNet d i c x s =
        if (pointAt s i).leader ≠ none then s
        else
          match c with
          | .connected => updatePoint i (fun p => { p with leader := some d.gp }) s
          | .marginal => offer (.highResistance d.net (gpOf s i) x d.gp)
              (updatePoint i (fun p => { p with leader := some d.gp }) s)
          | .isolated => if ∃ e ∈ netEntry s d.net, e.leader = some d.gp then offer (.opn d.net (gpOf s i)) s else s) ∧
    (∀ n, n ≠ d.net →
      let lo := if n < d.net then n else d.net
      let hi := if n < d.net then d.net else n
      let record : Option Defect := match c with
        | .connected => some (.short lo hi)
        | .marginal => some (.leakage lo hi x)
        | .isolated => none
      let s1 := (record.map fun k => offer k s).getD s
      (readOtherNet d n c x s).defects = s1.defects ∧ (readOtherNet d n c x s).points = s.points ∧
      (readOtherNet d n c x s).netMap = s.netMap.map (fun e =>
        if e.net = n ∧ c ≠ .isolated then
          { e with
            state := .barred
            reason := if c = .connected ∨ e.reason = some .shorted then some .shorted else some .leakage }
        else e))


/-- R112, R88, R102, R132: a REF that is not the step's, and a RESULT, a SOURCE_READY or a HALTED that the run state and stage do
not call for, are disregarded.

The model's choices used here: log entry 7. -/
def Obligations.UncalledRunFramesDisregarded : Prop :=
  ∀ (r : Route) (s : State), takesRunFrame r s = true → noFirstFrame s = true →
    (∀ (gp code : Half) (flags : Byte), ¬ (s.run.state = .sweep ∧ s.run.sweepStage = .awaitingRef
        ∧ s.run.step = .point gp.toNat r.src.toNat) →
      exec (.refFrame r gp code flags) s = .next { s with bus := frameSeen (onRoute r (.ref gp code flags)) s }) ∧
    (∀ (net : Half) (verdict : Byte) (v i : Half) (ir ms : Wide),
      ¬ (s.run.state = .insulate ∧ s.run.step = .net net.toNat ∧ s.run.elected = some r.src.toNat
        ∧ (s.run.insStage = .awaitingResult ∨ s.run.insStage = .hvInterval)) →
      exec (.resultFrame r net verdict v i ir ms) s =
        .next { s with bus := frameSeen (onRoute r (.result net verdict v i ir ms)) s }) ∧
    (∀ (run : Half), ¬ (s.run.state = .prepare ∧ run.toNat = s.run.number) →
      exec (.sourceReady r run) s = .next { s with bus := frameSeen (onRoute r (.sourceReady run)) s }) ∧
    (∀ (gp : Half) (watch : Byte), runActive s = false ∨ s.run.state = .insulate →
      exec (.halted r gp watch) s = .next { s with bus := frameSeen (onRoute r (.halted gp watch)) s })

/-- R116, R20, R48, R114: a clean NET taken in the bidding stage that drew a VETO: the step is the net, an entry held for it is
VETOED, no line and no relay moves, and the station bids on; outside the bidding stage a NET is disregarded.

R116, R117, R5, R77, R28: a clean NET taken in the bidding stage without a VETO: HOLD asserted and every point requested to
HV, RETURN or FLOAT; HOLD is released when no point is in transit any more, at once where none is.

The model's choices used here: log entries 5
and 46 (a request for HV to a point held in the settle stage). -/
def Obligations.NetOpensTheInsulationStep : Prop :=
  (∀ (r : Route) (n : Half) (othersVeto : Bool) (s : State), takesRunFrame r s = true → runLawful s = true →
    ((s.run.state = .insulate ∧ s.run.insStage = .bidding) → (othersVeto = true ∨ drivesVeto s n.toNat = true) →
      ∃ t, exec (.netFrame r n othersVeto) s = .next t ∧
        t = { s with
          bus := { frameSeen (onRoute r (.net n)) s with
            window := .running false
            slot := withBid (netBid t) { s with bus := { s.bus with
              slot := (frameSeen (onRoute r (.net n)) s).slot.filter fun e => entryKind e != 4 } } }
          run := { s.run with step := .net n.toNat }
          netMap := s.netMap.map fun e => if e.net = n.toNat then { e with state := .vetoed } else e }) ∧
    (¬ (s.run.state = .insulate ∧ s.run.insStage = .bidding) → noFirstFrame s = true →
      exec (.netFrame r n othersVeto) s = .next { s with bus := frameSeen (onRoute r (.net n)) s })) ∧
  (∀ (r : Route) (n : Half) (s : State), takesRunFrame r s = true → runLawful s = true → floatHoldLawful s = true →
    pointsLawful s = true → batchesLawful s = true → (∀ b ∈ s.matrix.batches, b.purpose ≠ .switching) →
    s.run.state = .insulate → s.run.insStage = .bidding → s.lines.holdOut = false → drivesVeto s n.toNat = false →
    ∃ t, exec (.netFrame r n false) s = .next t ∧
      t = { s with
        bus := { frameSeen (onRoute r (.net n)) s with
          slot := dropUnbegun servesRequest
            ((frameSeen (onRoute r (.net n)) s).slot.filter fun e => entryKind e != 4) }
        lines := { s.lines with holdOut := !allAtRest t, holdSeen := true }
        run := { s.run with
          step := .net n.toNat, insStage := if allAtRest t = true then .switched else .switching
          timer := timerAtHold s }
        points := t.points, matrix := { s.matrix with batches := t.matrix.batches } } ∧
      eachPoint s t (fun j p => requestedTo s
        (if sensable s j p = false then .float else if effNet s j = n.toNat then .hv else .ret) p))


/-- R131, R132, R20, R28: the step's clean RESULT with any verdict but DISCHARGE_FAULT, awaited or the source's own: the entry is
TESTED, the source records its measured verdict and rests, HOLD is asserted and every point requested to FLOAT.

R87, R131, R83, R84: the step's clean RESULT with verdict DISCHARGE_FAULT marks the entry TESTED and ends the run at that net,
after the record of the source's measured verdict.

The model's choices used here: log entries 5, 7, 16, 32, 34 (verdict codes above 4), 36 (the engine at rest), 45
(the status that a merged NOTICE shows)
and 47 (the elapsed time of a stopped step timer). -/
def Obligations.ResultEndsTheInterval : Prop :=
  (∀ (r : Route) (net : Half) (verdict : Byte) (v i : Half) (ir ms : Wide) (s : State), takesRunFrame r s = true →
    noFirstFrame s = true → runLawful s = true → floatHoldLawful s = true → pointsLawful s = true → batchesLawful s = true →
    (∀ b ∈ s.matrix.batches, b.purpose ≠ .restoring) → linesLawful s = true →
    s.run.state = .insulate → s.run.step = .net net.toNat → s.run.elected = some r.src.toNat → verdict.toNat ≠ 4 →
    (s.run.insStage = .awaitingResult ∨
      (s.run.insStage = .hvInterval ∧ isOwn (onRoute r (.result net verdict v i ir ms)) s = true)) →
    ∃ t, exec (.resultFrame r net verdict v i ir ms) s = .next t ∧
      let source := s.run.insStage == .hvInterval
      let record : Option Defect := s.hv.result.bind fun m =>
        match m.verdict with
        | .insulationFail => some (.insulationFail net.toNat m.v m.i m.ir)
        | .breakdown => some (.breakdown net.toNat m.i m.ms)
        | .undervolt => some (.undervolt net.toNat m.v)
        | _ => none
      let s1 : State := { s with bus := frameSeen (onRoute r (.result net verdict v i ir ms)) s }
      let u := if source = true then (record.map fun d => offer d s1).getD s1 else s1
      t = { s with
        bus := { u.bus with slot := dropUnbegun servesRequest u.bus.slot }
        lines := { s.lines with holdOut := !allAtRest t, holdSeen := true }
        run := { s.run with
          insStage := if allAtRest t = true then .restored else .restoring
          timer := if s.lines.holdOut = true then s.run.timer else timerAtHold s }
        hv := if source = true then { s.hv with stage := .quiet, setpoint := 0, hven := false } else s.hv
        netMap := s.netMap.map fun e => if e.net = net.toNat then { e with state := .tested } else e
        defects := u.defects, decoder := u.decoder
        points := t.points, matrix := { s.matrix with batches := t.matrix.batches } } ∧
      eachPoint s t (fun _ p => requestedTo s .float p)) ∧
  (∀ (r : Route) (net : Half) (v i : Half) (ir ms : Wide) (s : State), takesRunFrame r s = true → runLawful s = true →
    s.run.state = .insulate → s.run.step = .net net.toNat → s.run.elected = some r.src.toNat →
    (s.run.insStage = .awaitingResult ∨
      (s.run.insStage = .hvInterval ∧ isOwn (onRoute r (.result net 4 v i ir ms)) s = true)) →
    ∃ t, exec (.resultFrame r net 4 v i ir ms) s = .next t ∧
      let record : Option Defect := s.hv.result.bind fun m =>
        match m.verdict with
        | .insulationFail => some (.insulationFail net.toNat m.v m.i m.ir)
        | .breakdown => some (.breakdown net.toNat m.i m.ms)
        | .undervolt => some (.undervolt net.toNat m.v)
        | _ => none
      let s1 : State := { s with bus := frameSeen (onRoute r (.result net 4 v i ir ms)) s }
      let u := if s.run.insStage = .hvInterval then (record.map fun d => offer d s1).getD s1 else s1
      runEnds .dischargeFault (.net net.toNat) u.bus
        { u with netMap := s.netMap.map fun e => if e.net = net.toNat then { e with state := .tested } else e } t ∧
      t.lines = { s.lines with holdOut := false } ∧ eachPoint s t (fun _ p => requestedTo s .float p))


/-- R79, R78, R99, R77: a SOURCE_READY of this run taken in PREPARE leaves the lowest source elected, and its sender releases
HOLD; a HALTED taken in the sweep suspends a step timer that is not stopped and sets the halt flag of its sender.

The model's choices used here: log entries 7 and 21. -/
def Obligations.SourceReadyElectsAndHaltedSuspends : Prop :=
  ∀ (r : Route) (s : State), takesRunFrame r s = true → noFirstFrame s = true →
    (∀ (run : Half), s.run.state = .prepare → run.toNat = s.run.number →
      exec (.sourceReady r run) s = .next { s with
        bus := frameSeen (onRoute r (.sourceReady run)) s
        lines := { s.lines with
          holdOut := s.lines.holdOut && !isOwn (onRoute r (.sourceReady run)) s }
        run := { s.run with elected := some (match s.run.elected with
          | none => r.src.toNat
          | some a => min a r.src.toNat) } }) ∧
    (∀ (gp : Half) (watch : Byte), s.run.state = .sweep ∨ s.run.state = .prepare →
      exec (.halted r gp watch) s = .next { s with
        bus := frameSeen (onRoute r (.halted gp watch)) s
        run := { s.run with
          timer := { s.run.timer with
            mode := if s.run.timer.mode = .stopped then .stopped else .suspended true }
          halt := s.run.halt || (isOwn (onRoute r (.halted gp watch)) s && s.run.sweepStage == .halted) } })


/-! ## Power-up and the step (R57, R58, and the power-up columns) -/

/-- The step of the block: the command at the front of the queue is taken, on the state with the queue's rest. -/
def Obligations.StepTakesFrontCommand : Prop :=
  ∀ (c : Instr) (rest : List Instr) (s : State), step { s with pending := c :: rest } = exec c { s with pending := rest }

/-- R57, R58 and the power-up columns of R1, R16, R40, R60, R72, R73, R119, R138, R150, R184: power-up sets every field the manual gives
a power-up value, in HELD, and leaves a sound station.

The model's choices used here: log entries 6 (the reset state is power-up with the straps low and the lines released) and 31
(the elapsed time 0 of the stopped step timer, to which R72 gives none). -/
def Obligations.PowerUpSetsEverything : Prop :=
  (∀ (straps : Straps) (hold live estop : Bool) (s : State),
    ∃ t, exec (.powerUp straps hold live estop) s = .next t ∧
      t.pending = s.pending ∧ t.straps = straps ∧
      t.bus = ⟨true, 0, false, [], 0, false, .off, false, false⟩ ∧ t.lines = ⟨false, hold, false, live, estop⟩ ∧
      t.points = List.replicate 256 ⟨0, .signal, .float, none, .rest, false, none, none⟩ ∧
      t.blocks = ⟨List.replicate 8 ⟨none, none, .none⟩, ⟨true, true, true, true⟩, List.replicate 8 .none⟩ ∧
      t.matrix = ⟨[], .none⟩ ∧ t.sampler = ⟨.free, 0, List.replicate 256 none, none⟩ ∧
      t.run.state = .idle ∧ t.run.number = 0 ∧ t.run.sweepOn = true ∧ t.run.insOn = true ∧ t.run.elected = none ∧
      t.run.step = .none ∧ t.run.timer.mode = .stopped ∧ t.run.timer.elapsed = 0 ∧ t.run.halt = false ∧
      t.run.sweepStage = .none ∧ t.run.insStage = .none ∧ t.run.watch1 = none ∧ t.run.watch2 = none ∧
      t.params = ⟨20, 10000, 4, 5, 500, true, true, 500, 1, 1000, 16, false, 20000, 100, false, 60⟩ ∧ t.netMap = [] ∧
      t.hv.elected = false ∧ t.hv.segments = List.replicate 16 ⟨0, 0⟩ ∧ t.hv.userLength = 0 ∧
      t.hv.stage = (if straps.hvsrc = true then .following else .quiet) ∧ t.hv.settings = none ∧ t.hv.setpoint = 0 ∧
      t.hv.elapsed = 0 ∧ t.hv.window = [] ∧ t.hv.peak = none ∧ t.hv.result = none ∧ t.hv.hven = false ∧
      t.defects = ⟨[], 0, .unprinted⟩ ∧ t.print = ⟨false, .none, 0, 60, 0, 0, 0, 0, none⟩ ∧
      t.decoder = ⟨none, 0, 4095, none⟩ ∧ lawful t = true) ∧
  (exec (.powerUp ⟨0, false, false, false⟩ false false false) State.reset = .next State.reset ∧
    lawful State.reset = true)

/-! ## Timers (R77, R162, R181, R182) -/

/-- The millisecond that passes when no command waits (the model's choice, log entry 1): the running timers advance up to
their limits and nothing else changes.

R162: the expiry of the stall timer in a pass, at 10000 ms, ends it where the credit copy is 0, and stops the timer where it is not.

R181, R182: the expiry of the summary timer in an active run, at 1000 ms, restarts it and, where the summary enable is yes, queues the
SUMMARY to address 28.

The model's choices used here: log entries 3, 4, 45 (the status that a merged NOTICE shows)
and 47 (the elapsed time of a stopped step timer). -/
def Obligations.TimersAdvanceAndExpire : Prop :=
  (∀ (s : State), s.pending = [] → step s = .next { s with
    run := { s.run with timer := { s.run.timer with
      elapsed := s.run.timer.elapsed +
        (if s.run.timer.mode = .running ∧ s.run.timer.elapsed < s.run.timer.limit then 1 else 0) } }
    print := { s.print with stall := s.print.stall.map fun e => if e < 10000 then e + 1 else e }
    decoder := { s.decoder with summary := s.decoder.summary.map fun e => if e < 1000 then e + 1 else e } }) ∧
  (∀ (s : State), ∃ t, exec .stallTimerExpiry s = .next t ∧
    let cut (e : TxEntry) : Option TxEntry :=
      if entryKind e ≠ 15 then some e
      else if e.begun = true then some { e with doomed := true, beside := none } else none
    if s.print.pass = false ∨ (s.print.stall.all fun e => decide (e < 10000)) = true then t = s
    else if 0 < s.print.credit then t = { s with print := { s.print with stall := none } }
    else t = raise .printStall { s with
      bus := { s.bus with slot := s.bus.slot.filterMap cut }
      print := { s.print with pass := false, outcome := .stalled, stall := none } }) ∧
  (∀ (s : State), runLawful s = true → ∃ t, exec .summaryTimerExpiry s = .next t ∧
    if runActive s = false ∨ (s.decoder.summary.all fun e => decide (e < 1000)) = true then t = s
    else
      let place : Nat × Nat := match s.run.state, s.run.step with
        | .prepare, _ => (3, 0)
        | .sweep, .point gp _ => (1, gp)
        | .insulate, .net n => (2, n)
        | _, _ => (0, 0)
      let held (orders : List Nat) : Nat := (s.defects.records.filter fun r => orders.contains (classOrder r.what)).length
      let grades := [held [1], held [2], held [3, 4], held [5, 6], held [7, 8, 9]].map fun n =>
        if n = 0 then 0 else if n = 1 then 1 else if n ≤ 5 then 2 else if n ≤ 10 then 3 else if n ≤ 100 then 4 else 5
      let f := ownFrame s 28 (.summary (half s.run.number) (byte (runStateCode s.run.state)) (byte place.1)
        (half place.2) (if 0 < s.defects.lost then 1 else 0) (grades.map byte))
      t = { s with
        bus := { s.bus with slot := if s.params.summary = true then putFrame f s.bus.slot else s.bus.slot }
        decoder := { s.decoder with summary := some 0 } })

/-! ## The printout (R145, R151, R155 to R161) -/

/-- R151, R157, R162: a clean CREDIT of the printer adapter by general call sets the credit copy, and in a pass restarts the stall
timer and bids anew; any other CREDIT changes nothing.

R145, R151, R157 to R161: a station's clean LINE lowers the credit copy and marks the entries of its identity; in a pass it moves
the counters by its value alone and bids anew, and footer line 2 ends the pass with PRINT_DONE.

R149, R156: the text of each record's line, of the LOST line, and of the header and footer lines, column by column.

The model's choices used here: log entries 7, 42 (the page number of footer line 1) and 45
(the status that a merged NOTICE shows). -/
def Obligations.CreditAndLineMoveTheCounters : Prop :=
  (∀ (r : Route) (count : Byte) (s : State), takesFrames s = true → noFirstFrame s = true →
    ∃ t, exec (.credit r count) s = .next t ∧
      if r.src ≠ 30 ∨ r.dst ≠ 31 then t = { s with bus := heard s }
      else
        t = { s with
          bus := { heard s with slot := t.bus.slot }
          print := { s.print with
            credit := count.toNat, stall := if s.print.pass = true then some 0 else s.print.stall } } ∧
        if s.print.pass = true then linesBid (heard s).slot t else t.bus.slot = (heard s).slot) ∧
  (∀ (r : Route) (key : Value) (text : List Byte) (s : State), takesRunFrame r s = true → noFirstFrame s = true →
    ∃ t, exec (.line r key text) s = .next t ∧
      let own := decide (r.src = s.straps.adr)
      let p := s.print
      let o := keyOrder key
      let a := keyA key
      let here := own = false ∨ key.toNat % 32 = addr s
      let ends := p.pass = true ∧ o = 14 ∧ a = 2
      let counted : Printer := { p with
        credit := p.credit - 1, lineOn := if p.lineOn + 1 = p.pageLength then 0 else p.lineOn + 1
        page := if o = 0 ∧ a = 1 then min 9999 (p.page + 1) else p.page
        printed := if 1 ≤ o ∧ o ≤ 13 then min 65535 (p.printed + 1) else p.printed
        footer := if o = 14 ∧ (a = 1 ∨ a = 2) then a else p.footer, stall := some 0 }
      let seen := frameSeen (onRoute r (.line key text)) s
      let u := raise .printDone { s with bus := { seen with slot := seen.slot.filter fun e => entryKind e != 15 } }
      t = { s with
        bus := if ends then u.bus else { seen with slot := t.bus.slot }
        defects := { s.defects with
          records := s.defects.records.map fun x =>
            if here ∧ identOf x.what = keyIdent key then { x with mark := if own = true then .printed else .suppressed } else x
          lostMark := if own = true ∧ here ∧ keyIdent key = ⟨13, addr s, 0⟩ ∧ 0 < s.defects.lost then .printed
            else s.defects.lostMark }
        print := if p.pass = false then { p with credit := p.credit - 1 }
          else if ends then { counted with pass := false, outcome := .done, stall := none } else counted
        decoder := { s.decoder with status := if ends then s.decoder.status ||| 1024 else s.decoder.status } } ∧
      if p.pass = false then t.bus.slot = seen.slot
      else ends ∨ linesBid seen.slot t) ∧
  (∀ (s : State), nextLine s =
    if s.print.lineOn < 2 then .line (printKey 0 (s.print.lineOn + 1) 0 0) (headerText s (s.print.lineOn + 1))
    else
      match (listEntries s).find? fun e => entryMark s e == .unprinted with
      | some e => .line (printKey (entryIdent s e).order (entryIdent s e).a (entryIdent s e).b (addr s)) (entryText s e)
      | none => .line (printKey 14 (s.print.footer + 1) 0 0) (footerText s (s.print.footer + 1))) ∧
  (∀ (s : State), (∀ w, recordSays w) ∧ (∀ r, entryText s (.stored r) = recordText r.what) ∧
    lineSays (entryText s .lost) "LOST" ("STN ".toList ++ Nat.toDigits 10 (addr s)) [] (Nat.toDigits 10 s.defects.lost) ∧
    lineSays (headerText s 1) "HARNESS DEFECTS" ("RUN ".toList ++ Nat.toDigits 10 s.run.number) []
      ("PAGE ".toList ++ Nat.toDigits 10 (min 9999 (s.print.page + 1))) ∧
    lineSays (headerText s 2) "DEFECT" "NET".toList "POINT/NET".toList "VALUE".toList ∧
    lineSays (footerText s 1) "DEFECT LINES" (Nat.toDigits 10 s.print.printed) "PAGES".toList
      (Nat.toDigits 10 s.print.page) ∧
    lineSays (footerText s 2) "END OF REPORT" ("RUN ".toList ++ Nat.toDigits 10 s.run.number) [] [])

/-! ## Delayed answers (R173 to R177) -/

/-- R174, R175, R176: the service of a context while the own HOLD output is released forms the DATA of the next item, or END when
none remains (in place of an END still pending and not begun, so that it carries the number of every DATA sent); it waits
for a DATA still pending, and while HOLD is asserted. The items hold, field by field and truncated to the fields' widths,
what R175 and R176 list.

R174, R176: the own clean DATA advances the cursor, the number sent and the last key sent of the context it was formed for; the
own clean END ends the context.

The model's choices used here: log entries 7, 8 (the service waits for every DATA in the slot, one
that lost and was withdrawn by a pause included), 28 and 43 (a DATA that an END left pending stays pending and counts for no
context). -/
def Obligations.DelayedServiceSendsItems : Prop :=
  (∀ (s : State), s.bus.held = false → s.bus.silent = false →
    ∃ t, exec .delayedRequestService s = .next t ∧
      match s.decoder.ctx with
      | none => t = s
      | some c =>
          let code := byte (delayedCode c.kind)
          if s.lines.holdOut = true ∨ c.cancelled = true ∨ (∃ e ∈ s.bus.slot, entryKind e = 11) then t = s
          else
            match dueItem s c with
            | some (n, bytes, key) =>
                t = withFrame c.requester (.data code c.tag (half n) bytes)
                  { s with decoder := { s.decoder with ctx := some { c with sending := key, formed := true } } } ∧
                waits (ownFrame s c.requester (.data code c.tag (half n) bytes)) t
            | none =>
                if ((slotEntry s 12).any TxEntry.begun) = true then t = s
                else
                  t = withFrame c.requester (.answerEnd code c.tag (half c.sent) 0) s ∧
                  waits (ownFrame s c.requester (.answerEnd code c.tag (half c.sent) 0)) t) ∧
  (∀ (r : Route) (code tag : Byte) (s : State), takesFrames s = true → noFirstFrame s = true →
    (∀ (cursor : Half) (item : List Byte), exec (.dataFrame r code tag cursor item) s = .next (
      let f := onRoute r (.data code tag cursor item)
      let sent (c : Context) : Context :=
        if c.formed = true then
          { c with
            sent := c.sent + 1, cursor := c.cursor + 1
            lastKey := if c.kind = .dumpDefects then c.sending else c.lastKey, formed := false }
        else c
      { s with
        bus := frameSeen f s
        decoder := { s.decoder with
          ctx := if isOwn f s = true then s.decoder.ctx.map sent else s.decoder.ctx } })) ∧
    (∀ (count : Half) (mark : Byte), exec (.endFrame r code tag count mark) s = .next (
      let f := onRoute r (.answerEnd code tag count mark)
      { s with
        bus := frameSeen f s
        decoder := { s.decoder with ctx := if isOwn f s = true then none else s.decoder.ctx } }))) ∧
  (∀ (s : State), (∀ gp, pointItemSays s gp (pointItem s gp)) ∧ ∀ e, defectItemSays s e (defectItem s e))

/-! ## The matrix and the measurement (R24, R28, R29, R60 to R64, R78, R95, R96, R98) -/

/-- R24, R26, R28, R29: the end of points' break times closes each into its target, holds a change into HV while LIVE is seen
asserted, and completes a change into FLOAT; the batches that complete are reported, and nothing else changes (R78, R95, R108,
R117, R132).

R24, R28, R29: the end of points' settle times lets each reach the target closed; a retarget held there starts from it.

R24, R25, R29: a request for one point, stage by stage: the start of a change, held back where it would open an HV relay while LIVE
is seen asserted, and the retarget of a change in transit.

The model's choices used here: log entries 3, 12, 13, 45 (the status that a merged NOTICE shows)
and 46 (a request for HV to a point held in the settle stage). -/
def Obligations.BreakAndSettleTimesEnd : Prop :=
  (∀ (points : List Nat) (s : State), pointsLawful s = true → runLawful s = true →
    (∃ t, exec (.breakTimeEnd points) s = .next t ∧
      eachPoint s t (fun j p =>
        if j ∈ points ∧ p.stage = .brk then
          match p.pending with
          | some .float => { p with switch := .float, pending := none, stage := .rest }
          | some .hv => if s.lines.liveSeen = true then { p with stage := .waitLive }
            else { p with stage := .settle .hv s.params.s }
          | some x => { p with stage := .settle x s.params.s }
          | none => p
        else p) ∧
      batchReports s t) ∧
    (∃ t, exec (.settleTimeEnd points) s = .next t ∧
      eachPoint s t (fun j p =>
        match p.stage with
        | .settle closed _ =>
            if j ∉ points then p
            else if p.pending = some closed then { p with switch := closed, pending := none, stage := .rest }
            else { p with
              switch := closed, stage := if closed = .hv ∧ s.lines.liveSeen = true then .deferred else .brk }
        | _ => p) ∧
      batchReports s t)) ∧
  (∀ (live : Bool) (settle : Nat) (target : Switch) (p : Point), pointLawful p = true →
    let held (t : Switch) : Point := { p with pending := some t }
    requestPoint live settle target p =
      match p.stage with
      | .rest =>
          if p.switch = target then p
          else { held target with stage := if p.switch = .hv ∧ live = true then .deferred else .brk }
      | .deferred =>
          if target = .hv then { p with pending := none, stage := .rest }
          else { held target with stage := if live = true then .deferred else .brk }
      | .brk => held target
      | .waitLive =>
          if target = .hv then p
          else if target = .float then { p with switch := .float, pending := none, stage := .rest }
          else { held target with stage := .settle target settle }
      | .settle closed _ =>
          if p.pending = some target then p
          else if target = closed ∨ (closed = .hv ∧ live = true) then held target
          else { held target with stage := .brk })

/-- R95, R60, R63: the end of the settle wait commands the pass, unless the driver still waits for its batch; a station with no
sensable point completes its pass at the command, by R96 and R98.

R61, R78, R5: the end of a calibration sets the offset, clamped with OFFSET_LIMIT, and in PREPARE requests every sensable point to
SENSE and every other to FLOAT; with no point in transit the source bids SOURCE_READY and any other station releases HOLD.

The model's choices used here: log entries 3, 4 and 45 (the status that a merged NOTICE shows). -/
def Obligations.SettleWaitAndCalibrationEnd : Prop :=
  (∀ (s : State), ∃ t, exec .settleWaitEnd s = .next t ∧
      if s.run.sweepStage ≠ .settling ∨ s.run.settleWait = none then t = s
      else if drivenHere s ≠ none ∧ s.run.driveDone = false then t = { s with run := { s.run with settleWait := none } }
      else if anySensable s = true then
        t = { s with
          run := { s.run with settleWait := none, sweepStage := .sampling }
          sampler := { job := .sampling s.params.n (drivenHere s), offset := s.sampler.offset
                       buffer := List.replicate 256 none, ref := none } }
      else passEnds { job := .free, offset := s.sampler.offset, buffer := List.replicate 256 none, ref := none }
        { s with run := { s.run with settleWait := none } } t) ∧
  (∀ (codes : Vector Code12 8) (s : State), pointsLawful s = true → floatHoldLawful s = true → runLawful s = true →
    (∀ b ∈ s.matrix.batches, b.purpose ≠ .prepare) →
    ∃ t, exec (.calibrationComplete codes) s = .next t ∧
      if s.sampler.job ≠ .calibrating then t = s
      else
        let o := Int.tdiv (codes.toList.map BitVec.toInt).sum 8
        let s1 : State := { s with sampler := { s.sampler with job := .free, offset := max (-64) (min 63 o) } }
        let u := if -64 ≤ o ∧ o ≤ 63 then s1 else raise .offsetLimit s1
        if s.run.state ≠ .prepare then t = u
        else
          let source := s.straps.hvsrc && s.run.insOn
          t = { u with
            bus := if source = true ∧ allAtRest t = true then
              (withFrame 31 (.sourceReady (half s.run.number)) u).bus else u.bus
            points := t.points
            matrix := { s.matrix with batches := t.matrix.batches }
            lines := { s.lines with holdOut := s.lines.holdOut && (source || !allAtRest t) } } ∧
          eachPoint s t (fun j p => requestedTo s (if sensable s j p = true then .sense else .float) p) ∧
          (source = true ∧ allAtRest t = true → standsQueued (ownFrame s 31 (.sourceReady (half s.run.number))) t))

/-- R63, R64, R96, R98: the end of a sampling pass leaves a corrected code for each sensable point but the driven one and, at the
driver, the reference code with its weak flag; the station releases HOLD, unless a halting watch matches at the driver: then
it keeps HOLD, is halted and bids HALTED with the lower-numbered such slot. R178, R179: a matching slot's event is set, with a
NOTICE that shows every unmasked one; with no matching slot the transmit slot stays.

The model's choices used here: log entries 3, 14 and 45 (the status that a merged NOTICE shows). -/
def Obligations.SamplingPassFillsTheBuffer : Prop :=
  ∀ (readings : List Reading) (s : State),
    ∃ t, exec (.samplingPassComplete readings) s = .next t ∧
      match s.sampler.job with
      | .sampling n driven =>
          let code (j : Nat) : Nat :=
            let codes := ((readings.find? fun r => r.index == j).map Reading.codes).getD []
            let average : Int := ((codes.take n).map BitVec.toNat).sum / n
            (max 0 (min 4095 (average - s.sampler.offset))).toNat
          passEnds { s.sampler with
            job := .free, buffer := t.sampler.buffer
            ref := driven.map fun gp => { gp := gp, code := code (gp % 256), weak := decide (code (gp % 256) < 2048) } } s t ∧
          t.sampler.buffer.length = s.points.length ∧
          (∀ j < s.points.length, t.sampler.buffer[j]? =
            some (if sensable s j (pointAt s j) = true ∧ driven ≠ some (gpOf s j) then some (code j) else none))
      | _ => t = s


/-! ## The Insulation Engine (R120, R121, R123 to R130) -/

/-- R123, R124: each millisecond of the ramp judges its sample and then moves the setpoint; the ramp ends with its last segment.

R123, R121: the setpoint within a segment moves by the floor of its share of the way from the target before, is the target
at the segment's end, and stays at the last target after the list.

The model's choices used here: log entries 3 and 22. -/
def Obligations.RampMovesTheSetpoint : Prop :=
  (∀ (x : HvSettings) (s : State), s.hv.stage = .ramp → s.hv.settings = some x →
    let total := (x.segments.map Segment.ms).sum
    (∀ (sample : Half) (monitor : Code12), exec (.rampMillisecond sample monitor) s = .next (
      if s.hv.elapsed < total then
        { s with hv := afterSample x sample monitor s.hv fun h =>
          { h with setpoint := rampSetpoint x.volt 0 x.segments (s.hv.elapsed + 1) } }
      else s)) ∧
    (exec .rampEnd s = .next (if total ≤ s.hv.elapsed then { s with hv := { s.hv with stage := .check } } else s))) ∧
  (∀ (volt t : Nat) (pre post : List Segment) (g : Segment),
    let before := (pre.map Segment.ms).sum
    let p := ((pre.getLast?).map fun q => volt * q.level / 100).getD 0
    let target := volt * g.level / 100
    (1 ≤ t → t < g.ms → rampSetpoint volt 0 (pre ++ g :: post) (before + t) =
      if p ≤ target then p + (target - p) * t / g.ms else p - (p - target) * t / g.ms) ∧
    ((∀ q ∈ post.head?, 0 < q.ms) → rampSetpoint volt 0 (pre ++ g :: post) (before + g.ms) = target) ∧
    (rampSetpoint volt 0 (pre ++ [g]) (before + g.ms + t) = target))

/-- R124, R125: a check reading. The reading t = 0 falls in the ramp's last millisecond, whose sample is judged; a later reading
judges its own sample first. At floor(9 × T / 10) the dwell begins.

R125, R127: after the reading t = 50 below the threshold the engine drops HVEN with UNDERVOLT, the highest voltage read and the
last sample.

The model's choices used here: log entry 22. -/
def Obligations.CheckJudgesTheOutput : Prop :=
  ∀ (x : HvSettings) (s : State), s.hv.stage = .check → s.hv.settings = some x →
    let target := ((x.segments.getLast?).map fun q => x.volt * q.level / 100).getD 0
    (∀ (sample : Half) (monitor : Code12), exec (.checkReading sample monitor) s = .next (
      let read (h : Hv) : Hv :=
        { h with
          checkHigh := max h.checkHigh (volts monitor), checkNext := h.checkNext + 1
          stage := if 9 * target / 10 ≤ volts monitor then .dwell else .check
          dwellStart := if 9 * target / 10 ≤ volts monitor then h.elapsed else h.dwellStart }
      if 50 < s.hv.checkNext then s
      else if s.hv.checkNext = 0 then { s with hv := read s.hv }
      else { s with hv := afterSample x sample monitor s.hv read })) ∧
    (exec .undervolt s = .next (
      if 50 < s.hv.checkNext then
        { s with hv := dropped ⟨.undervolt, s.hv.checkHigh, s.hv.lastSample, irOf s.hv.checkHigh s.hv.lastSample,
          s.hv.elapsed⟩ s.hv }
      else s))

/-- R124, R126: a millisecond of the dwell judges its sample, appends it to the window of the last W samples and, in PEAK mode
with W samples held, keeps the greatest average.

R126, R127: the end of the dwell drops HVEN with V, I and IR and the verdict PASS or INSULATION_FAIL.

The model's choices used here: log entry 22. -/
def Obligations.DwellMeasuresTheCurrent : Prop :=
  ∀ (x : HvSettings) (s : State), s.hv.stage = .dwell → s.hv.settings = some x →
    (∀ (sample : Half) (monitor : Code12), exec (.dwellMillisecond sample monitor) s = .next (
      let all := s.hv.window ++ [sample.toNat]
      let w := all.drop (all.length - x.w)
      let average := w.sum / w.length
      if s.hv.dwellStart + x.dwell ≤ s.hv.elapsed then s
      else { s with hv := afterSample x sample monitor s.hv fun h =>
        { h with
          window := w
          peak := if x.peak = true ∧ w.length = x.w then some (max (h.peak.getD 0) average) else h.peak } })) ∧
    (∀ (monitor : Code12), exec (.dwellEnd monitor) s = .next (
      let average := s.hv.window.sum / s.hv.window.length
      let i := if x.peak = true then s.hv.peak.getD average else average
      let ir := irOf (volts monitor) i
      if s.hv.dwellStart + x.dwell ≤ s.hv.elapsed then
        { s with hv := dropped ⟨if x.irMin ≤ ir then .pass else .insulationFail, volts monitor, i, ir, s.hv.elapsed⟩ s.hv }
      else s))


/-- R128: a discharge reading of 76 or less releases LIVE and queues the RESULT of the measured result; after a reading above 76
at t = 2000 the RESULT carries DISCHARGE_FAULT, the measured result is kept, and the engine follows with LIVE asserted.

R129: in the following stage LIVE is asserted while the readings exceed 76 (by a station with neither a strap fault nor SILENT;
the model's choice, log entry 18), and the first reading of 76 or less releases it.

The model's choices used here: log entries 3 (a reading that changes nothing), 5 (LIVE asserted by the station is seen asserted
in the same step, and suspends a running step timer), 18, 22, 39 (the step timer under a discharge fault) and 41 (the elapsed
time stands still after the drop of HVEN). -/
def Obligations.DischargeReleasesLive : Prop :=
  (∀ (s : State) (n : Nat) (m : HvResult), s.hv.stage = .discharge → s.run.step = .net n → s.hv.result = some m →
    s.bus.held = false → s.bus.silent = false →
    let bid (v : Nat) : Payload := (.result (half n) (byte v) (half m.v) (half m.i) (wide m.ir) (wide m.ms))
    (∀ (monitor : Code12), ∃ t, exec (.dischargeReading monitor) s = .next t ∧
      if 2000 < s.hv.dischargeNext then t = s
      else if 76 < monitor.toNat then t = { s with hv := { s.hv with dischargeNext := s.hv.dischargeNext + 1 } }
      else
        t = withFrame 31 (bid (verdictCode m.verdict)) { s with
          lines := { s.lines with liveOut := false }, hv := { s.hv with stage := .reporting } } ∧
        standsQueued (ownFrame s 31 (bid (verdictCode m.verdict))) t) ∧
    (∃ t, exec .dischargeFault s = .next t ∧
      if s.hv.dischargeNext ≤ 2000 then t = s
      else
        t = withFrame 31 (bid 4) { s with hv := { s.hv with stage := .following } } ∧
        standsQueued (ownFrame s 31 (bid 4)) t)) ∧
  (∀ (monitor : Code12) (s : State), s.hv.stage = .following → s.straps.hvsrc = true →
    (monitor.toNat ≤ 76 → exec (.followingReading monitor) s = .next { s with
      hv := { s.hv with stage := .quiet }, lines := { s.lines with liveOut := false } }) ∧
    (76 < monitor.toNat → linesLawful s = true → ∃ t, exec (.followingReading monitor) s = .next t ∧
      if 24 ≤ addr s ∨ s.bus.silent = true then t = s
      else t = { s with
        lines := { s.lines with liveOut := true, liveSeen := true }
        run := { s.run with timer := { s.run.timer with
          mode := if s.lines.liveSeen = false ∧ runActive s = true ∧ s.run.timer.mode = .running then .suspended false
            else s.run.timer.mode } } }))

/-! ## The Defect List (R136, R137, R141 to R143) -/

/-- R141, R142, R143: what an offer makes of the Defect List, by the first case that applies; the list stays in key order. -/
def Obligations.OfferTakesFirstOutcome : Prop :=
  ∀ (d : Defect) (s : State), defectsLawful s.defects = true →
    let held (k : Ident) : Prop := ∃ r ∈ s.defects.records, identOf r.what = k
    let t := offer d s
    defectsLawful t.defects = true ∧
    (held (identOf d) → t = s) ∧
    (∀ lo hi x, d = .leakage lo hi x → held ⟨3, lo, hi⟩ → t = s) ∧
    (∀ lo hi, d = .short lo hi → ¬ held (identOf d) → held ⟨4, lo, hi⟩ →
      t = { s with defects := { s.defects with records := t.defects.records } } ∧
      t.defects.records.length = s.defects.records.length ∧
      ∀ r, r ∈ t.defects.records ↔
        (r = ⟨d, .unprinted⟩ ∨ (r ∈ s.defects.records ∧ identOf r.what ≠ ⟨4, lo, hi⟩))) ∧
    (¬ held (identOf d) → (∀ lo hi x, d = .leakage lo hi x → ¬ held ⟨3, lo, hi⟩) →
      (∀ lo hi, d = .short lo hi → ¬ held ⟨4, lo, hi⟩) →
      if s.defects.records.length < 512 then
        t = { s with defects := { s.defects with records := t.defects.records } } ∧
        ∀ r, r ∈ t.defects.records ↔ (r = ⟨d, .unprinted⟩ ∨ r ∈ s.defects.records)
      else t = raise .listFull { s with defects := { s.defects with lost := min 65535 (s.defects.lost + 1) } })

/-! ## Arithmetic (R67, R69, R121) -/

/-- R67, R69: the resistance of a code against a reference, and its class against two limits; OVER is ISOLATED against every
effective isolate limit. -/
def Obligations.ResistanceAndItsClass : Prop :=
  (∀ (c ref : Nat), resistance c ref =
    if c = 0 then 65535
    else if ref ≤ c then 0
    else if 10000 * (ref - c) / c ≤ 65534 then 10000 * (ref - c) / c else 65535) ∧
  (∀ (c ref : Nat), resistance c ref ≤ 65535) ∧
  (∀ (l h r : Nat), l < h →
    ((classify l h r = .connected ↔ r ≤ l) ∧ (classify l h r = .isolated ↔ h ≤ r) ∧
      (classify l h r = .marginal ↔ (l < r ∧ r < h)))) ∧
  (∀ (p : Params), paramsLawful p = true →
    p.l < effectiveH p ∧ effectiveH p ≤ 65535 ∧ classify p.l (effectiveH p) 65535 = .isolated)

/-- R121: the segment list of the profile in force, the target of a segment and the final target. -/
def Obligations.ProfileGivesItsSegments : Prop :=
  (∀ (s : State),
    (s.params.profile = 0 → profileSegments s = [⟨100, 0⟩]) ∧
    (s.params.profile = 1 → profileSegments s = [⟨100, 100⟩]) ∧
    (s.params.profile = 2 → profileSegments s = [⟨100, 1000⟩]) ∧
    (s.params.profile = 3 → profileSegments s = [⟨50, 200⟩, ⟨50, 500⟩, ⟨100, 200⟩]) ∧
    (s.params.profile = 4 → s.hv.userLength = 0 → profileSegments s = [⟨100, 100⟩]) ∧
    (s.params.profile = 4 → 0 < s.hv.userLength → profileSegments s = s.hv.segments.take s.hv.userLength)) ∧
  (∀ (x : HvSettings) (g : Segment), segmentTarget x.volt g = x.volt * g.level / 100 ∧
    (x.segments.getLast? = some g → finalTarget x = segmentTarget x.volt g))

/-! ## The whole station (R2, R17, R21, R22, R28, R29, R32, R43, R49, R53 to R55, R57, R72 to R74, R119, R120, R138, R150) -/

/-- Every step of every state answers a next state and takes the front command off the queue; the straps are read at POWER_UP
alone (R57). -/
def Obligations.EveryStepAnswersNextState : Prop :=
  ∀ (s : State), ∃ t, step s = .next t ∧ t.pending = s.pending.tail ∧
    (t.straps = s.straps ∨ ∃ straps hold live estop, s.pending.head? = some (.powerUp straps hold live estop) ∧
      t.straps = straps)

/-- R1, R24, R28, R32, R40: every step keeps the laws of the point records, of the outstanding batches and of the hold at FLOAT,
together with those of the run.

The model's choices used here: log entry 13. -/
def Obligations.MatrixLawsKept : Prop :=
  ∀ (s t : State), pointsLawful s = true → batchesLawful s = true → floatHoldLawful s = true → runLawful s = true →
    step s = .next t →
    pointsLawful t = true ∧ batchesLawful t = true ∧ floatHoldLawful t = true ∧ runLawful t = true

/-- R43, R44, R49, R50, R58: every step keeps the laws of the transmit slot and of the consecutive-error count.

R178, R184, R58: every step keeps every event masked throughout HELD. -/
def Obligations.BusLawsKept : Prop :=
  (∀ (s t : State), slotLawful s = true → errorsLawful s = true → step s = .next t →
    slotLawful t = true ∧ errorsLawful t = true) ∧
  (∀ (s t : State), maskLawful s = true → step s = .next t → maskLawful t = true)

/-- R53, R54, R55, R72, R73, R77, R119, R120, R126: every step keeps the laws of the run, of the lines, of the run parameters and of
the Insulation Engine; the DAC code never exceeds 3839. -/
def Obligations.RunAndEngineLawsKept : Prop :=
  ∀ (s t : State), runLawful s = true → linesLawful s = true → paramsLawful s.params = true → hvLawful s = true →
    step s = .next t →
    runLawful t = true ∧ linesLawful t = true ∧ paramsLawful t.params = true ∧ hvLawful t = true ∧
      dacCode t.hv.setpoint ≤ 3839

/-- R17, R137, R138, R150, R10, R16: every step keeps the Net Map in strict order and, at a station with its 256 points, within
256 entries, the Defect List in strict order and within 512 records, the Print Engine's counters in their ranges, and a
record and a manual kind for each of the eight blocks. -/
def Obligations.ListsStayInOrder : Prop :=
  ∀ (s t : State), step s = .next t →
    (netMapLawful s = true → netMapLawful t = true) ∧
    (pointsLawful s = true → s.netMap.length ≤ 256 → t.netMap.length ≤ 256) ∧
    (blocksLawful s = true → blocksLawful t = true) ∧ (defectsLawful s.defects = true → defectsLawful t.defects = true) ∧
    (paramsLawful s.params = true → printLawful s.print = true → printLawful t.print = true)

/-- R29: while LIVE is seen asserted, no command opens or closes an HV relay, but for the forced FLOAT of ESTOP, MATRIX OVERRIDE
FLOAT, a reset, SILENT and power-up.

The model's choices used here: log entry 13. -/
def Obligations.LiveHoldsTheHvRelays : Prop :=
  ∀ (c : Instr) (s t : State), pointsLawful s = true → slotLawful s = true → s.lines.liveSeen = true →
    exec c s = .next t →
    c ≠ .estopAsserted → (∀ h, c ≠ .matrixOverrideFloat h) → mayReset c = false → isPowerUp c = false →
    c ≠ .liveSeenReleased → t.bus.silent = s.bus.silent →
    ∀ j < s.points.length, (relayClosed (pointAt t j) = .hv ↔ relayClosed (pointAt s j) = .hv)

/-- R2, R17, R72, R74: within one run nothing writes a point's net or role, the blocks, the nets and counts of the Net Map, the run
number or the phase settings. -/
def Obligations.RunKeepsItsNetlist : Prop :=
  ∀ (c : Instr) (s t : State), runActive s = true → exec c s = .next t → runActive t = true →
    t.points.map (fun p => (p.net, p.role)) = s.points.map (fun p => (p.net, p.role)) ∧ t.blocks = s.blocks ∧
    t.netMap.map (fun e => (e.net, e.count)) = s.netMap.map (fun e => (e.net, e.count)) ∧
    t.run.number = s.run.number ∧ t.run.sweepOn = s.run.sweepOn ∧ t.run.insOn = s.run.insOn
end

