-- ==== Sys2Proof/Laws/State.lean ====
section
/-! SUPPORT. What each update of the state leaves in each field: one lemma per update, a conjunction of one equation per
field, which `simp` takes apart into one rewrite rule each. -/

namespace Sys2Proof.Machine

/-- The fields after `setSlot`. -/
@[simp] theorem setSlot_fields (slot : List TxEntry) (s : State) :
    (setSlot slot s).pending = s.pending ∧ (setSlot slot s).straps = s.straps ∧
    (setSlot slot s).bus.held = s.bus.held ∧ (setSlot slot s).bus.resetCount = s.bus.resetCount ∧
    (setSlot slot s).bus.integrated = s.bus.integrated ∧ (setSlot slot s).bus.slot = slot ∧
    (setSlot slot s).bus.errors = s.bus.errors ∧ (setSlot slot s).bus.silent = s.bus.silent ∧
    (setSlot slot s).bus.window = s.bus.window ∧ (setSlot slot s).bus.errDriven = s.bus.errDriven ∧
    (setSlot slot s).bus.vetoDriven = s.bus.vetoDriven ∧ (setSlot slot s).lines = s.lines ∧
    (setSlot slot s).points = s.points ∧ (setSlot slot s).blocks = s.blocks ∧ (setSlot slot s).matrix = s.matrix ∧
    (setSlot slot s).sampler = s.sampler ∧ (setSlot slot s).run = s.run ∧ (setSlot slot s).params = s.params ∧
    (setSlot slot s).netMap = s.netMap ∧ (setSlot slot s).hv = s.hv ∧ (setSlot slot s).defects = s.defects ∧
    (setSlot slot s).print = s.print ∧ (setSlot slot s).decoder = s.decoder :=
  ⟨rfl, rfl, rfl, rfl, rfl, rfl, rfl, rfl, rfl, rfl, rfl, rfl, rfl, rfl, rfl, rfl, rfl, rfl, rfl, rfl, rfl, rfl,
   rfl⟩

/-- The fields after `setWindow`. -/
@[simp] theorem setWindow_fields (w : Window) (s : State) :
    (setWindow w s).pending = s.pending ∧ (setWindow w s).straps = s.straps ∧ (setWindow w s).bus.held = s.bus.held ∧
    (setWindow w s).bus.resetCount = s.bus.resetCount ∧ (setWindow w s).bus.integrated = s.bus.integrated ∧
    (setWindow w s).bus.slot = s.bus.slot ∧ (setWindow w s).bus.errors = s.bus.errors ∧
    (setWindow w s).bus.silent = s.bus.silent ∧ (setWindow w s).bus.window = w ∧
    (setWindow w s).bus.errDriven = s.bus.errDriven ∧ (setWindow w s).bus.vetoDriven = s.bus.vetoDriven ∧
    (setWindow w s).lines = s.lines ∧ (setWindow w s).points = s.points ∧ (setWindow w s).blocks = s.blocks ∧
    (setWindow w s).matrix = s.matrix ∧ (setWindow w s).sampler = s.sampler ∧ (setWindow w s).run = s.run ∧
    (setWindow w s).params = s.params ∧ (setWindow w s).netMap = s.netMap ∧ (setWindow w s).hv = s.hv ∧
    (setWindow w s).defects = s.defects ∧ (setWindow w s).print = s.print ∧ (setWindow w s).decoder = s.decoder :=
  ⟨rfl, rfl, rfl, rfl, rfl, rfl, rfl, rfl, rfl, rfl, rfl, rfl, rfl, rfl, rfl, rfl, rfl, rfl, rfl, rfl, rfl, rfl,
   rfl⟩

/-- The fields after `setResetCount`. -/
@[simp] theorem setResetCount_fields (n : Nat) (s : State) :
    (setResetCount n s).pending = s.pending ∧ (setResetCount n s).straps = s.straps ∧
    (setResetCount n s).bus.held = s.bus.held ∧ (setResetCount n s).bus.resetCount = n ∧
    (setResetCount n s).bus.integrated = s.bus.integrated ∧ (setResetCount n s).bus.slot = s.bus.slot ∧
    (setResetCount n s).bus.errors = s.bus.errors ∧ (setResetCount n s).bus.silent = s.bus.silent ∧
    (setResetCount n s).bus.window = s.bus.window ∧ (setResetCount n s).bus.errDriven = s.bus.errDriven ∧
    (setResetCount n s).bus.vetoDriven = s.bus.vetoDriven ∧ (setResetCount n s).lines = s.lines ∧
    (setResetCount n s).points = s.points ∧ (setResetCount n s).blocks = s.blocks ∧
    (setResetCount n s).matrix = s.matrix ∧ (setResetCount n s).sampler = s.sampler ∧
    (setResetCount n s).run = s.run ∧ (setResetCount n s).params = s.params ∧ (setResetCount n s).netMap = s.netMap ∧
    (setResetCount n s).hv = s.hv ∧ (setResetCount n s).defects = s.defects ∧ (setResetCount n s).print = s.print ∧
    (setResetCount n s).decoder = s.decoder :=
  ⟨rfl, rfl, rfl, rfl, rfl, rfl, rfl, rfl, rfl, rfl, rfl, rfl, rfl, rfl, rfl, rfl, rfl, rfl, rfl, rfl, rfl, rfl,
   rfl⟩

/-- The fields after `setTimer`. -/
@[simp] theorem setTimer_fields (t : StepTimer) (s : State) :
    (setTimer t s).pending = s.pending ∧ (setTimer t s).straps = s.straps ∧ (setTimer t s).bus = s.bus ∧
    (setTimer t s).lines = s.lines ∧ (setTimer t s).points = s.points ∧ (setTimer t s).blocks = s.blocks ∧
    (setTimer t s).matrix = s.matrix ∧ (setTimer t s).sampler = s.sampler ∧ (setTimer t s).run.state = s.run.state ∧
    (setTimer t s).run.number = s.run.number ∧ (setTimer t s).run.sweepOn = s.run.sweepOn ∧
    (setTimer t s).run.insOn = s.run.insOn ∧ (setTimer t s).run.elected = s.run.elected ∧
    (setTimer t s).run.step = s.run.step ∧ (setTimer t s).run.timer = t ∧ (setTimer t s).run.halt = s.run.halt ∧
    (setTimer t s).run.sweepStage = s.run.sweepStage ∧ (setTimer t s).run.driveNet = s.run.driveNet ∧
    (setTimer t s).run.settleWait = s.run.settleWait ∧ (setTimer t s).run.driveDone = s.run.driveDone ∧
    (setTimer t s).run.insStage = s.run.insStage ∧ (setTimer t s).run.watch1 = s.run.watch1 ∧
    (setTimer t s).run.watch2 = s.run.watch2 ∧ (setTimer t s).params = s.params ∧ (setTimer t s).netMap = s.netMap ∧
    (setTimer t s).hv = s.hv ∧ (setTimer t s).defects = s.defects ∧ (setTimer t s).print = s.print ∧
    (setTimer t s).decoder = s.decoder :=
  ⟨rfl, rfl, rfl, rfl, rfl, rfl, rfl, rfl, rfl, rfl, rfl, rfl, rfl, rfl, rfl, rfl, rfl, rfl, rfl, rfl, rfl, rfl,
   rfl, rfl, rfl, rfl, rfl, rfl, rfl⟩

/-- The fields after `setSweepStage`. -/
@[simp] theorem setSweepStage_fields (g : SweepStage) (s : State) :
    (setSweepStage g s).pending = s.pending ∧ (setSweepStage g s).straps = s.straps ∧
    (setSweepStage g s).bus = s.bus ∧ (setSweepStage g s).lines = s.lines ∧ (setSweepStage g s).points = s.points ∧
    (setSweepStage g s).blocks = s.blocks ∧ (setSweepStage g s).matrix = s.matrix ∧
    (setSweepStage g s).sampler = s.sampler ∧ (setSweepStage g s).run.state = s.run.state ∧
    (setSweepStage g s).run.number = s.run.number ∧ (setSweepStage g s).run.sweepOn = s.run.sweepOn ∧
    (setSweepStage g s).run.insOn = s.run.insOn ∧ (setSweepStage g s).run.elected = s.run.elected ∧
    (setSweepStage g s).run.step = s.run.step ∧ (setSweepStage g s).run.timer = s.run.timer ∧
    (setSweepStage g s).run.halt = s.run.halt ∧ (setSweepStage g s).run.sweepStage = g ∧
    (setSweepStage g s).run.driveNet = s.run.driveNet ∧ (setSweepStage g s).run.settleWait = s.run.settleWait ∧
    (setSweepStage g s).run.driveDone = s.run.driveDone ∧ (setSweepStage g s).run.insStage = s.run.insStage ∧
    (setSweepStage g s).run.watch1 = s.run.watch1 ∧ (setSweepStage g s).run.watch2 = s.run.watch2 ∧
    (setSweepStage g s).params = s.params ∧ (setSweepStage g s).netMap = s.netMap ∧ (setSweepStage g s).hv = s.hv ∧
    (setSweepStage g s).defects = s.defects ∧ (setSweepStage g s).print = s.print ∧
    (setSweepStage g s).decoder = s.decoder :=
  ⟨rfl, rfl, rfl, rfl, rfl, rfl, rfl, rfl, rfl, rfl, rfl, rfl, rfl, rfl, rfl, rfl, rfl, rfl, rfl, rfl, rfl, rfl,
   rfl, rfl, rfl, rfl, rfl, rfl, rfl⟩

/-- The fields after `setInsStage`. -/
@[simp] theorem setInsStage_fields (g : InsStage) (s : State) :
    (setInsStage g s).pending = s.pending ∧ (setInsStage g s).straps = s.straps ∧ (setInsStage g s).bus = s.bus ∧
    (setInsStage g s).lines = s.lines ∧ (setInsStage g s).points = s.points ∧ (setInsStage g s).blocks = s.blocks ∧
    (setInsStage g s).matrix = s.matrix ∧ (setInsStage g s).sampler = s.sampler ∧
    (setInsStage g s).run.state = s.run.state ∧ (setInsStage g s).run.number = s.run.number ∧
    (setInsStage g s).run.sweepOn = s.run.sweepOn ∧ (setInsStage g s).run.insOn = s.run.insOn ∧
    (setInsStage g s).run.elected = s.run.elected ∧ (setInsStage g s).run.step = s.run.step ∧
    (setInsStage g s).run.timer = s.run.timer ∧ (setInsStage g s).run.halt = s.run.halt ∧
    (setInsStage g s).run.sweepStage = s.run.sweepStage ∧ (setInsStage g s).run.driveNet = s.run.driveNet ∧
    (setInsStage g s).run.settleWait = s.run.settleWait ∧ (setInsStage g s).run.driveDone = s.run.driveDone ∧
    (setInsStage g s).run.insStage = g ∧ (setInsStage g s).run.watch1 = s.run.watch1 ∧
    (setInsStage g s).run.watch2 = s.run.watch2 ∧ (setInsStage g s).params = s.params ∧
    (setInsStage g s).netMap = s.netMap ∧ (setInsStage g s).hv = s.hv ∧ (setInsStage g s).defects = s.defects ∧
    (setInsStage g s).print = s.print ∧ (setInsStage g s).decoder = s.decoder :=
  ⟨rfl, rfl, rfl, rfl, rfl, rfl, rfl, rfl, rfl, rfl, rfl, rfl, rfl, rfl, rfl, rfl, rfl, rfl, rfl, rfl, rfl, rfl,
   rfl, rfl, rfl, rfl, rfl, rfl, rfl⟩

/-- The fields after `setStatus`. -/
@[simp] theorem setStatus_fields (x : BitVec 12) (s : State) :
    (setStatus x s).pending = s.pending ∧ (setStatus x s).straps = s.straps ∧ (setStatus x s).bus = s.bus ∧
    (setStatus x s).lines = s.lines ∧ (setStatus x s).points = s.points ∧ (setStatus x s).blocks = s.blocks ∧
    (setStatus x s).matrix = s.matrix ∧ (setStatus x s).sampler = s.sampler ∧ (setStatus x s).run = s.run ∧
    (setStatus x s).params = s.params ∧ (setStatus x s).netMap = s.netMap ∧ (setStatus x s).hv = s.hv ∧
    (setStatus x s).defects = s.defects ∧ (setStatus x s).print = s.print ∧
    (setStatus x s).decoder.ctx = s.decoder.ctx ∧ (setStatus x s).decoder.status = x ∧
    (setStatus x s).decoder.mask = s.decoder.mask ∧ (setStatus x s).decoder.summary = s.decoder.summary :=
  ⟨rfl, rfl, rfl, rfl, rfl, rfl, rfl, rfl, rfl, rfl, rfl, rfl, rfl, rfl, rfl, rfl, rfl, rfl⟩

/-- The fields after `setContext`. -/
@[simp] theorem setContext_fields (c : Option Context) (s : State) :
    (setContext c s).pending = s.pending ∧ (setContext c s).straps = s.straps ∧ (setContext c s).bus = s.bus ∧
    (setContext c s).lines = s.lines ∧ (setContext c s).points = s.points ∧ (setContext c s).blocks = s.blocks ∧
    (setContext c s).matrix = s.matrix ∧ (setContext c s).sampler = s.sampler ∧ (setContext c s).run = s.run ∧
    (setContext c s).params = s.params ∧ (setContext c s).netMap = s.netMap ∧ (setContext c s).hv = s.hv ∧
    (setContext c s).defects = s.defects ∧ (setContext c s).print = s.print ∧ (setContext c s).decoder.ctx = c ∧
    (setContext c s).decoder.status = s.decoder.status ∧ (setContext c s).decoder.mask = s.decoder.mask ∧
    (setContext c s).decoder.summary = s.decoder.summary :=
  ⟨rfl, rfl, rfl, rfl, rfl, rfl, rfl, rfl, rfl, rfl, rfl, rfl, rfl, rfl, rfl, rfl, rfl, rfl⟩

/-- The fields after `setBatches`. -/
@[simp] theorem setBatches_fields (b : List Batch) (s : State) :
    (setBatches b s).pending = s.pending ∧ (setBatches b s).straps = s.straps ∧ (setBatches b s).bus = s.bus ∧
    (setBatches b s).lines = s.lines ∧ (setBatches b s).points = s.points ∧ (setBatches b s).blocks = s.blocks ∧
    (setBatches b s).matrix.batches = b ∧ (setBatches b s).matrix.override = s.matrix.override ∧
    (setBatches b s).sampler = s.sampler ∧ (setBatches b s).run = s.run ∧ (setBatches b s).params = s.params ∧
    (setBatches b s).netMap = s.netMap ∧ (setBatches b s).hv = s.hv ∧ (setBatches b s).defects = s.defects ∧
    (setBatches b s).print = s.print ∧ (setBatches b s).decoder = s.decoder :=
  ⟨rfl, rfl, rfl, rfl, rfl, rfl, rfl, rfl, rfl, rfl, rfl, rfl, rfl, rfl, rfl, rfl⟩

/-- The fields after `setOverride`. -/
@[simp] theorem setOverride_fields (o : Override) (s : State) :
    (setOverride o s).pending = s.pending ∧ (setOverride o s).straps = s.straps ∧ (setOverride o s).bus = s.bus ∧
    (setOverride o s).lines = s.lines ∧ (setOverride o s).points = s.points ∧ (setOverride o s).blocks = s.blocks ∧
    (setOverride o s).matrix.batches = s.matrix.batches ∧ (setOverride o s).matrix.override = o ∧
    (setOverride o s).sampler = s.sampler ∧ (setOverride o s).run = s.run ∧ (setOverride o s).params = s.params ∧
    (setOverride o s).netMap = s.netMap ∧ (setOverride o s).hv = s.hv ∧ (setOverride o s).defects = s.defects ∧
    (setOverride o s).print = s.print ∧ (setOverride o s).decoder = s.decoder :=
  ⟨rfl, rfl, rfl, rfl, rfl, rfl, rfl, rfl, rfl, rfl, rfl, rfl, rfl, rfl, rfl, rfl⟩

/-- The fields after `setBlockRecords`. -/
@[simp] theorem setBlockRecords_fields (r : List Block) (s : State) :
    (setBlockRecords r s).pending = s.pending ∧ (setBlockRecords r s).straps = s.straps ∧
    (setBlockRecords r s).bus = s.bus ∧ (setBlockRecords r s).lines = s.lines ∧
    (setBlockRecords r s).points = s.points ∧ (setBlockRecords r s).blocks.records = r ∧
    (setBlockRecords r s).blocks.allowed = s.blocks.allowed ∧ (setBlockRecords r s).blocks.manual = s.blocks.manual ∧
    (setBlockRecords r s).matrix = s.matrix ∧ (setBlockRecords r s).sampler = s.sampler ∧
    (setBlockRecords r s).run = s.run ∧ (setBlockRecords r s).params = s.params ∧
    (setBlockRecords r s).netMap = s.netMap ∧ (setBlockRecords r s).hv = s.hv ∧
    (setBlockRecords r s).defects = s.defects ∧ (setBlockRecords r s).print = s.print ∧
    (setBlockRecords r s).decoder = s.decoder :=
  ⟨rfl, rfl, rfl, rfl, rfl, rfl, rfl, rfl, rfl, rfl, rfl, rfl, rfl, rfl, rfl, rfl, rfl⟩

/-- The fields after `setRun`. -/
@[simp] theorem setRun_fields (r : Run) (s : State) :
    (setRun r s).pending = s.pending ∧ (setRun r s).straps = s.straps ∧ (setRun r s).bus = s.bus ∧
    (setRun r s).lines = s.lines ∧ (setRun r s).points = s.points ∧ (setRun r s).blocks = s.blocks ∧
    (setRun r s).matrix = s.matrix ∧ (setRun r s).sampler = s.sampler ∧ (setRun r s).run = r ∧
    (setRun r s).params = s.params ∧ (setRun r s).netMap = s.netMap ∧ (setRun r s).hv = s.hv ∧
    (setRun r s).defects = s.defects ∧ (setRun r s).print = s.print ∧ (setRun r s).decoder = s.decoder :=
  ⟨rfl, rfl, rfl, rfl, rfl, rfl, rfl, rfl, rfl, rfl, rfl, rfl, rfl, rfl, rfl⟩

/-- The fields after `setSampler`. -/
@[simp] theorem setSampler_fields (x : Sampler) (s : State) :
    (setSampler x s).pending = s.pending ∧ (setSampler x s).straps = s.straps ∧ (setSampler x s).bus = s.bus ∧
    (setSampler x s).lines = s.lines ∧ (setSampler x s).points = s.points ∧ (setSampler x s).blocks = s.blocks ∧
    (setSampler x s).matrix = s.matrix ∧ (setSampler x s).sampler = x ∧ (setSampler x s).run = s.run ∧
    (setSampler x s).params = s.params ∧ (setSampler x s).netMap = s.netMap ∧ (setSampler x s).hv = s.hv ∧
    (setSampler x s).defects = s.defects ∧ (setSampler x s).print = s.print ∧ (setSampler x s).decoder = s.decoder :=
  ⟨rfl, rfl, rfl, rfl, rfl, rfl, rfl, rfl, rfl, rfl, rfl, rfl, rfl, rfl, rfl⟩

/-- The fields after `setNetMap`. -/
@[simp] theorem setNetMap_fields (m : List NetEntry) (s : State) :
    (setNetMap m s).pending = s.pending ∧ (setNetMap m s).straps = s.straps ∧ (setNetMap m s).bus = s.bus ∧
    (setNetMap m s).lines = s.lines ∧ (setNetMap m s).points = s.points ∧ (setNetMap m s).blocks = s.blocks ∧
    (setNetMap m s).matrix = s.matrix ∧ (setNetMap m s).sampler = s.sampler ∧ (setNetMap m s).run = s.run ∧
    (setNetMap m s).params = s.params ∧ (setNetMap m s).netMap = m ∧ (setNetMap m s).hv = s.hv ∧
    (setNetMap m s).defects = s.defects ∧ (setNetMap m s).print = s.print ∧ (setNetMap m s).decoder = s.decoder :=
  ⟨rfl, rfl, rfl, rfl, rfl, rfl, rfl, rfl, rfl, rfl, rfl, rfl, rfl, rfl, rfl⟩

/-- The fields after `setHv`. -/
@[simp] theorem setHv_fields (h : Hv) (s : State) :
    (setHv h s).pending = s.pending ∧ (setHv h s).straps = s.straps ∧ (setHv h s).bus = s.bus ∧
    (setHv h s).lines = s.lines ∧ (setHv h s).points = s.points ∧ (setHv h s).blocks = s.blocks ∧
    (setHv h s).matrix = s.matrix ∧ (setHv h s).sampler = s.sampler ∧ (setHv h s).run = s.run ∧
    (setHv h s).params = s.params ∧ (setHv h s).netMap = s.netMap ∧ (setHv h s).hv = h ∧
    (setHv h s).defects = s.defects ∧ (setHv h s).print = s.print ∧ (setHv h s).decoder = s.decoder :=
  ⟨rfl, rfl, rfl, rfl, rfl, rfl, rfl, rfl, rfl, rfl, rfl, rfl, rfl, rfl, rfl⟩

/-- The fields after `setDefects`. -/
@[simp] theorem setDefects_fields (d : Defects) (s : State) :
    (setDefects d s).pending = s.pending ∧ (setDefects d s).straps = s.straps ∧ (setDefects d s).bus = s.bus ∧
    (setDefects d s).lines = s.lines ∧ (setDefects d s).points = s.points ∧ (setDefects d s).blocks = s.blocks ∧
    (setDefects d s).matrix = s.matrix ∧ (setDefects d s).sampler = s.sampler ∧ (setDefects d s).run = s.run ∧
    (setDefects d s).params = s.params ∧ (setDefects d s).netMap = s.netMap ∧ (setDefects d s).hv = s.hv ∧
    (setDefects d s).defects = d ∧ (setDefects d s).print = s.print ∧ (setDefects d s).decoder = s.decoder :=
  ⟨rfl, rfl, rfl, rfl, rfl, rfl, rfl, rfl, rfl, rfl, rfl, rfl, rfl, rfl, rfl⟩

/-- The fields after `setPrint`. -/
@[simp] theorem setPrint_fields (p : Printer) (s : State) :
    (setPrint p s).pending = s.pending ∧ (setPrint p s).straps = s.straps ∧ (setPrint p s).bus = s.bus ∧
    (setPrint p s).lines = s.lines ∧ (setPrint p s).points = s.points ∧ (setPrint p s).blocks = s.blocks ∧
    (setPrint p s).matrix = s.matrix ∧ (setPrint p s).sampler = s.sampler ∧ (setPrint p s).run = s.run ∧
    (setPrint p s).params = s.params ∧ (setPrint p s).netMap = s.netMap ∧ (setPrint p s).hv = s.hv ∧
    (setPrint p s).defects = s.defects ∧ (setPrint p s).print = p ∧ (setPrint p s).decoder = s.decoder :=
  ⟨rfl, rfl, rfl, rfl, rfl, rfl, rfl, rfl, rfl, rfl, rfl, rfl, rfl, rfl, rfl⟩

/-- The fields after `updatePoint`. -/
@[simp] theorem updatePoint_fields (i : Nat) (f : Point → Point) (s : State) :
    (updatePoint i f s).pending = s.pending ∧ (updatePoint i f s).straps = s.straps ∧
    (updatePoint i f s).bus = s.bus ∧ (updatePoint i f s).lines = s.lines ∧
    (updatePoint i f s).points = s.points.modify i f ∧ (updatePoint i f s).blocks = s.blocks ∧
    (updatePoint i f s).matrix = s.matrix ∧ (updatePoint i f s).sampler = s.sampler ∧
    (updatePoint i f s).run = s.run ∧ (updatePoint i f s).params = s.params ∧ (updatePoint i f s).netMap = s.netMap ∧
    (updatePoint i f s).hv = s.hv ∧ (updatePoint i f s).defects = s.defects ∧ (updatePoint i f s).print = s.print ∧
    (updatePoint i f s).decoder = s.decoder :=
  ⟨rfl, rfl, rfl, rfl, rfl, rfl, rfl, rfl, rfl, rfl, rfl, rfl, rfl, rfl, rfl⟩

/-- The fields after `mapPoints`. -/
@[simp] theorem mapPoints_fields (f : Nat → Point → Point) (s : State) :
    (mapPoints f s).pending = s.pending ∧ (mapPoints f s).straps = s.straps ∧ (mapPoints f s).bus = s.bus ∧
    (mapPoints f s).lines = s.lines ∧ (mapPoints f s).points = s.points.zipIdx.map (fun q => f q.2 q.1) ∧
    (mapPoints f s).blocks = s.blocks ∧ (mapPoints f s).matrix = s.matrix ∧ (mapPoints f s).sampler = s.sampler ∧
    (mapPoints f s).run = s.run ∧ (mapPoints f s).params = s.params ∧ (mapPoints f s).netMap = s.netMap ∧
    (mapPoints f s).hv = s.hv ∧ (mapPoints f s).defects = s.defects ∧ (mapPoints f s).print = s.print ∧
    (mapPoints f s).decoder = s.decoder :=
  ⟨rfl, rfl, rfl, rfl, rfl, rfl, rfl, rfl, rfl, rfl, rfl, rfl, rfl, rfl, rfl⟩

/-- The fields after `releaseHold`. -/
@[simp] theorem releaseHold_fields (s : State) :
    (releaseHold s).pending = s.pending ∧ (releaseHold s).straps = s.straps ∧ (releaseHold s).bus = s.bus ∧
    (releaseHold s).lines.holdOut = false ∧ (releaseHold s).lines.holdSeen = s.lines.holdSeen ∧
    (releaseHold s).lines.liveOut = s.lines.liveOut ∧ (releaseHold s).lines.liveSeen = s.lines.liveSeen ∧
    (releaseHold s).lines.estop = s.lines.estop ∧ (releaseHold s).points = s.points ∧
    (releaseHold s).blocks = s.blocks ∧ (releaseHold s).matrix = s.matrix ∧ (releaseHold s).sampler = s.sampler ∧
    (releaseHold s).run = s.run ∧ (releaseHold s).params = s.params ∧ (releaseHold s).netMap = s.netMap ∧
    (releaseHold s).hv = s.hv ∧ (releaseHold s).defects = s.defects ∧ (releaseHold s).print = s.print ∧
    (releaseHold s).decoder = s.decoder :=
  ⟨rfl, rfl, rfl, rfl, rfl, rfl, rfl, rfl, rfl, rfl, rfl, rfl, rfl, rfl, rfl, rfl, rfl, rfl, rfl⟩

/-- The fields after `releaseLive`. -/
@[simp] theorem releaseLive_fields (s : State) :
    (releaseLive s).pending = s.pending ∧ (releaseLive s).straps = s.straps ∧ (releaseLive s).bus = s.bus ∧
    (releaseLive s).lines.holdOut = s.lines.holdOut ∧ (releaseLive s).lines.holdSeen = s.lines.holdSeen ∧
    (releaseLive s).lines.liveOut = false ∧ (releaseLive s).lines.liveSeen = s.lines.liveSeen ∧
    (releaseLive s).lines.estop = s.lines.estop ∧ (releaseLive s).points = s.points ∧
    (releaseLive s).blocks = s.blocks ∧ (releaseLive s).matrix = s.matrix ∧ (releaseLive s).sampler = s.sampler ∧
    (releaseLive s).run = s.run ∧ (releaseLive s).params = s.params ∧ (releaseLive s).netMap = s.netMap ∧
    (releaseLive s).hv = s.hv ∧ (releaseLive s).defects = s.defects ∧ (releaseLive s).print = s.print ∧
    (releaseLive s).decoder = s.decoder :=
  ⟨rfl, rfl, rfl, rfl, rfl, rfl, rfl, rfl, rfl, rfl, rfl, rfl, rfl, rfl, rfl, rfl, rfl, rfl, rfl⟩

/-- The fields after `setSlots`. -/
@[simp] theorem setSlots_fields (err veto : Bool) (s : State) :
    (setSlots err veto s).pending = s.pending ∧ (setSlots err veto s).straps = s.straps ∧
    (setSlots err veto s).lines = s.lines ∧ (setSlots err veto s).points = s.points ∧
    (setSlots err veto s).blocks = s.blocks ∧ (setSlots err veto s).matrix = s.matrix ∧
    (setSlots err veto s).sampler = s.sampler ∧ (setSlots err veto s).run = s.run ∧
    (setSlots err veto s).params = s.params ∧ (setSlots err veto s).netMap = s.netMap ∧
    (setSlots err veto s).hv = s.hv ∧ (setSlots err veto s).defects = s.defects ∧
    (setSlots err veto s).print = s.print ∧ (setSlots err veto s).decoder = s.decoder ∧
    (setSlots err veto s).bus.held = s.bus.held ∧ (setSlots err veto s).bus.resetCount = s.bus.resetCount ∧
    (setSlots err veto s).bus.integrated = s.bus.integrated ∧ (setSlots err veto s).bus.slot = s.bus.slot ∧
    (setSlots err veto s).bus.errors = s.bus.errors ∧ (setSlots err veto s).bus.silent = s.bus.silent ∧
    (setSlots err veto s).bus.window = s.bus.window ∧ (setSlots err veto s).bus.errDriven = err ∧
    (setSlots err veto s).bus.vetoDriven = veto :=
  ⟨rfl, rfl, rfl, rfl, rfl, rfl, rfl, rfl, rfl, rfl, rfl, rfl, rfl, rfl, rfl, rfl, rfl, rfl, rfl, rfl, rfl, rfl, rfl⟩

/-- The number of point records is kept by every update of points. -/
@[simp] theorem updatePoint_length (i : Nat) (f : Point → Point) (s : State) :
    (updatePoint i f s).points.length = s.points.length := by simp [updatePoint]

/-- The number of point records is kept by every update of points. -/
@[simp] theorem mapPoints_length (f : Nat → Point → Point) (s : State) :
    (mapPoints f s).points.length = s.points.length := by simp [mapPoints]

/-- A record after an update of one local index. -/
theorem pointAt_updatePoint (i j : Nat) (f : Point → Point) (s : State) (hj : j < s.points.length) :
    pointAt (updatePoint i f s) j = if i = j then f (pointAt s j) else pointAt s j := by
  simp [pointAt, List.getD_eq_getElem?_getD, hj, List.getElem_modify]

/-- A record after an update of every local index. -/
theorem pointAt_mapPoints (f : Nat → Point → Point) (s : State) (j : Nat) (hj : j < s.points.length) :
    pointAt (mapPoints f s) j = f j (pointAt s j) := by
  simp [pointAt, List.getD_eq_getElem?_getD, hj]

end Sys2Proof.Machine
end

