-- ==== Sys2Proof/Laws/Matrix.lean ====
section
/-! SUPPORT. What the Matrix Controller's operations can do to one point and to the batches: each keeps the agreement of
stage, switch and pending (table of 2.2), and under LIVE none moves an HV relay (R29). -/

namespace Sys2Proof.Machine

/-! ## One point -/

/-- No point has more than one relay closed (R22). -/
theorem relays_at_most_one (p : Point) : ((relays p).filter id).length ≤ 1 := by
  unfold relays
  cases relayClosed p <;> decide

/-- The close of R24 keeps the point's fields agreeing. -/
theorem closeInto_lawful (t : Switch) (settle : Nat) (p : Point) : pointLawful (closeInto t settle p) = true := by
  unfold closeInto
  split
  · rfl
  · rename_i h; simp [pointLawful, h]

/-- The start of R24 to another state keeps the point's fields agreeing. -/
theorem startChange_lawful (live : Bool) (t : Switch) (p : Point) (h : p.switch ≠ t) :
    pointLawful (startChange live t p) = true := by
  unfold startChange
  split
  · rename_i c; simp only [pointLawful]; obtain ⟨c, -⟩ := c; rw [c] at h ⊢; simpa using Ne.symm h
  · simp [pointLawful]

/-- A request keeps the point's fields agreeing (R24, R25, R29). -/
theorem requestPoint_lawful (live : Bool) (settle : Nat) (t : Switch) (p : Point) (h : pointLawful p = true) :
    pointLawful (requestPoint live settle t p) = true := by
  unfold requestPoint
  split
  · split
    · exact h
    · exact startChange_lawful _ _ _ ‹_›
  · split
    · rfl
    · exact startChange_lawful _ _ _ ‹_›
  · rename_i hs; simp [pointLawful, hs]
  · rename_i hs
    split
    · rename_i ht; simp [pointLawful, hs, ht]
    · exact closeInto_lawful _ _ _
  · rename_i closed ms hs
    have hc : closed ≠ .float ∧ p.pending.isSome = true ∧ (p.pending = some closed ∨ closed = .hv) := by
      simpa [pointLawful, hs, and_assoc] using h
    split
    · rename_i hk
      simp only [pointLawful, hs]
      rcases hk with hk | hk
      · have := hc.2.2; rw [hk] at this; simp_all
      · simp_all
    · split
      · rename_i hk; simp only [pointLawful, hs]; simp [hk.1]
      · simp [pointLawful]

/-- The end of a break keeps the point's fields agreeing (R24, R29). -/
theorem breakEnds_lawful (live : Bool) (settle : Nat) (p : Point) (h : pointLawful p = true) :
    pointLawful (breakEnds live settle p) = true := by
  unfold breakEnds
  split
  · rename_i t hs hp
    split
    · rename_i c; simp [pointLawful, hp, c.1]
    · exact closeInto_lawful _ _ _
  · exact h

/-- The end of a settle time keeps the point's fields agreeing (R24, R29). -/
theorem settleEnds_lawful (live : Bool) (p : Point) (h : pointLawful p = true) :
    pointLawful (settleEnds live p) = true := by
  unfold settleEnds
  split
  · split
    · rfl
    · exact startChange_lawful _ _ _ ‹_›
  · exact h

/-- The release of LIVE keeps the point's fields agreeing (R30). -/
theorem liveFreed_lawful (settle : Nat) (p : Point) (h : pointLawful p = true) :
    pointLawful (liveFreed settle p) = true := by
  unfold liveFreed
  split
  · simp [pointLawful, *]
  · exact closeInto_lawful _ _ _
  · split
    · exact h
    · simp [pointLawful, *]
  · exact h

/-- A forced FLOAT leaves the point at FLOAT and at rest (R31). -/
theorem forceFloat_floats (p : Point) : pointFloats (forceFloat p) = true := rfl

/-- A point at FLOAT and at rest has agreeing fields. -/
theorem pointFloats_lawful (p : Point) (h : pointFloats p = true) : pointLawful p = true := by
  simp only [pointFloats, Bool.and_eq_true, beq_iff_eq] at h
  simp [pointLawful, h.2, h.1.2]

/-! ## LIVE holds the HV relay (R29) -/

/-- Under LIVE a request leaves the HV relay as it is. -/
theorem requestPoint_keeps_hv (settle : Nat) (t : Switch) (p : Point) (h : pointLawful p = true) :
    (relayClosed (requestPoint true settle t p) = .hv ↔ relayClosed p = .hv) := by
  unfold requestPoint
  split
  · rename_i hs
    split
    · rfl
    · unfold startChange; split <;> rename_i c <;> simp_all [relayClosed]
  · rename_i hs
    have hv : p.switch = .hv := by simp [pointLawful, hs] at h; exact h.1.1
    split
    · simp [relayClosed, hs]
    · simp [startChange, relayClosed, hs, hv]
  · rename_i hs; simp [relayClosed, hs]
  · rename_i hs
    split
    · simp [relayClosed, hs]
    · rename_i ht; unfold closeInto; split <;> simp [relayClosed, hs, ht]
  · rename_i closed ms hs
    split
    · simp [relayClosed, hs]
    · split
      · simp [relayClosed, hs]
      · rename_i c d
        have : closed ≠ .hv := fun e => d ⟨e, rfl⟩
        simp [relayClosed, hs, this]

/-- Under LIVE the end of a break leaves the HV relay open. -/
theorem breakEnds_keeps_hv (settle : Nat) (p : Point) :
    (relayClosed (breakEnds true settle p) = .hv ↔ relayClosed p = .hv) := by
  unfold breakEnds
  split
  · rename_i t hs hp
    split
    · simp [relayClosed, hs]
    · rename_i c
      have : t ≠ .hv := fun e => c ⟨e, rfl⟩
      unfold closeInto; split <;> simp [relayClosed, hs, this]
  · rfl

/-- Under LIVE the end of a settle time leaves the HV relay as it is. -/
theorem settleEnds_keeps_hv (p : Point) : (relayClosed (settleEnds true p) = .hv ↔ relayClosed p = .hv) := by
  unfold settleEnds
  split
  · rename_i closed ms t hs hp
    split
    · simp [relayClosed, hs]
    · unfold startChange; split <;> rename_i c <;> simp_all [relayClosed]
  · rfl

/-! ## Batches -/

/-- A batch request changes the points and the outstanding batches alone (R27, R28). -/
theorem requestBatch_only (why : Purpose) (targets : List (Nat × Switch)) (s : State) :
    requestBatch why targets s =
      setBatches (requestBatch why targets s).matrix.batches
        { s with points := (requestBatch why targets s).points } := by
  unfold requestBatch; split <;> rfl

/-- While every point is held at FLOAT a batch request moves nothing (R32). -/
theorem requestBatch_held (why : Purpose) (targets : List (Nat × Switch)) (s : State) (h : heldAtFloat s = true) :
    (requestBatch why targets s).points = s.points := by
  simp [requestBatch, h]

/-- What a batch request makes of one record: as if requested alone where the batch names it (R27). -/
def requestedPoint (targets : List (Nat × Switch)) (s : State) (i : Nat) (p : Point) : Point :=
  match targetOf targets i with
  | some t => requestPoint s.lines.liveSeen s.params.s t p
  | none => p

/-- The records after a batch request that is not held. -/
theorem requestBatch_maps (why : Purpose) (targets : List (Nat × Switch)) (s : State) (h : heldAtFloat s = false) :
    (requestBatch why targets s).points = (mapPoints (requestedPoint targets s) s).points := by
  simp only [requestBatch, h]; rfl

/-- One record after a batch request: named, as if requested alone; else as it was (R27). -/
theorem requestBatch_point (why : Purpose) (targets : List (Nat × Switch)) (s : State) (i : Nat)
    (hi : i < s.points.length) (h : heldAtFloat s = false) :
    pointAt (requestBatch why targets s) i = requestedPoint targets s i (pointAt s i) := by
  have e : pointAt (requestBatch why targets s) i = pointAt (mapPoints (requestedPoint targets s) s) i := by
    unfold pointAt; rw [requestBatch_maps why targets s h]
  rw [e, pointAt_mapPoints _ _ _ hi]

end Sys2Proof.Machine
end

