-- ==== Sys2Proof/Laws/Slot.lean ====
section
/-! SUPPORT. What the operations on the transmit slot, the events and the lines can do: each says once which fields the
operation may change, and what it leaves in them. -/

namespace Sys2Proof.Machine

/-! ## The slot as a list -/

/-- The entries after an insertion (R43): the new one, and the old ones of other kinds. -/
theorem mem_insertEntry (e x : TxEntry) (slot : List TxEntry) :
    x ∈ insertEntry e slot ↔ x = e ∨ (x ∈ slot ∧ entryKind x ≠ entryKind e) := by
  simp only [insertEntry, List.mem_append, List.mem_filter, List.mem_cons, decide_eq_true_eq]
  constructor
  · rintro (⟨h, k⟩ | rfl | ⟨h, k⟩)
    · exact .inr ⟨h, by omega⟩
    · exact .inl rfl
    · exact .inr ⟨h, by omega⟩
  · rintro (rfl | ⟨h, k⟩)
    · exact .inr (.inl rfl)
    · rcases Nat.lt_or_gt_of_ne k with k | k
      · exact .inl ⟨h, k⟩
      · exact .inr (.inr ⟨h, k⟩)

/-- An insertion keeps the order of kind codes. -/
theorem insertEntry_sorted (e : TxEntry) (slot : List TxEntry)
    (h : slot.Pairwise fun x y => entryKind x < entryKind y) :
    (insertEntry e slot).Pairwise fun x y => entryKind x < entryKind y := by
  refine List.pairwise_append.2 ⟨h.filter _, List.pairwise_cons.2 ⟨fun y hy => ?_, h.filter _⟩, fun x hx y hy => ?_⟩
  · simpa using (List.mem_filter.1 hy).2
  · have hx' : entryKind x < entryKind e := by simpa using (List.mem_filter.1 hx).2
    rcases List.mem_cons.1 hy with rfl | hy
    · exact hx'
    · have : entryKind e < entryKind y := by simpa using (List.mem_filter.1 hy).2
      omega

/-- A filtered or rewritten slot keeps the order of kind codes where each entry kept keeps its kind. -/
theorem filterMap_sorted (f : TxEntry → Option TxEntry) (hf : ∀ e e', f e = some e' → entryKind e' = entryKind e)
    (slot : List TxEntry) (h : slot.Pairwise fun x y => entryKind x < entryKind y) :
    (slot.filterMap f).Pairwise fun x y => entryKind x < entryKind y := by
  rw [List.pairwise_filterMap]
  exact h.imp fun {a b} hab x hx y hy => by rw [hf a x hx, hf b y hy]; exact hab

/-- A frame queued stands in the slot at the place of its kind, beside the begun frame of that kind where there is one. -/
theorem putFrame_cases (f : Frame) (slot : List TxEntry) :
    (∃ e ∈ slot, e.begun = true ∧ entryKind e = kindCode f.payload ∧
      putFrame f slot = insertEntry { e with beside := some f } slot) ∨
    putFrame f slot = insertEntry { frame := f, begun := false, doomed := false, beside := none } slot := by
  unfold putFrame
  split
  · rename_i e he
    split
    · rename_i hb
      exact .inl ⟨e, List.mem_of_find?_eq_some he, hb, by simpa using List.find?_some he, rfl⟩
    · exact .inr rfl
  · exact .inr rfl

/-! ## Operations that change the slot alone -/

/-- `queue` changes the slot alone (R43). -/
theorem queue_only (dst : Addr) (p : Payload) (s : State) : queue dst p s = setSlot (queue dst p s).bus.slot s := by
  unfold queue; split <;> rfl

/-- A station in HELD or SILENT queues nothing (R43, R51, R58). -/
theorem queue_quiet (dst : Addr) (p : Payload) (s : State) (h : (s.bus.held || s.bus.silent) = true) :
    queue dst p s = s := by simp [queue, h]

/-- Outside HELD and SILENT a frame is put in the slot. -/
theorem queue_puts (dst : Addr) (p : Payload) (s : State) (h : (s.bus.held || s.bus.silent) = false) :
    queue dst p s = setSlot (putFrame (ownFrame s dst p) s.bus.slot) s := by simp [queue, h]

/-- `withdraw` changes the slot alone. -/
theorem withdraw_only (k : Nat) (s : State) : withdraw k s = setSlot (withdraw k s).bus.slot s := rfl

/-- `withdrawUnbegun` changes the slot alone. -/
theorem withdrawUnbegun_only (k : Nat) (s : State) : withdrawUnbegun k s = setSlot (withdrawUnbegun k s).bus.slot s := rfl

/-- `withdrawClassOne` changes the slot alone. -/
theorem withdrawClassOne_only (s : State) : withdrawClassOne s = setSlot (withdrawClassOne s).bus.slot s := rfl

/-- `pauseService` changes the slot alone (R174). -/
theorem pauseService_only (s : State) : pauseService s = setSlot (pauseService s).bus.slot s := by
  unfold pauseService; split <;> rfl

/-- `notSent` changes the slot alone (R44). -/
theorem notSent_only (s : State) : notSent s = setSlot (notSent s).bus.slot s := by
  unfold notSent; rw [pauseService_only]; rfl

/-- `erred` changes the slot alone (R43). -/
theorem erred_only (s : State) : erred s = setSlot (erred s).bus.slot s := by
  unfold erred; rw [pauseService_only]; rfl

/-- An entry that a withdrawal of frames not begun leaves: one of another sort as it was, or a begun one, marked (R174,
R181). -/
theorem mem_dropUnbegun (which : TxEntry → Bool) (slot : List TxEntry) (x : TxEntry) (h : x ∈ dropUnbegun which slot) :
    ∃ e ∈ slot, entryKind x = entryKind e ∧ x.frame = e.frame ∧ x.begun = e.begun ∧ x.doomed = e.doomed ∧
      ((which e = false ∧ x = e) ∨
        (e.begun = true ∧ x.recalled = true ∧ x.beside = e.beside.filter fun f => !which { e with frame := f })) := by
  obtain ⟨e, he, hx⟩ := List.mem_filterMap.1 h
  refine ⟨e, he, ?_⟩
  split at hx
  · rename_i hw; cases hx; exact ⟨rfl, rfl, rfl, rfl, .inl ⟨by simpa using hw, rfl⟩⟩
  · split at hx
    · rename_i hb; cases hx; exact ⟨rfl, rfl, rfl, rfl, .inr ⟨hb, rfl, rfl⟩⟩
    · cases hx

/-- A refusal or a reply changes the slot alone. -/
theorem reply_only (h : Header) (code : Nat) (d : List Byte) (s : State) :
    reply h code d s = setSlot (reply h code d s).bus.slot s := queue_only _ _ _

/-- A refusal changes the slot alone (R170). -/
theorem refuse_only (h : Header) (code : Nat) (why : RefusalCode) (sel : Nat) (s : State) :
    refuse h code why sel s = setSlot (refuse h code why sel s).bus.slot s := queue_only _ _ _

/-- An event sets its status bit and may change the slot (R178, R179), and nothing else. -/
theorem raise_only (e : Event) (s : State) :
    raise e s = setSlot (raise e s).bus.slot (setStatus (s.decoder.status ||| eventMask e) s) := by
  unfold raise
  simp only
  split
  · rfl
  · exact queue_only _ _ _

/-! ## The lines and the step timer -/

/-- HOLD's rise changes the line as seen and the step timer alone (R77). -/
theorem holdRises_only (s : State) :
    holdRises s = setTimer (holdRises s).run.timer { s with lines := { s.lines with holdSeen := true } } := by
  unfold holdRises; simp only; split <;> rfl

/-- LIVE's rise changes the line as seen and the step timer alone (R77). -/
theorem liveRises_only (s : State) :
    liveRises s = setTimer (liveRises s).run.timer { s with lines := { s.lines with liveSeen := true } } := by
  unfold liveRises; simp only; split <;> rfl

/-- After an assertion of HOLD the output is asserted and seen asserted, where an asserted output was seen before. -/
theorem assertHold_lines (s : State) (h : s.lines.holdOut = true → s.lines.holdSeen = true) :
    (assertHold s).lines = { s.lines with holdOut := true, holdSeen := true } := by
  unfold assertHold
  split
  · rename_i ho
    have hs := h ho
    cases hl : s.lines
    simp_all
  · simp only
    rw [pauseService_only]
    split
    · rename_i hs
      have : s.lines.holdSeen = true := by simpa using hs
      simp [this]
    · rw [holdRises_only]; simp

/-- After an assertion of LIVE the output is asserted and seen asserted, where an asserted output was seen before. -/
theorem assertLive_lines (s : State) (h : s.lines.liveOut = true → s.lines.liveSeen = true) :
    (assertLive s).lines = { s.lines with liveOut := true, liveSeen := true } := by
  unfold assertLive
  split
  · rename_i ho
    have hs := h ho
    cases hl : s.lines
    simp_all
  · simp only
    split
    · rename_i hs
      have : s.lines.liveSeen = true := by simpa using hs
      simp [this]
    · rw [liveRises_only]; simp

/-- The station's own clean frame or another's: what the frame end does to a station that takes frames (R42). -/
theorem frameEnd_takes (f : Frame) (act : Bool → State → State) (s : State) (hi : s.bus.integrated = true)
    (hh : s.bus.held = false) :
    frameEnd f act s =
      (let s2 := setWindow (windowAfterClean s.bus.window) (setSlots false (vetoOf s f.payload)
        (notSent (if isOwn f s then sentClean (kindCode f.payload) s else s)))
       if isCandidate s then firstFrame (kindCode f.payload) (act (isOwn f s) s2) else act (isOwn f s) s2) := by
  simp [frameEnd, hi, hh]

end Sys2Proof.Machine
end

