-- ==== Sys2Proof/Laws/Frames.lean ====
section
/-! SUPPORT. The frame of each shared operation: which fields it leaves as they were, one equation per field, for `simp`.
What an operation may change is what its lemma does not name. -/

namespace Sys2Proof.Machine

/-- `queue` changes the slot alone. -/
@[simp] theorem queue_frame (dst : Addr) (p : Payload) (s : State) :
    (queue dst p s).pending = s.pending ∧ (queue dst p s).straps = s.straps ∧ (queue dst p s).bus.held = s.bus.held ∧
    (queue dst p s).bus.resetCount = s.bus.resetCount ∧ (queue dst p s).bus.integrated = s.bus.integrated ∧
    (queue dst p s).bus.errors = s.bus.errors ∧ (queue dst p s).bus.silent = s.bus.silent ∧
    (queue dst p s).bus.window = s.bus.window ∧ (queue dst p s).bus.errDriven = s.bus.errDriven ∧
    (queue dst p s).bus.vetoDriven = s.bus.vetoDriven ∧ (queue dst p s).lines = s.lines ∧
    (queue dst p s).points = s.points ∧ (queue dst p s).blocks = s.blocks ∧ (queue dst p s).matrix = s.matrix ∧
    (queue dst p s).sampler = s.sampler ∧ (queue dst p s).run = s.run ∧ (queue dst p s).params = s.params ∧
    (queue dst p s).netMap = s.netMap ∧ (queue dst p s).hv = s.hv ∧ (queue dst p s).defects = s.defects ∧
    (queue dst p s).print = s.print ∧ (queue dst p s).decoder = s.decoder := by
  rw [queue_only]; simp

/-- `withdraw` changes the slot alone. -/
@[simp] theorem withdraw_frame (k : Nat) (s : State) :
    (withdraw k s).pending = s.pending ∧ (withdraw k s).straps = s.straps ∧ (withdraw k s).bus.held = s.bus.held ∧
    (withdraw k s).bus.resetCount = s.bus.resetCount ∧ (withdraw k s).bus.integrated = s.bus.integrated ∧
    (withdraw k s).bus.errors = s.bus.errors ∧ (withdraw k s).bus.silent = s.bus.silent ∧
    (withdraw k s).bus.window = s.bus.window ∧ (withdraw k s).bus.errDriven = s.bus.errDriven ∧
    (withdraw k s).bus.vetoDriven = s.bus.vetoDriven ∧ (withdraw k s).lines = s.lines ∧
    (withdraw k s).points = s.points ∧ (withdraw k s).blocks = s.blocks ∧ (withdraw k s).matrix = s.matrix ∧
    (withdraw k s).sampler = s.sampler ∧ (withdraw k s).run = s.run ∧ (withdraw k s).params = s.params ∧
    (withdraw k s).netMap = s.netMap ∧ (withdraw k s).hv = s.hv ∧ (withdraw k s).defects = s.defects ∧
    (withdraw k s).print = s.print ∧ (withdraw k s).decoder = s.decoder := by
  rw [withdraw_only]; simp

/-- `withdrawUnbegun` changes the slot alone. -/
@[simp] theorem withdrawUnbegun_frame (k : Nat) (s : State) :
    (withdrawUnbegun k s).pending = s.pending ∧ (withdrawUnbegun k s).straps = s.straps ∧
    (withdrawUnbegun k s).bus.held = s.bus.held ∧ (withdrawUnbegun k s).bus.resetCount = s.bus.resetCount ∧
    (withdrawUnbegun k s).bus.integrated = s.bus.integrated ∧ (withdrawUnbegun k s).bus.errors = s.bus.errors ∧
    (withdrawUnbegun k s).bus.silent = s.bus.silent ∧ (withdrawUnbegun k s).bus.window = s.bus.window ∧
    (withdrawUnbegun k s).bus.errDriven = s.bus.errDriven ∧ (withdrawUnbegun k s).bus.vetoDriven = s.bus.vetoDriven ∧
    (withdrawUnbegun k s).lines = s.lines ∧ (withdrawUnbegun k s).points = s.points ∧
    (withdrawUnbegun k s).blocks = s.blocks ∧ (withdrawUnbegun k s).matrix = s.matrix ∧
    (withdrawUnbegun k s).sampler = s.sampler ∧ (withdrawUnbegun k s).run = s.run ∧
    (withdrawUnbegun k s).params = s.params ∧ (withdrawUnbegun k s).netMap = s.netMap ∧
    (withdrawUnbegun k s).hv = s.hv ∧ (withdrawUnbegun k s).defects = s.defects ∧
    (withdrawUnbegun k s).print = s.print ∧ (withdrawUnbegun k s).decoder = s.decoder := by
  rw [withdrawUnbegun_only]; simp

/-- `withdrawClassOne` changes the slot alone. -/
@[simp] theorem withdrawClassOne_frame (s : State) :
    (withdrawClassOne s).pending = s.pending ∧ (withdrawClassOne s).straps = s.straps ∧
    (withdrawClassOne s).bus.held = s.bus.held ∧ (withdrawClassOne s).bus.resetCount = s.bus.resetCount ∧
    (withdrawClassOne s).bus.integrated = s.bus.integrated ∧ (withdrawClassOne s).bus.errors = s.bus.errors ∧
    (withdrawClassOne s).bus.silent = s.bus.silent ∧ (withdrawClassOne s).bus.window = s.bus.window ∧
    (withdrawClassOne s).bus.errDriven = s.bus.errDriven ∧ (withdrawClassOne s).bus.vetoDriven = s.bus.vetoDriven ∧
    (withdrawClassOne s).lines = s.lines ∧ (withdrawClassOne s).points = s.points ∧
    (withdrawClassOne s).blocks = s.blocks ∧ (withdrawClassOne s).matrix = s.matrix ∧
    (withdrawClassOne s).sampler = s.sampler ∧ (withdrawClassOne s).run = s.run ∧
    (withdrawClassOne s).params = s.params ∧ (withdrawClassOne s).netMap = s.netMap ∧
    (withdrawClassOne s).hv = s.hv ∧ (withdrawClassOne s).defects = s.defects ∧
    (withdrawClassOne s).print = s.print ∧ (withdrawClassOne s).decoder = s.decoder := by
  rw [withdrawClassOne_only]; simp

/-- `pauseService` changes the slot alone. -/
@[simp] theorem pauseService_frame (s : State) :
    (pauseService s).pending = s.pending ∧ (pauseService s).straps = s.straps ∧
    (pauseService s).bus.held = s.bus.held ∧ (pauseService s).bus.resetCount = s.bus.resetCount ∧
    (pauseService s).bus.integrated = s.bus.integrated ∧ (pauseService s).bus.errors = s.bus.errors ∧
    (pauseService s).bus.silent = s.bus.silent ∧ (pauseService s).bus.window = s.bus.window ∧
    (pauseService s).bus.errDriven = s.bus.errDriven ∧ (pauseService s).bus.vetoDriven = s.bus.vetoDriven ∧
    (pauseService s).lines = s.lines ∧ (pauseService s).points = s.points ∧ (pauseService s).blocks = s.blocks ∧
    (pauseService s).matrix = s.matrix ∧ (pauseService s).sampler = s.sampler ∧ (pauseService s).run = s.run ∧
    (pauseService s).params = s.params ∧ (pauseService s).netMap = s.netMap ∧ (pauseService s).hv = s.hv ∧
    (pauseService s).defects = s.defects ∧ (pauseService s).print = s.print ∧
    (pauseService s).decoder = s.decoder := by
  rw [pauseService_only]; simp

/-- `notSent` changes the slot alone. -/
@[simp] theorem notSent_frame (s : State) :
    (notSent s).pending = s.pending ∧ (notSent s).straps = s.straps ∧ (notSent s).bus.held = s.bus.held ∧
    (notSent s).bus.resetCount = s.bus.resetCount ∧ (notSent s).bus.integrated = s.bus.integrated ∧
    (notSent s).bus.errors = s.bus.errors ∧ (notSent s).bus.silent = s.bus.silent ∧
    (notSent s).bus.window = s.bus.window ∧ (notSent s).bus.errDriven = s.bus.errDriven ∧
    (notSent s).bus.vetoDriven = s.bus.vetoDriven ∧ (notSent s).lines = s.lines ∧ (notSent s).points = s.points ∧
    (notSent s).blocks = s.blocks ∧ (notSent s).matrix = s.matrix ∧ (notSent s).sampler = s.sampler ∧
    (notSent s).run = s.run ∧ (notSent s).params = s.params ∧ (notSent s).netMap = s.netMap ∧ (notSent s).hv = s.hv ∧
    (notSent s).defects = s.defects ∧ (notSent s).print = s.print ∧ (notSent s).decoder = s.decoder := by
  rw [notSent_only]; simp

/-- `erred` changes the slot alone. -/
@[simp] theorem erred_frame (s : State) :
    (erred s).pending = s.pending ∧ (erred s).straps = s.straps ∧ (erred s).bus.held = s.bus.held ∧
    (erred s).bus.resetCount = s.bus.resetCount ∧ (erred s).bus.integrated = s.bus.integrated ∧
    (erred s).bus.errors = s.bus.errors ∧ (erred s).bus.silent = s.bus.silent ∧
    (erred s).bus.window = s.bus.window ∧ (erred s).bus.errDriven = s.bus.errDriven ∧
    (erred s).bus.vetoDriven = s.bus.vetoDriven ∧ (erred s).lines = s.lines ∧ (erred s).points = s.points ∧
    (erred s).blocks = s.blocks ∧ (erred s).matrix = s.matrix ∧ (erred s).sampler = s.sampler ∧
    (erred s).run = s.run ∧ (erred s).params = s.params ∧ (erred s).netMap = s.netMap ∧ (erred s).hv = s.hv ∧
    (erred s).defects = s.defects ∧ (erred s).print = s.print ∧ (erred s).decoder = s.decoder := by
  rw [erred_only]; simp

/-- `reply` changes the slot alone. -/
@[simp] theorem reply_frame (h : Header) (code : Nat) (d : List Byte) (s : State) :
    (reply h code d s).pending = s.pending ∧ (reply h code d s).straps = s.straps ∧
    (reply h code d s).bus.held = s.bus.held ∧ (reply h code d s).bus.resetCount = s.bus.resetCount ∧
    (reply h code d s).bus.integrated = s.bus.integrated ∧ (reply h code d s).bus.errors = s.bus.errors ∧
    (reply h code d s).bus.silent = s.bus.silent ∧ (reply h code d s).bus.window = s.bus.window ∧
    (reply h code d s).bus.errDriven = s.bus.errDriven ∧ (reply h code d s).bus.vetoDriven = s.bus.vetoDriven ∧
    (reply h code d s).lines = s.lines ∧ (reply h code d s).points = s.points ∧
    (reply h code d s).blocks = s.blocks ∧ (reply h code d s).matrix = s.matrix ∧
    (reply h code d s).sampler = s.sampler ∧ (reply h code d s).run = s.run ∧ (reply h code d s).params = s.params ∧
    (reply h code d s).netMap = s.netMap ∧ (reply h code d s).hv = s.hv ∧ (reply h code d s).defects = s.defects ∧
    (reply h code d s).print = s.print ∧ (reply h code d s).decoder = s.decoder := by
  rw [reply_only]; simp

/-- `refuse` changes the slot alone. -/
@[simp] theorem refuse_frame (h : Header) (code : Nat) (why : RefusalCode) (sel : Nat) (s : State) :
    (refuse h code why sel s).pending = s.pending ∧ (refuse h code why sel s).straps = s.straps ∧
    (refuse h code why sel s).bus.held = s.bus.held ∧ (refuse h code why sel s).bus.resetCount = s.bus.resetCount ∧
    (refuse h code why sel s).bus.integrated = s.bus.integrated ∧
    (refuse h code why sel s).bus.errors = s.bus.errors ∧ (refuse h code why sel s).bus.silent = s.bus.silent ∧
    (refuse h code why sel s).bus.window = s.bus.window ∧ (refuse h code why sel s).bus.errDriven = s.bus.errDriven ∧
    (refuse h code why sel s).bus.vetoDriven = s.bus.vetoDriven ∧ (refuse h code why sel s).lines = s.lines ∧
    (refuse h code why sel s).points = s.points ∧ (refuse h code why sel s).blocks = s.blocks ∧
    (refuse h code why sel s).matrix = s.matrix ∧ (refuse h code why sel s).sampler = s.sampler ∧
    (refuse h code why sel s).run = s.run ∧ (refuse h code why sel s).params = s.params ∧
    (refuse h code why sel s).netMap = s.netMap ∧ (refuse h code why sel s).hv = s.hv ∧
    (refuse h code why sel s).defects = s.defects ∧ (refuse h code why sel s).print = s.print ∧
    (refuse h code why sel s).decoder = s.decoder := by
  rw [refuse_only]; simp

/-- `raise` changes the slot and the status (R178, R179). -/
@[simp] theorem raise_frame (e : Event) (s : State) :
    (raise e s).pending = s.pending ∧ (raise e s).straps = s.straps ∧ (raise e s).bus.held = s.bus.held ∧
    (raise e s).bus.resetCount = s.bus.resetCount ∧ (raise e s).bus.integrated = s.bus.integrated ∧
    (raise e s).bus.errors = s.bus.errors ∧ (raise e s).bus.silent = s.bus.silent ∧
    (raise e s).bus.window = s.bus.window ∧ (raise e s).bus.errDriven = s.bus.errDriven ∧
    (raise e s).bus.vetoDriven = s.bus.vetoDriven ∧ (raise e s).lines = s.lines ∧ (raise e s).points = s.points ∧
    (raise e s).blocks = s.blocks ∧ (raise e s).matrix = s.matrix ∧ (raise e s).sampler = s.sampler ∧
    (raise e s).run = s.run ∧ (raise e s).params = s.params ∧ (raise e s).netMap = s.netMap ∧ (raise e s).hv = s.hv ∧
    (raise e s).defects = s.defects ∧ (raise e s).print = s.print ∧ (raise e s).decoder.ctx = s.decoder.ctx ∧
    (raise e s).decoder.mask = s.decoder.mask ∧ (raise e s).decoder.summary = s.decoder.summary := by
  rw [raise_only]; simp

/-- An event's status after it occurs (R178). -/
@[simp] theorem raise_status (e : Event) (s : State) :
    (raise e s).decoder.status = s.decoder.status ||| eventMask e := by
  rw [raise_only]; simp

/-- `sentClean` changes the slot and the error count (R43, R49). -/
@[simp] theorem sentClean_frame (k : Nat) (s : State) :
    (sentClean k s).pending = s.pending ∧ (sentClean k s).straps = s.straps ∧ (sentClean k s).bus.held = s.bus.held ∧
    (sentClean k s).bus.resetCount = s.bus.resetCount ∧ (sentClean k s).bus.integrated = s.bus.integrated ∧
    (sentClean k s).bus.silent = s.bus.silent ∧ (sentClean k s).bus.window = s.bus.window ∧
    (sentClean k s).bus.errDriven = s.bus.errDriven ∧ (sentClean k s).bus.vetoDriven = s.bus.vetoDriven ∧
    (sentClean k s).lines = s.lines ∧ (sentClean k s).points = s.points ∧ (sentClean k s).blocks = s.blocks ∧
    (sentClean k s).matrix = s.matrix ∧ (sentClean k s).sampler = s.sampler ∧ (sentClean k s).run = s.run ∧
    (sentClean k s).params = s.params ∧ (sentClean k s).netMap = s.netMap ∧ (sentClean k s).hv = s.hv ∧
    (sentClean k s).defects = s.defects ∧ (sentClean k s).print = s.print ∧ (sentClean k s).decoder = s.decoder := by
  simp [sentClean]

/-- `timerRestart` changes the step timer alone. -/
@[simp] theorem timerRestart_frame (m : TimerMode) (s : State) :
    (timerRestart m s).pending = s.pending ∧ (timerRestart m s).straps = s.straps ∧ (timerRestart m s).bus = s.bus ∧
    (timerRestart m s).lines = s.lines ∧ (timerRestart m s).points = s.points ∧
    (timerRestart m s).blocks = s.blocks ∧ (timerRestart m s).matrix = s.matrix ∧
    (timerRestart m s).sampler = s.sampler ∧ (timerRestart m s).run.state = s.run.state ∧
    (timerRestart m s).run.number = s.run.number ∧ (timerRestart m s).run.sweepOn = s.run.sweepOn ∧
    (timerRestart m s).run.insOn = s.run.insOn ∧ (timerRestart m s).run.elected = s.run.elected ∧
    (timerRestart m s).run.step = s.run.step ∧ (timerRestart m s).run.halt = s.run.halt ∧
    (timerRestart m s).run.sweepStage = s.run.sweepStage ∧ (timerRestart m s).run.driveNet = s.run.driveNet ∧
    (timerRestart m s).run.settleWait = s.run.settleWait ∧ (timerRestart m s).run.driveDone = s.run.driveDone ∧
    (timerRestart m s).run.insStage = s.run.insStage ∧ (timerRestart m s).run.watch1 = s.run.watch1 ∧
    (timerRestart m s).run.watch2 = s.run.watch2 ∧ (timerRestart m s).params = s.params ∧
    (timerRestart m s).netMap = s.netMap ∧ (timerRestart m s).hv = s.hv ∧ (timerRestart m s).defects = s.defects ∧
    (timerRestart m s).print = s.print ∧ (timerRestart m s).decoder = s.decoder := by
  simp [timerRestart]

/-- `timerStop` changes the step timer alone. -/
@[simp] theorem timerStop_frame (s : State) :
    (timerStop s).pending = s.pending ∧ (timerStop s).straps = s.straps ∧ (timerStop s).bus = s.bus ∧
    (timerStop s).lines = s.lines ∧ (timerStop s).points = s.points ∧ (timerStop s).blocks = s.blocks ∧
    (timerStop s).matrix = s.matrix ∧ (timerStop s).sampler = s.sampler ∧ (timerStop s).run.state = s.run.state ∧
    (timerStop s).run.number = s.run.number ∧ (timerStop s).run.sweepOn = s.run.sweepOn ∧
    (timerStop s).run.insOn = s.run.insOn ∧ (timerStop s).run.elected = s.run.elected ∧
    (timerStop s).run.step = s.run.step ∧ (timerStop s).run.halt = s.run.halt ∧
    (timerStop s).run.sweepStage = s.run.sweepStage ∧ (timerStop s).run.driveNet = s.run.driveNet ∧
    (timerStop s).run.settleWait = s.run.settleWait ∧ (timerStop s).run.driveDone = s.run.driveDone ∧
    (timerStop s).run.insStage = s.run.insStage ∧ (timerStop s).run.watch1 = s.run.watch1 ∧
    (timerStop s).run.watch2 = s.run.watch2 ∧ (timerStop s).params = s.params ∧ (timerStop s).netMap = s.netMap ∧
    (timerStop s).hv = s.hv ∧ (timerStop s).defects = s.defects ∧ (timerStop s).print = s.print ∧
    (timerStop s).decoder = s.decoder := by
  simp [timerStop]

/-- `holdRises` changes the line as seen and the step timer. -/
@[simp] theorem holdRises_frame (s : State) :
    (holdRises s).pending = s.pending ∧ (holdRises s).straps = s.straps ∧ (holdRises s).bus = s.bus ∧
    (holdRises s).lines.holdOut = s.lines.holdOut ∧ (holdRises s).lines.liveOut = s.lines.liveOut ∧
    (holdRises s).lines.liveSeen = s.lines.liveSeen ∧ (holdRises s).lines.estop = s.lines.estop ∧
    (holdRises s).points = s.points ∧ (holdRises s).blocks = s.blocks ∧ (holdRises s).matrix = s.matrix ∧
    (holdRises s).sampler = s.sampler ∧ (holdRises s).run.state = s.run.state ∧
    (holdRises s).run.number = s.run.number ∧ (holdRises s).run.sweepOn = s.run.sweepOn ∧
    (holdRises s).run.insOn = s.run.insOn ∧ (holdRises s).run.elected = s.run.elected ∧
    (holdRises s).run.step = s.run.step ∧ (holdRises s).run.halt = s.run.halt ∧
    (holdRises s).run.sweepStage = s.run.sweepStage ∧ (holdRises s).run.driveNet = s.run.driveNet ∧
    (holdRises s).run.settleWait = s.run.settleWait ∧ (holdRises s).run.driveDone = s.run.driveDone ∧
    (holdRises s).run.insStage = s.run.insStage ∧ (holdRises s).run.watch1 = s.run.watch1 ∧
    (holdRises s).run.watch2 = s.run.watch2 ∧ (holdRises s).params = s.params ∧ (holdRises s).netMap = s.netMap ∧
    (holdRises s).hv = s.hv ∧ (holdRises s).defects = s.defects ∧ (holdRises s).print = s.print ∧
    (holdRises s).decoder = s.decoder := by
  rw [holdRises_only]; simp

/-- `liveRises` changes the line as seen and the step timer. -/
@[simp] theorem liveRises_frame (s : State) :
    (liveRises s).pending = s.pending ∧ (liveRises s).straps = s.straps ∧ (liveRises s).bus = s.bus ∧
    (liveRises s).lines.holdOut = s.lines.holdOut ∧ (liveRises s).lines.holdSeen = s.lines.holdSeen ∧
    (liveRises s).lines.liveOut = s.lines.liveOut ∧ (liveRises s).lines.estop = s.lines.estop ∧
    (liveRises s).points = s.points ∧ (liveRises s).blocks = s.blocks ∧ (liveRises s).matrix = s.matrix ∧
    (liveRises s).sampler = s.sampler ∧ (liveRises s).run.state = s.run.state ∧
    (liveRises s).run.number = s.run.number ∧ (liveRises s).run.sweepOn = s.run.sweepOn ∧
    (liveRises s).run.insOn = s.run.insOn ∧ (liveRises s).run.elected = s.run.elected ∧
    (liveRises s).run.step = s.run.step ∧ (liveRises s).run.halt = s.run.halt ∧
    (liveRises s).run.sweepStage = s.run.sweepStage ∧ (liveRises s).run.driveNet = s.run.driveNet ∧
    (liveRises s).run.settleWait = s.run.settleWait ∧ (liveRises s).run.driveDone = s.run.driveDone ∧
    (liveRises s).run.insStage = s.run.insStage ∧ (liveRises s).run.watch1 = s.run.watch1 ∧
    (liveRises s).run.watch2 = s.run.watch2 ∧ (liveRises s).params = s.params ∧ (liveRises s).netMap = s.netMap ∧
    (liveRises s).hv = s.hv ∧ (liveRises s).defects = s.defects ∧ (liveRises s).print = s.print ∧
    (liveRises s).decoder = s.decoder := by
  rw [liveRises_only]; simp

/-- `assertHold` changes HOLD, the step timer and the slot (R174, R77). -/
@[simp] theorem assertHold_frame (s : State) :
    (assertHold s).pending = s.pending ∧ (assertHold s).straps = s.straps ∧ (assertHold s).bus.held = s.bus.held ∧
    (assertHold s).bus.resetCount = s.bus.resetCount ∧ (assertHold s).bus.integrated = s.bus.integrated ∧
    (assertHold s).bus.errors = s.bus.errors ∧ (assertHold s).bus.silent = s.bus.silent ∧
    (assertHold s).bus.window = s.bus.window ∧ (assertHold s).bus.errDriven = s.bus.errDriven ∧
    (assertHold s).bus.vetoDriven = s.bus.vetoDriven ∧ (assertHold s).lines.liveOut = s.lines.liveOut ∧
    (assertHold s).lines.liveSeen = s.lines.liveSeen ∧ (assertHold s).lines.estop = s.lines.estop ∧
    (assertHold s).points = s.points ∧ (assertHold s).blocks = s.blocks ∧ (assertHold s).matrix = s.matrix ∧
    (assertHold s).sampler = s.sampler ∧ (assertHold s).run.state = s.run.state ∧
    (assertHold s).run.number = s.run.number ∧ (assertHold s).run.sweepOn = s.run.sweepOn ∧
    (assertHold s).run.insOn = s.run.insOn ∧ (assertHold s).run.elected = s.run.elected ∧
    (assertHold s).run.step = s.run.step ∧ (assertHold s).run.halt = s.run.halt ∧
    (assertHold s).run.sweepStage = s.run.sweepStage ∧ (assertHold s).run.driveNet = s.run.driveNet ∧
    (assertHold s).run.settleWait = s.run.settleWait ∧ (assertHold s).run.driveDone = s.run.driveDone ∧
    (assertHold s).run.insStage = s.run.insStage ∧ (assertHold s).run.watch1 = s.run.watch1 ∧
    (assertHold s).run.watch2 = s.run.watch2 ∧ (assertHold s).params = s.params ∧ (assertHold s).netMap = s.netMap ∧
    (assertHold s).hv = s.hv ∧ (assertHold s).defects = s.defects ∧ (assertHold s).print = s.print ∧
    (assertHold s).decoder = s.decoder := by
  unfold assertHold; simp only; split <;> (try split) <;> simp

/-- `assertLive` changes LIVE and the step timer (R77). -/
@[simp] theorem assertLive_frame (s : State) :
    (assertLive s).pending = s.pending ∧ (assertLive s).straps = s.straps ∧ (assertLive s).bus = s.bus ∧
    (assertLive s).lines.holdOut = s.lines.holdOut ∧ (assertLive s).lines.holdSeen = s.lines.holdSeen ∧
    (assertLive s).lines.estop = s.lines.estop ∧ (assertLive s).points = s.points ∧
    (assertLive s).blocks = s.blocks ∧ (assertLive s).matrix = s.matrix ∧ (assertLive s).sampler = s.sampler ∧
    (assertLive s).run.state = s.run.state ∧ (assertLive s).run.number = s.run.number ∧
    (assertLive s).run.sweepOn = s.run.sweepOn ∧ (assertLive s).run.insOn = s.run.insOn ∧
    (assertLive s).run.elected = s.run.elected ∧ (assertLive s).run.step = s.run.step ∧
    (assertLive s).run.halt = s.run.halt ∧ (assertLive s).run.sweepStage = s.run.sweepStage ∧
    (assertLive s).run.driveNet = s.run.driveNet ∧ (assertLive s).run.settleWait = s.run.settleWait ∧
    (assertLive s).run.driveDone = s.run.driveDone ∧ (assertLive s).run.insStage = s.run.insStage ∧
    (assertLive s).run.watch1 = s.run.watch1 ∧ (assertLive s).run.watch2 = s.run.watch2 ∧
    (assertLive s).params = s.params ∧ (assertLive s).netMap = s.netMap ∧ (assertLive s).hv = s.hv ∧
    (assertLive s).defects = s.defects ∧ (assertLive s).print = s.print ∧ (assertLive s).decoder = s.decoder := by
  unfold assertLive; simp only; split <;> (try split) <;> simp

/-- Storing or losing an offer changes the list, and for LIST_FULL the status and the slot. -/
@[simp] theorem storeOffer_frame (d : Defect) (s : State) :
    (storeOffer d s).pending = s.pending ∧ (storeOffer d s).straps = s.straps ∧
    (storeOffer d s).bus.held = s.bus.held ∧ (storeOffer d s).bus.resetCount = s.bus.resetCount ∧
    (storeOffer d s).bus.integrated = s.bus.integrated ∧ (storeOffer d s).bus.errors = s.bus.errors ∧
    (storeOffer d s).bus.silent = s.bus.silent ∧ (storeOffer d s).bus.window = s.bus.window ∧
    (storeOffer d s).bus.errDriven = s.bus.errDriven ∧ (storeOffer d s).bus.vetoDriven = s.bus.vetoDriven ∧
    (storeOffer d s).lines = s.lines ∧ (storeOffer d s).points = s.points ∧ (storeOffer d s).blocks = s.blocks ∧
    (storeOffer d s).matrix = s.matrix ∧ (storeOffer d s).sampler = s.sampler ∧ (storeOffer d s).run = s.run ∧
    (storeOffer d s).params = s.params ∧ (storeOffer d s).netMap = s.netMap ∧ (storeOffer d s).hv = s.hv ∧
    (storeOffer d s).print = s.print ∧ (storeOffer d s).decoder.ctx = s.decoder.ctx ∧
    (storeOffer d s).decoder.mask = s.decoder.mask ∧ (storeOffer d s).decoder.summary = s.decoder.summary := by
  unfold storeOffer; split <;> simp

/-- An offer changes the list, and for LIST_FULL the status and the slot (R141). -/
@[simp] theorem offer_frame (d : Defect) (s : State) :
    (offer d s).pending = s.pending ∧ (offer d s).straps = s.straps ∧ (offer d s).bus.held = s.bus.held ∧
    (offer d s).bus.resetCount = s.bus.resetCount ∧ (offer d s).bus.integrated = s.bus.integrated ∧
    (offer d s).bus.errors = s.bus.errors ∧ (offer d s).bus.silent = s.bus.silent ∧
    (offer d s).bus.window = s.bus.window ∧ (offer d s).bus.errDriven = s.bus.errDriven ∧
    (offer d s).bus.vetoDriven = s.bus.vetoDriven ∧ (offer d s).lines = s.lines ∧ (offer d s).points = s.points ∧
    (offer d s).blocks = s.blocks ∧ (offer d s).matrix = s.matrix ∧ (offer d s).sampler = s.sampler ∧
    (offer d s).run = s.run ∧ (offer d s).params = s.params ∧ (offer d s).netMap = s.netMap ∧ (offer d s).hv = s.hv ∧
    (offer d s).print = s.print ∧ (offer d s).decoder.ctx = s.decoder.ctx ∧
    (offer d s).decoder.mask = s.decoder.mask ∧ (offer d s).decoder.summary = s.decoder.summary := by
  unfold offer; split <;> (try split) <;> (try split) <;> simp [replaceLeakage]

/-- A list of offers changes the list, and for LIST_FULL the status and the slot (R140). -/
@[simp] theorem offerAll_frame (ds : List Defect) (s : State) :
    (offerAll ds s).pending = s.pending ∧ (offerAll ds s).straps = s.straps ∧ (offerAll ds s).bus.held = s.bus.held ∧
    (offerAll ds s).bus.resetCount = s.bus.resetCount ∧ (offerAll ds s).bus.integrated = s.bus.integrated ∧
    (offerAll ds s).bus.errors = s.bus.errors ∧ (offerAll ds s).bus.silent = s.bus.silent ∧
    (offerAll ds s).bus.window = s.bus.window ∧ (offerAll ds s).bus.errDriven = s.bus.errDriven ∧
    (offerAll ds s).bus.vetoDriven = s.bus.vetoDriven ∧ (offerAll ds s).lines = s.lines ∧
    (offerAll ds s).points = s.points ∧ (offerAll ds s).blocks = s.blocks ∧ (offerAll ds s).matrix = s.matrix ∧
    (offerAll ds s).sampler = s.sampler ∧ (offerAll ds s).run = s.run ∧ (offerAll ds s).params = s.params ∧
    (offerAll ds s).netMap = s.netMap ∧ (offerAll ds s).hv = s.hv ∧ (offerAll ds s).print = s.print ∧
    (offerAll ds s).decoder.ctx = s.decoder.ctx ∧ (offerAll ds s).decoder.mask = s.decoder.mask ∧
    (offerAll ds s).decoder.summary = s.decoder.summary := by
  induction ds generalizing s with
  | nil => simp [offerAll]
  | cons d ds ih => simpa [offerAll] using ih (offer d s)

/-- A batch request changes the points and the outstanding batches (R27). -/
@[simp] theorem requestBatch_frame (why : Purpose) (targets : List (Nat × Switch)) (s : State) :
    (requestBatch why targets s).pending = s.pending ∧ (requestBatch why targets s).straps = s.straps ∧
    (requestBatch why targets s).bus = s.bus ∧ (requestBatch why targets s).lines = s.lines ∧
    (requestBatch why targets s).blocks = s.blocks ∧
    (requestBatch why targets s).matrix.override = s.matrix.override ∧
    (requestBatch why targets s).sampler = s.sampler ∧ (requestBatch why targets s).run = s.run ∧
    (requestBatch why targets s).params = s.params ∧ (requestBatch why targets s).netMap = s.netMap ∧
    (requestBatch why targets s).hv = s.hv ∧ (requestBatch why targets s).defects = s.defects ∧
    (requestBatch why targets s).print = s.print ∧ (requestBatch why targets s).decoder = s.decoder := by
  rw [requestBatch_only]; simp

/-- `emptyBuffer` changes the Sampling Engine alone (R60). -/
@[simp] theorem emptyBuffer_frame (s : State) :
    (emptyBuffer s).pending = s.pending ∧ (emptyBuffer s).straps = s.straps ∧ (emptyBuffer s).bus = s.bus ∧
    (emptyBuffer s).lines = s.lines ∧ (emptyBuffer s).points = s.points ∧ (emptyBuffer s).blocks = s.blocks ∧
    (emptyBuffer s).matrix = s.matrix ∧ (emptyBuffer s).run = s.run ∧ (emptyBuffer s).params = s.params ∧
    (emptyBuffer s).netMap = s.netMap ∧ (emptyBuffer s).hv = s.hv ∧ (emptyBuffer s).defects = s.defects ∧
    (emptyBuffer s).print = s.print ∧ (emptyBuffer s).decoder = s.decoder := by
  simp [emptyBuffer]

/-- `abandonJob` changes the Sampling Engine alone (R62, R65). -/
@[simp] theorem abandonJob_frame (s : State) :
    (abandonJob s).pending = s.pending ∧ (abandonJob s).straps = s.straps ∧ (abandonJob s).bus = s.bus ∧
    (abandonJob s).lines = s.lines ∧ (abandonJob s).points = s.points ∧ (abandonJob s).blocks = s.blocks ∧
    (abandonJob s).matrix = s.matrix ∧ (abandonJob s).run = s.run ∧ (abandonJob s).params = s.params ∧
    (abandonJob s).netMap = s.netMap ∧ (abandonJob s).hv = s.hv ∧ (abandonJob s).defects = s.defects ∧
    (abandonJob s).print = s.print ∧ (abandonJob s).decoder = s.decoder := by
  unfold abandonJob; split <;> (try split) <;> simp

/-- What a run end leaves of the Sampling Engine (R60, R62, R65, R110). -/
theorem abandonJob_sampler (s : State) :
    (abandonJob s).sampler =
      if passCut s then { job := .free, offset := s.sampler.offset, buffer := List.replicate 256 none, ref := none }
      else { s.sampler with job := .free } := by
  unfold abandonJob passCut
  cases hj : s.sampler.job with
  | free =>
      cases hd : driverSettles s
      · simp only [Bool.false_eq_true, if_false, ← hj]
      · simp only [if_true, emptyBuffer, setSampler, hj]; rfl
  | calibrating => rfl
  | sampling n d => rfl

/-- The end of a pass changes the sweep stage, HOLD, the status and the slot (R96, R98). -/
@[simp] theorem afterPass_frame (s : State) :
    (afterPass s).pending = s.pending ∧ (afterPass s).straps = s.straps ∧ (afterPass s).bus.held = s.bus.held ∧
    (afterPass s).bus.resetCount = s.bus.resetCount ∧ (afterPass s).bus.integrated = s.bus.integrated ∧
    (afterPass s).bus.errors = s.bus.errors ∧ (afterPass s).bus.silent = s.bus.silent ∧
    (afterPass s).bus.window = s.bus.window ∧ (afterPass s).bus.errDriven = s.bus.errDriven ∧
    (afterPass s).bus.vetoDriven = s.bus.vetoDriven ∧ (afterPass s).lines.holdSeen = s.lines.holdSeen ∧
    (afterPass s).lines.liveOut = s.lines.liveOut ∧ (afterPass s).lines.liveSeen = s.lines.liveSeen ∧
    (afterPass s).lines.estop = s.lines.estop ∧ (afterPass s).points = s.points ∧ (afterPass s).blocks = s.blocks ∧
    (afterPass s).matrix = s.matrix ∧ (afterPass s).sampler = s.sampler ∧ (afterPass s).run.state = s.run.state ∧
    (afterPass s).run.number = s.run.number ∧ (afterPass s).run.sweepOn = s.run.sweepOn ∧
    (afterPass s).run.insOn = s.run.insOn ∧ (afterPass s).run.elected = s.run.elected ∧
    (afterPass s).run.step = s.run.step ∧ (afterPass s).run.timer = s.run.timer ∧
    (afterPass s).run.halt = s.run.halt ∧ (afterPass s).run.driveNet = s.run.driveNet ∧
    (afterPass s).run.settleWait = s.run.settleWait ∧ (afterPass s).run.driveDone = s.run.driveDone ∧
    (afterPass s).run.insStage = s.run.insStage ∧ (afterPass s).run.watch1 = s.run.watch1 ∧
    (afterPass s).run.watch2 = s.run.watch2 ∧ (afterPass s).params = s.params ∧ (afterPass s).netMap = s.netMap ∧
    (afterPass s).hv = s.hv ∧ (afterPass s).defects = s.defects ∧ (afterPass s).print = s.print ∧
    (afterPass s).decoder.ctx = s.decoder.ctx ∧ (afterPass s).decoder.mask = s.decoder.mask ∧
    (afterPass s).decoder.summary = s.decoder.summary := by
  unfold afterPass releaseAfterPass
  simp only
  split
  · simp
  · split <;> split <;> split <;> (try split) <;> simp

/-- A pass command changes the sweep stage and the Sampling Engine, and what the end of a pass changes. -/
@[simp] theorem commandPass_frame (s : State) :
    (commandPass s).pending = s.pending ∧ (commandPass s).straps = s.straps ∧ (commandPass s).bus.held = s.bus.held ∧
    (commandPass s).bus.resetCount = s.bus.resetCount ∧ (commandPass s).bus.integrated = s.bus.integrated ∧
    (commandPass s).bus.errors = s.bus.errors ∧ (commandPass s).bus.silent = s.bus.silent ∧
    (commandPass s).bus.window = s.bus.window ∧ (commandPass s).bus.errDriven = s.bus.errDriven ∧
    (commandPass s).bus.vetoDriven = s.bus.vetoDriven ∧ (commandPass s).lines.holdSeen = s.lines.holdSeen ∧
    (commandPass s).lines.liveOut = s.lines.liveOut ∧ (commandPass s).lines.liveSeen = s.lines.liveSeen ∧
    (commandPass s).lines.estop = s.lines.estop ∧ (commandPass s).points = s.points ∧
    (commandPass s).blocks = s.blocks ∧ (commandPass s).matrix = s.matrix ∧ (commandPass s).run.state = s.run.state ∧
    (commandPass s).run.number = s.run.number ∧ (commandPass s).run.sweepOn = s.run.sweepOn ∧
    (commandPass s).run.insOn = s.run.insOn ∧ (commandPass s).run.elected = s.run.elected ∧
    (commandPass s).run.step = s.run.step ∧ (commandPass s).run.timer = s.run.timer ∧
    (commandPass s).run.halt = s.run.halt ∧ (commandPass s).run.driveNet = s.run.driveNet ∧
    (commandPass s).run.settleWait = s.run.settleWait ∧ (commandPass s).run.driveDone = s.run.driveDone ∧
    (commandPass s).run.insStage = s.run.insStage ∧ (commandPass s).run.watch1 = s.run.watch1 ∧
    (commandPass s).run.watch2 = s.run.watch2 ∧ (commandPass s).params = s.params ∧
    (commandPass s).netMap = s.netMap ∧ (commandPass s).hv = s.hv ∧ (commandPass s).defects = s.defects ∧
    (commandPass s).print = s.print ∧ (commandPass s).decoder.ctx = s.decoder.ctx ∧
    (commandPass s).decoder.mask = s.decoder.mask ∧ (commandPass s).decoder.summary = s.decoder.summary := by
  unfold commandPass; simp only; split <;> simp

/-- A report changes stages, HOLD, the Sampling Engine, the status and the slot (R28). -/
@[simp] theorem report_frame (s : State) (why : Purpose) :
    (report s why).pending = s.pending ∧ (report s why).straps = s.straps ∧ (report s why).bus.held = s.bus.held ∧
    (report s why).bus.resetCount = s.bus.resetCount ∧ (report s why).bus.integrated = s.bus.integrated ∧
    (report s why).bus.errors = s.bus.errors ∧ (report s why).bus.silent = s.bus.silent ∧
    (report s why).bus.window = s.bus.window ∧ (report s why).bus.errDriven = s.bus.errDriven ∧
    (report s why).bus.vetoDriven = s.bus.vetoDriven ∧ (report s why).lines.holdSeen = s.lines.holdSeen ∧
    (report s why).lines.liveOut = s.lines.liveOut ∧ (report s why).lines.liveSeen = s.lines.liveSeen ∧
    (report s why).lines.estop = s.lines.estop ∧ (report s why).points = s.points ∧
    (report s why).blocks = s.blocks ∧ (report s why).matrix = s.matrix ∧ (report s why).run.state = s.run.state ∧
    (report s why).run.number = s.run.number ∧ (report s why).run.sweepOn = s.run.sweepOn ∧
    (report s why).run.insOn = s.run.insOn ∧ (report s why).run.elected = s.run.elected ∧
    (report s why).run.step = s.run.step ∧ (report s why).run.timer = s.run.timer ∧
    (report s why).run.halt = s.run.halt ∧ (report s why).run.driveNet = s.run.driveNet ∧
    (report s why).run.settleWait = s.run.settleWait ∧ (report s why).run.watch1 = s.run.watch1 ∧
    (report s why).run.watch2 = s.run.watch2 ∧ (report s why).params = s.params ∧ (report s why).netMap = s.netMap ∧
    (report s why).hv = s.hv ∧ (report s why).defects = s.defects ∧ (report s why).print = s.print ∧
    (report s why).decoder.ctx = s.decoder.ctx ∧ (report s why).decoder.mask = s.decoder.mask ∧
    (report s why).decoder.summary = s.decoder.summary := by
  unfold report prepareDone
  split
  all_goals ((try simp only); (try split) <;> (try simp only) <;> (try split) <;> simp)

/-- The batches left after the complete ones are taken (R28). -/
@[simp] theorem takeComplete_fields (s : State) :
    (takeComplete s).2 = setBatches (s.matrix.batches.filter fun b => !b.left.isEmpty) s := rfl

/-- Reports change what one report changes. -/
@[simp] theorem reports_frame (ps : List Purpose) (s : State) :
    (ps.foldl report s).pending = s.pending ∧ (ps.foldl report s).straps = s.straps ∧
    (ps.foldl report s).bus.held = s.bus.held ∧ (ps.foldl report s).bus.resetCount = s.bus.resetCount ∧
    (ps.foldl report s).bus.integrated = s.bus.integrated ∧ (ps.foldl report s).bus.errors = s.bus.errors ∧
    (ps.foldl report s).bus.silent = s.bus.silent ∧ (ps.foldl report s).bus.window = s.bus.window ∧
    (ps.foldl report s).bus.errDriven = s.bus.errDriven ∧ (ps.foldl report s).bus.vetoDriven = s.bus.vetoDriven ∧
    (ps.foldl report s).lines.holdSeen = s.lines.holdSeen ∧ (ps.foldl report s).lines.liveOut = s.lines.liveOut ∧
    (ps.foldl report s).lines.liveSeen = s.lines.liveSeen ∧ (ps.foldl report s).lines.estop = s.lines.estop ∧
    (ps.foldl report s).points = s.points ∧ (ps.foldl report s).blocks = s.blocks ∧
    (ps.foldl report s).matrix = s.matrix ∧ (ps.foldl report s).run.state = s.run.state ∧
    (ps.foldl report s).run.number = s.run.number ∧ (ps.foldl report s).run.sweepOn = s.run.sweepOn ∧
    (ps.foldl report s).run.insOn = s.run.insOn ∧ (ps.foldl report s).run.elected = s.run.elected ∧
    (ps.foldl report s).run.step = s.run.step ∧ (ps.foldl report s).run.timer = s.run.timer ∧
    (ps.foldl report s).run.halt = s.run.halt ∧ (ps.foldl report s).run.driveNet = s.run.driveNet ∧
    (ps.foldl report s).run.settleWait = s.run.settleWait ∧ (ps.foldl report s).run.watch1 = s.run.watch1 ∧
    (ps.foldl report s).run.watch2 = s.run.watch2 ∧ (ps.foldl report s).params = s.params ∧
    (ps.foldl report s).netMap = s.netMap ∧ (ps.foldl report s).hv = s.hv ∧ (ps.foldl report s).defects = s.defects ∧
    (ps.foldl report s).print = s.print ∧ (ps.foldl report s).decoder.ctx = s.decoder.ctx ∧
    (ps.foldl report s).decoder.mask = s.decoder.mask ∧ (ps.foldl report s).decoder.summary = s.decoder.summary := by
  induction ps generalizing s with
  | nil => simp
  | cons p ps ih => simpa using ih (report s p)

/-- Reporting every complete batch changes what a report changes, and the batches. -/
@[simp] theorem reportAll_frame (s : State) :
    (reportAll s).pending = s.pending ∧ (reportAll s).straps = s.straps ∧ (reportAll s).bus.held = s.bus.held ∧
    (reportAll s).bus.resetCount = s.bus.resetCount ∧ (reportAll s).bus.integrated = s.bus.integrated ∧
    (reportAll s).bus.errors = s.bus.errors ∧ (reportAll s).bus.silent = s.bus.silent ∧
    (reportAll s).bus.window = s.bus.window ∧ (reportAll s).bus.errDriven = s.bus.errDriven ∧
    (reportAll s).bus.vetoDriven = s.bus.vetoDriven ∧ (reportAll s).lines.holdSeen = s.lines.holdSeen ∧
    (reportAll s).lines.liveOut = s.lines.liveOut ∧ (reportAll s).lines.liveSeen = s.lines.liveSeen ∧
    (reportAll s).lines.estop = s.lines.estop ∧ (reportAll s).points = s.points ∧ (reportAll s).blocks = s.blocks ∧
    (reportAll s).matrix.override = s.matrix.override ∧ (reportAll s).run.state = s.run.state ∧
    (reportAll s).run.number = s.run.number ∧ (reportAll s).run.sweepOn = s.run.sweepOn ∧
    (reportAll s).run.insOn = s.run.insOn ∧ (reportAll s).run.elected = s.run.elected ∧
    (reportAll s).run.step = s.run.step ∧ (reportAll s).run.timer = s.run.timer ∧
    (reportAll s).run.halt = s.run.halt ∧ (reportAll s).run.driveNet = s.run.driveNet ∧
    (reportAll s).run.settleWait = s.run.settleWait ∧ (reportAll s).run.watch1 = s.run.watch1 ∧
    (reportAll s).run.watch2 = s.run.watch2 ∧ (reportAll s).params = s.params ∧ (reportAll s).netMap = s.netMap ∧
    (reportAll s).hv = s.hv ∧ (reportAll s).defects = s.defects ∧ (reportAll s).print = s.print ∧
    (reportAll s).decoder.ctx = s.decoder.ctx ∧ (reportAll s).decoder.mask = s.decoder.mask ∧
    (reportAll s).decoder.summary = s.decoder.summary := by
  unfold reportAll; simp

/-- A batch changes the points, the batches and what a report changes. -/
@[simp] theorem batch_frame (why : Purpose) (targets : List (Nat × Switch)) (s : State) :
    (batch why targets s).pending = s.pending ∧ (batch why targets s).straps = s.straps ∧
    (batch why targets s).bus.held = s.bus.held ∧ (batch why targets s).bus.resetCount = s.bus.resetCount ∧
    (batch why targets s).bus.integrated = s.bus.integrated ∧ (batch why targets s).bus.errors = s.bus.errors ∧
    (batch why targets s).bus.silent = s.bus.silent ∧ (batch why targets s).bus.window = s.bus.window ∧
    (batch why targets s).bus.errDriven = s.bus.errDriven ∧ (batch why targets s).bus.vetoDriven = s.bus.vetoDriven ∧
    (batch why targets s).lines.holdSeen = s.lines.holdSeen ∧ (batch why targets s).lines.liveOut = s.lines.liveOut ∧
    (batch why targets s).lines.liveSeen = s.lines.liveSeen ∧ (batch why targets s).lines.estop = s.lines.estop ∧
    (batch why targets s).blocks = s.blocks ∧ (batch why targets s).matrix.override = s.matrix.override ∧
    (batch why targets s).run.state = s.run.state ∧ (batch why targets s).run.number = s.run.number ∧
    (batch why targets s).run.sweepOn = s.run.sweepOn ∧ (batch why targets s).run.insOn = s.run.insOn ∧
    (batch why targets s).run.elected = s.run.elected ∧ (batch why targets s).run.step = s.run.step ∧
    (batch why targets s).run.timer = s.run.timer ∧ (batch why targets s).run.halt = s.run.halt ∧
    (batch why targets s).run.driveNet = s.run.driveNet ∧ (batch why targets s).run.settleWait = s.run.settleWait ∧
    (batch why targets s).run.watch1 = s.run.watch1 ∧ (batch why targets s).run.watch2 = s.run.watch2 ∧
    (batch why targets s).params = s.params ∧ (batch why targets s).netMap = s.netMap ∧
    (batch why targets s).hv = s.hv ∧ (batch why targets s).defects = s.defects ∧
    (batch why targets s).print = s.print ∧ (batch why targets s).decoder.ctx = s.decoder.ctx ∧
    (batch why targets s).decoder.mask = s.decoder.mask ∧
    (batch why targets s).decoder.summary = s.decoder.summary := by
  unfold batch; simp

/-- A batch moves the points by its request alone. -/
@[simp] theorem batch_points (why : Purpose) (targets : List (Nat × Switch)) (s : State) :
    (batch why targets s).points = (requestBatch why targets s).points := by
  unfold batch; simp

/-- A FLOAT batch changes what a batch changes. -/
@[simp] theorem floatAll_frame (why : Purpose) (s : State) :
    (floatAll why s).pending = s.pending ∧ (floatAll why s).straps = s.straps ∧
    (floatAll why s).bus.held = s.bus.held ∧ (floatAll why s).bus.resetCount = s.bus.resetCount ∧
    (floatAll why s).bus.integrated = s.bus.integrated ∧ (floatAll why s).bus.errors = s.bus.errors ∧
    (floatAll why s).bus.silent = s.bus.silent ∧ (floatAll why s).bus.window = s.bus.window ∧
    (floatAll why s).bus.errDriven = s.bus.errDriven ∧ (floatAll why s).bus.vetoDriven = s.bus.vetoDriven ∧
    (floatAll why s).lines.holdSeen = s.lines.holdSeen ∧ (floatAll why s).lines.liveOut = s.lines.liveOut ∧
    (floatAll why s).lines.liveSeen = s.lines.liveSeen ∧ (floatAll why s).lines.estop = s.lines.estop ∧
    (floatAll why s).blocks = s.blocks ∧ (floatAll why s).matrix.override = s.matrix.override ∧
    (floatAll why s).run.state = s.run.state ∧ (floatAll why s).run.number = s.run.number ∧
    (floatAll why s).run.sweepOn = s.run.sweepOn ∧ (floatAll why s).run.insOn = s.run.insOn ∧
    (floatAll why s).run.elected = s.run.elected ∧ (floatAll why s).run.step = s.run.step ∧
    (floatAll why s).run.timer = s.run.timer ∧ (floatAll why s).run.halt = s.run.halt ∧
    (floatAll why s).run.driveNet = s.run.driveNet ∧ (floatAll why s).run.settleWait = s.run.settleWait ∧
    (floatAll why s).run.watch1 = s.run.watch1 ∧ (floatAll why s).run.watch2 = s.run.watch2 ∧
    (floatAll why s).params = s.params ∧ (floatAll why s).netMap = s.netMap ∧ (floatAll why s).hv = s.hv ∧
    (floatAll why s).defects = s.defects ∧ (floatAll why s).print = s.print ∧
    (floatAll why s).decoder.ctx = s.decoder.ctx ∧ (floatAll why s).decoder.mask = s.decoder.mask ∧
    (floatAll why s).decoder.summary = s.decoder.summary := by
  unfold floatAll; simp

/-- Entering the following stage changes the Insulation Engine alone (R129). -/
@[simp] theorem enterFollowing_frame (s : State) :
    (enterFollowing s).pending = s.pending ∧ (enterFollowing s).straps = s.straps ∧ (enterFollowing s).bus = s.bus ∧
    (enterFollowing s).lines = s.lines ∧ (enterFollowing s).points = s.points ∧
    (enterFollowing s).blocks = s.blocks ∧ (enterFollowing s).matrix = s.matrix ∧
    (enterFollowing s).sampler = s.sampler ∧ (enterFollowing s).run = s.run ∧ (enterFollowing s).params = s.params ∧
    (enterFollowing s).netMap = s.netMap ∧ (enterFollowing s).defects = s.defects ∧
    (enterFollowing s).print = s.print ∧ (enterFollowing s).decoder = s.decoder := by
  unfold enterFollowing; split <;> simp

/-- A forced FLOAT changes the points and the batches (R31). -/
@[simp] theorem forcedFloat_frame (s : State) :
    (forcedFloat s).pending = s.pending ∧ (forcedFloat s).straps = s.straps ∧ (forcedFloat s).bus = s.bus ∧
    (forcedFloat s).lines = s.lines ∧ (forcedFloat s).blocks = s.blocks ∧
    (forcedFloat s).matrix.override = s.matrix.override ∧ (forcedFloat s).sampler = s.sampler ∧
    (forcedFloat s).run = s.run ∧ (forcedFloat s).params = s.params ∧ (forcedFloat s).netMap = s.netMap ∧
    (forcedFloat s).hv = s.hv ∧ (forcedFloat s).defects = s.defects ∧ (forcedFloat s).print = s.print ∧
    (forcedFloat s).decoder = s.decoder := by
  simp [forcedFloat]

/-- Stopping the summary timer changes it and the slot (R181). -/
@[simp] theorem stopSummary_frame (s : State) :
    (stopSummary s).pending = s.pending ∧ (stopSummary s).straps = s.straps ∧ (stopSummary s).bus.held = s.bus.held ∧
    (stopSummary s).bus.resetCount = s.bus.resetCount ∧ (stopSummary s).bus.integrated = s.bus.integrated ∧
    (stopSummary s).bus.errors = s.bus.errors ∧ (stopSummary s).bus.silent = s.bus.silent ∧
    (stopSummary s).bus.window = s.bus.window ∧ (stopSummary s).bus.errDriven = s.bus.errDriven ∧
    (stopSummary s).bus.vetoDriven = s.bus.vetoDriven ∧ (stopSummary s).lines = s.lines ∧
    (stopSummary s).points = s.points ∧ (stopSummary s).blocks = s.blocks ∧ (stopSummary s).matrix = s.matrix ∧
    (stopSummary s).sampler = s.sampler ∧ (stopSummary s).run = s.run ∧ (stopSummary s).params = s.params ∧
    (stopSummary s).netMap = s.netMap ∧ (stopSummary s).hv = s.hv ∧ (stopSummary s).defects = s.defects ∧
    (stopSummary s).print = s.print ∧ (stopSummary s).decoder.ctx = s.decoder.ctx ∧
    (stopSummary s).decoder.status = s.decoder.status ∧ (stopSummary s).decoder.mask = s.decoder.mask := by
  simp [stopSummary]

/-- A run end changes the run, the matrix, the jobs, the list, HOLD, the status and the slot (R83). -/
@[simp] theorem runEnd_frame (cause : Cause) (loc : Where) (s : State) :
    (runEnd cause loc s).pending = s.pending ∧ (runEnd cause loc s).straps = s.straps ∧
    (runEnd cause loc s).bus.held = s.bus.held ∧ (runEnd cause loc s).bus.resetCount = s.bus.resetCount ∧
    (runEnd cause loc s).bus.integrated = s.bus.integrated ∧ (runEnd cause loc s).bus.errors = s.bus.errors ∧
    (runEnd cause loc s).bus.silent = s.bus.silent ∧ (runEnd cause loc s).bus.errDriven = s.bus.errDriven ∧
    (runEnd cause loc s).bus.vetoDriven = s.bus.vetoDriven ∧ (runEnd cause loc s).lines.holdSeen = s.lines.holdSeen ∧
    (runEnd cause loc s).lines.liveOut = s.lines.liveOut ∧ (runEnd cause loc s).lines.liveSeen = s.lines.liveSeen ∧
    (runEnd cause loc s).lines.estop = s.lines.estop ∧ (runEnd cause loc s).blocks = s.blocks ∧
    (runEnd cause loc s).matrix.override = s.matrix.override ∧ (runEnd cause loc s).params = s.params ∧
    (runEnd cause loc s).netMap = s.netMap ∧ (runEnd cause loc s).print = s.print ∧
    (runEnd cause loc s).decoder.ctx = s.decoder.ctx ∧ (runEnd cause loc s).decoder.mask = s.decoder.mask := by
  unfold runEnd; simp only; split <;> simp

/-- The same, where a run is active. -/
@[simp] theorem endActiveRun_frame (cause : Cause) (s : State) :
    (endActiveRun cause s).pending = s.pending ∧ (endActiveRun cause s).straps = s.straps ∧
    (endActiveRun cause s).bus.held = s.bus.held ∧ (endActiveRun cause s).bus.resetCount = s.bus.resetCount ∧
    (endActiveRun cause s).bus.integrated = s.bus.integrated ∧ (endActiveRun cause s).bus.errors = s.bus.errors ∧
    (endActiveRun cause s).bus.silent = s.bus.silent ∧ (endActiveRun cause s).bus.errDriven = s.bus.errDriven ∧
    (endActiveRun cause s).bus.vetoDriven = s.bus.vetoDriven ∧
    (endActiveRun cause s).lines.holdSeen = s.lines.holdSeen ∧
    (endActiveRun cause s).lines.liveOut = s.lines.liveOut ∧
    (endActiveRun cause s).lines.liveSeen = s.lines.liveSeen ∧ (endActiveRun cause s).lines.estop = s.lines.estop ∧
    (endActiveRun cause s).blocks = s.blocks ∧ (endActiveRun cause s).matrix.override = s.matrix.override ∧
    (endActiveRun cause s).params = s.params ∧ (endActiveRun cause s).netMap = s.netMap ∧
    (endActiveRun cause s).print = s.print ∧ (endActiveRun cause s).decoder.ctx = s.decoder.ctx ∧
    (endActiveRun cause s).decoder.mask = s.decoder.mask := by
  unfold endActiveRun; split <;> simp

/-- A detection changes the block records, the status and the slot (R12, R13). -/
@[simp] theorem detect_frame (ids : IdCodes) (s : State) :
    (detect ids s).pending = s.pending ∧ (detect ids s).straps = s.straps ∧ (detect ids s).bus.held = s.bus.held ∧
    (detect ids s).bus.resetCount = s.bus.resetCount ∧ (detect ids s).bus.integrated = s.bus.integrated ∧
    (detect ids s).bus.errors = s.bus.errors ∧ (detect ids s).bus.silent = s.bus.silent ∧
    (detect ids s).bus.window = s.bus.window ∧ (detect ids s).bus.errDriven = s.bus.errDriven ∧
    (detect ids s).bus.vetoDriven = s.bus.vetoDriven ∧ (detect ids s).lines = s.lines ∧
    (detect ids s).points = s.points ∧ (detect ids s).matrix = s.matrix ∧ (detect ids s).sampler = s.sampler ∧
    (detect ids s).run = s.run ∧ (detect ids s).params = s.params ∧ (detect ids s).netMap = s.netMap ∧
    (detect ids s).hv = s.hv ∧ (detect ids s).defects = s.defects ∧ (detect ids s).print = s.print ∧
    (detect ids s).decoder.ctx = s.decoder.ctx ∧ (detect ids s).decoder.mask = s.decoder.mask ∧
    (detect ids s).decoder.summary = s.decoder.summary := by
  unfold detect
  split
  · simp
  · simp only; split <;> split <;> simp

end Sys2Proof.Machine
end

