-- ==== Sys2Proof/Laws/Defects.lean ====
section
/-! SUPPORT. What an offer can do to the Defect List: the outcomes of R141, and the order of keys. -/

namespace Sys2Proof.Machine

/-- The records after a placement: the new one and the old ones (R141). -/
theorem mem_insertRecord (r x : Record) (l : List Record) : x ∈ insertRecord r l ↔ x = r ∨ x ∈ l := by
  induction l with
  | nil => simp [insertRecord]
  | cons y l ih =>
      unfold insertRecord
      split
      · simp
      · simp only [List.mem_cons, ih]; tauto

/-- A placement adds one record (R141). -/
theorem length_insertRecord (r : Record) (l : List Record) : (insertRecord r l).length = l.length + 1 := by
  induction l with
  | nil => rfl
  | cons y l ih => unfold insertRecord; split <;> simp [ih]

/-- The order of identities is transitive. -/
theorem identLt_trans {x y z : Ident} (h : identLt x y = true) (k : identLt y z = true) : identLt x z = true := by
  simp only [identLt, Bool.or_eq_true, Bool.and_eq_true, decide_eq_true_eq, beq_iff_eq] at *
  omega

/-- Two different identities are ordered one way or the other. -/
theorem identLt_total {x y : Ident} (h : x ≠ y) : identLt x y = true ∨ identLt y x = true := by
  cases x; cases y
  simp only [identLt, Bool.or_eq_true, Bool.and_eq_true, decide_eq_true_eq, beq_iff_eq, ne_eq, Ident.mk.injEq] at *
  omega

/-- No identity comes before itself. -/
theorem identLt_irrefl (x : Ident) : identLt x x = false := by simp [identLt]

/-- A placement keeps the ascending order where no record of the same identity is held (R141). -/
theorem insertRecord_sorted (r : Record) (l : List Record)
    (h : l.Pairwise fun x y => identLt (identOf x.what) (identOf y.what) = true)
    (hn : ∀ x ∈ l, identOf x.what ≠ identOf r.what) :
    (insertRecord r l).Pairwise fun x y => identLt (identOf x.what) (identOf y.what) = true := by
  induction l with
  | nil => simp [insertRecord]
  | cons y l ih =>
      obtain ⟨hy, hl⟩ := List.pairwise_cons.1 h
      unfold insertRecord
      split
      · rename_i c
        refine List.pairwise_cons.2 ⟨fun x hx => ?_, h⟩
        rcases List.mem_cons.1 hx with rfl | hx
        · exact c
        · exact identLt_trans c (hy x hx)
      · rename_i c
        refine List.pairwise_cons.2 ⟨fun x hx => ?_, ih hl fun x hx => hn x (List.mem_cons_of_mem _ hx)⟩
        rcases (mem_insertRecord r x l).1 hx with rfl | hx
        · exact (identLt_total (hn y List.mem_cons_self)).resolve_right c
        · exact hy x hx

/-- The outcomes of an offer (R141): dropped, the replacement of R142, stored in place, or lost. -/
theorem offer_outcomes (d : Defect) (s : State) :
    offer d s = s ∨
    (∃ lo hi, d = .short lo hi ∧ holdsIdent s (identOf d) = false ∧
      holdsIdent s { order := 4, a := lo, b := hi } = true ∧ offer d s = replaceLeakage lo hi s) ∨
    (holdsIdent s (identOf d) = false ∧ offer d s = storeOffer d s) := by
  unfold offer
  split
  · exact .inl rfl
  · rename_i hn
    have hn' : holdsIdent s (identOf d) = false := by simpa using hn
    split
    · split
      · exact .inl rfl
      · exact .inr (.inr ⟨hn', rfl⟩)
    · rename_i lo hi
      split
      · rename_i hl; exact .inr (.inl ⟨lo, hi, rfl, hn', hl, rfl⟩)
      · exact .inr (.inr ⟨hn', rfl⟩)
    · exact .inr (.inr ⟨hn', rfl⟩)

end Sys2Proof.Machine
end

