-- ==== Sys2Proof/Laws/Delivery.lean ====
section
/-! SUPPORT. What a clean frame of another node brings to a station that takes frames (R42, R52, R168): the state on which
the command's own effect works, and the form in which a request is judged. -/

namespace Sys2Proof.Machine

/-- No entry of a sound slot has a kind that stations do not send (3.11, Kinds). -/
theorem slot_sends (s : State) (h : slotLawful s = true) (e : TxEntry) (he : e ∈ s.bus.slot) :
    stationSends (entryKind e) = true := by
  simp only [slotLawful, Bool.and_eq_true, List.all_eq_true] at h
  have := h.1.1.2 e he
  simp only [entryLawful, Bool.and_eq_true] at this
  exact this.1.1.1.1.2

/-- A frame of a kind that stations do not send is no frame of this station. -/
theorem isOwn_foreign (f : Frame) (s : State) (h : slotLawful s = true)
    (hk : stationSends (kindCode f.payload) = false) : isOwn f s = false := by
  unfold isOwn slotEntry
  split
  · rename_i e he
    have hm := List.mem_of_find?_eq_some he
    have hs := slot_sends s h e hm
    have : entryKind e = kindCode f.payload := by simpa using List.find?_some he
    rw [this, hk] at hs
    cases hs
  · rfl

/-- The frame beside a sound entry is of the entry's kind. -/
theorem beside_kind (a : Addr) (e : TxEntry) (f : Frame) (h : entryLawful a e = true) (hf : e.beside = some f) :
    kindCode f.payload = entryKind e := by
  simp only [entryLawful, Bool.and_eq_true, hf, Option.all_some, beq_iff_eq] at h
  exact h.2.2

/-- A NOTICE formed anew is a NOTICE (R179). -/
theorem besideFrame_kind (s : State) (f : Frame) : kindCode (besideFrame s f).payload = kindCode f.payload := by
  unfold besideFrame
  split
  · rename_i hp; rw [hp]; rfl
  · rfl

/-- What `afterFailure` leaves of a sound entry has the entry's kind, and is not begun. -/
theorem afterFailure_kind (s : State) (a : Addr) (e e' : TxEntry) (h : entryLawful a e = true)
    (he : afterFailure s e = some e') : entryKind e' = entryKind e ∧ e'.begun = false := by
  unfold afterFailure at he
  split at he
  · rename_i hb; cases he; exact ⟨rfl, by simpa using hb⟩
  · split at he
    · rename_i f hf
      cases he
      exact ⟨(besideFrame_kind s f).trans (beside_kind a e f h hf), rfl⟩
    · split at he
      · cases he
      · cases he; exact ⟨rfl, rfl⟩

/-- The mark that a pause has left on a begun frame does not bear on what becomes of it after ERR (R174; log entry 48). -/
theorem afterFailure_ignores_recall (s : State) (e : TxEntry) (b : Bool) (h : e.begun = true) :
    afterFailure s { e with recalled := b } = afterFailure s e := by
  simp [afterFailure, h]

/-- What `afterLoss` leaves of a sound entry has the entry's kind, and is not begun. -/
theorem afterLoss_kind (a : Addr) (e e' : TxEntry) (h : entryLawful a e = true) (he : afterLoss e = some e') :
    entryKind e' = entryKind e ∧ e'.begun = false := by
  unfold afterLoss at he
  split at he
  · rename_i hb; cases he; exact ⟨rfl, by simpa using hb⟩
  · split at he
    · rename_i f hf
      cases he
      exact ⟨beside_kind a e f h hf, rfl⟩
    · split at he
      · cases he
      · cases he; exact ⟨rfl, rfl⟩

/-- A frame end leaves no kind pending that was not pending, the transmitter's clean frame apart. -/
theorem notSent_kinds (s : State) (h : slotLawful s = true) (e : TxEntry) (he : e ∈ (notSent s).bus.slot) :
    ∃ x ∈ s.bus.slot, entryKind x = entryKind e := by
  have hm : ∃ y ∈ s.bus.slot.filterMap afterLoss, entryKind e = entryKind y := by
    unfold notSent pauseService at he
    split at he
    · obtain ⟨y, hy, hk, _⟩ := mem_dropUnbegun _ _ _ he
      exact ⟨y, hy, hk⟩
    · exact ⟨e, he, rfl⟩
  obtain ⟨y, hy, hk⟩ := hm
  obtain ⟨x, hx, hxe⟩ := List.mem_filterMap.1 hy
  simp only [slotLawful, Bool.and_eq_true, List.all_eq_true] at h
  exact ⟨x, hx, hk ▸ (afterLoss_kind _ x y (h.1.1.2 x hx) hxe).1.symm⟩

/-- A kind not pending is not pending after the frame end. -/
theorem notSent_hasPending (s : State) (h : slotLawful s = true) (k : Nat) (hk : hasPending s k = false) (b : Bus)
    (hb : b.slot = (notSent s).bus.slot) : hasPending { s with bus := b } k = false := by
  simp only [hasPending, slotEntry, Option.isSome_eq_false_iff, Option.isNone_iff_eq_none, List.find?_eq_none] at hk ⊢
  intro e he hek
  rw [show ({ s with bus := b } : State).bus.slot = (notSent s).bus.slot from hb] at he
  obtain ⟨x, hx, hxe⟩ := notSent_kinds s h e he
  exact hk x hx (by simpa [hxe] using hek)

/-- The state on which the effect of another node's clean frame works. -/
theorem frameEnd_foreign (f : Frame) (act : Bool → State → State) (s : State) (h : takesFrames s = true)
    (hw : noFirstFrame s = true) (hk : stationSends (kindCode f.payload) = false) :
    frameEnd f act s = act false { s with bus := heard s } := by
  simp only [takesFrames, listening, Bool.and_eq_true, Bool.not_eq_true'] at h
  have hc : isCandidate s = false := by simpa [isCandidate, noFirstFrame] using hw
  rw [frameEnd_takes f act s h.1.1 h.1.2, isOwn_foreign f s h.2 hk]
  have hv : vetoOf s f.payload = false := by
    cases hp : f.payload <;> simp [vetoOf]
    simp [hp, kindCode, stationSends] at hk
  simp only [hc, hv, Bool.false_eq_true, if_false]
  congr 1
  rw [notSent_only]
  rfl

/-- A request that the station takes as addressed. -/
theorem request_addressed (h : Header) (code : Nat) (act : Form → State → State) (s : State)
    (ht : takesAddressed h s = true) (hw : noFirstFrame s = true) :
    request h code act s = act .addressed { s with bus := heard s } := by
  simp only [takesAddressed, Bool.and_eq_true, bne_iff_ne, beq_iff_eq, Bool.not_eq_true', answerPending,
    Bool.or_eq_false_iff] at ht
  obtain ⟨⟨⟨⟨⟨h1, h2⟩, h3⟩, h4⟩, h5⟩, h6, h7⟩ := ht
  have hs : slotLawful s = true := by simp only [takesFrames, Bool.and_eq_true] at h1; exact h1.2
  unfold request
  rw [frameEnd_foreign _ _ s h1 hw rfl]
  have e9 := notSent_hasPending s hs 9 h6 (heard s) rfl
  have e10 := notSent_hasPending s hs 10 h7 (heard s) rfl
  have ha : addr { s with bus := heard s } = addr s := rfl
  have hb : (heard s).silent = s.bus.silent := rfl
  have e : formOf h { s with bus := heard s } = .addressed := by
    simp [formOf, answerPending, h2, h3, ha, hb, h4, h5, e9, e10]
  rw [e]

/-- A request that the station takes as a general call. -/
theorem request_general (h : Header) (code : Nat) (act : Form → State → State) (s : State)
    (ht : takesGeneral h s = true) (hw : noFirstFrame s = true) :
    request h code act s = act .general { s with bus := heard s } := by
  simp only [takesGeneral, Bool.and_eq_true, beq_iff_eq] at ht
  unfold request
  rw [frameEnd_foreign _ _ s ht.1.1 hw rfl]
  simp [formOf, ht.1.2, ht.2]

end Sys2Proof.Machine
end

