-- ==== Sys2Proof/WellFormed.lean ====
section
/-! DEFINITION. Well-formed commands: the operands a bus partner, a converter or a clock can bring. A term the check
refuses still has a meaning (`exec` is total); the check says which terms stand for something the manual
describes. It reads the kind table and the delivery table of 3.11 and R52 from the machine's own definitions. -/

namespace Sys2Proof

open Sys2Proof.Machine

/-- A destination of a request or an ABORT: a station or the general call (3.11, Kinds). -/
def wfStationDst (a : Addr) : Bool := isStation a || a == Config.generalCall

/-- The header of a REQUEST: from a console, to a station or to all (3.11, Kinds). -/
def wfHeader (h : Header) : Bool := isConsole h.src && wfStationDst h.dst

/-- The route of a run-protocol frame, LINE included: from a station, to all. -/
def wfRunRoute (r : Route) : Bool := isStation r.src && r.dst == Config.generalCall

/-- The route of an answer: from a station, to a console. -/
def wfAnswerRoute (r : Route) : Bool := isStation r.src && isConsole r.dst

/-- Whether a payload's length is one its kind allows (3.11, Kinds). -/
def wfLength (p : Payload) : Bool :=
  let n := (payloadBytes p).length
  decide ((lengthsOfKind (kindCode p)).1 ≤ n) && decide (n ≤ (lengthsOfKind (kindCode p)).2)

/-- Whether a frame is delivered to a block of a station at its frame end (R52). -/
def deliverable (f : Frame) : Bool :=
  match f.payload with
  | .abort => wfHeader { src := f.src, dst := f.dst, tag := 0 }
  | .request .. => wfHeader { src := f.src, dst := f.dst, tag := 0 }
  | .credit _ => f.src == Config.printerAddr && f.dst == Config.generalCall
  | .line .. => wfRunRoute { src := f.src, dst := f.dst }
  | .drive .. => wfRunRoute { src := f.src, dst := f.dst }
  | .ref .. => wfRunRoute { src := f.src, dst := f.dst }
  | .net .. => wfRunRoute { src := f.src, dst := f.dst }
  | .result .. => wfRunRoute { src := f.src, dst := f.dst }
  | .sourceReady .. => wfRunRoute { src := f.src, dst := f.dst }
  | .halted .. => wfRunRoute { src := f.src, dst := f.dst }
  | _ => false

/-- Whether a frame has a row of its own in the command table, by its kind. -/
def hasOwnRow (f : Frame) : Bool :=
  match f.payload with
  | .data .. => true
  | .answerEnd .. => true
  | _ => deliverable f

/-- Local indices in strictly ascending order below 256. -/
def wfIndices : List Nat → Bool
  | [] => true
  | [i] => decide (i < Config.pointCount)
  | i :: j :: rest => decide (i < j) && wfIndices (j :: rest)

/-- The conversions of a pass: ascending points, each with at most eight codes (R63). -/
def wfReadings (rs : List Reading) : Bool :=
  wfIndices (rs.map Reading.index) && rs.all fun r => decide (r.codes.length ≤ 8)

/-- The argument bytes each request kind uses (3.11, Request arguments). -/
def argumentBytes (code : Nat) : Nat :=
  match code with
  | 1 => 5
  | 2 => 8
  | 4 => 9
  | 5 => 25
  | 6 => 4
  | 7 => 1
  | 8 => 2
  | 10 => 6
  | 11 => 3
  | 12 => 1
  | 15 => 2
  | 16 => 4
  | 18 => 1
  | 19 => 2
  | 20 => 2
  | 22 => 1
  | _ => 0

/-- A request that has no row of its own: an unknown code, too few arguments (R169), an override value or a RESET scope
that names none (R35, R183; log entry 27). -/
def isUnknown (code : Byte) (args : List Byte) : Bool :=
  code == 0 || decide (22 < code.toNat) || decide (args.length < argumentBytes code.toNat)
    || (code == 12 && decide (2 < (args.headD 0).toNat))
    || (code == 22 && args.headD 0 != 1 && args.headD 0 != 2)

/-- A frame seen with ERR has as many payload bytes as its length gives, at most 48 (R46). -/
def wfRaw (r : RawFrame) : Bool := r.payload.length == min r.len.toNat Config.maxPayload

/-- Well-formed commands. -/
def wellFormed : Instr → Bool
  | .powerUp _ _ _ _ => true
  | .heldFrame f _ => wfLength f.payload
  | .estopAsserted => true
  | .estopReleased => true
  | .holdSeenAsserted => true
  | .holdSeenReleased _ => true
  | .liveSeenAsserted => true
  | .liveSeenReleased => true
  | .beginFrame => true
  | .frameErr seen => wfRaw seen
  | .otherCleanFrame f => wfLength f.payload && !hasOwnRow f
  | .bidWindowExpired => true
  | .abort r => wfHeader { src := r.src, dst := r.dst, tag := 0 }
  | .driveFrame r gp net =>
      wfRunRoute r && decide (gp.toNat ≤ Config.maxGp) && decide (1 ≤ net.toNat)
        && decide (net.toNat ≤ Config.pseudoBase + Config.maxGp)
  | .refFrame r gp code flags =>
      wfRunRoute r && decide (gp.toNat ≤ Config.maxGp) && decide (code.toNat ≤ Config.maxCode)
        && decide (flags.toNat ≤ 1)
  | .netFrame r n _ =>
      wfRunRoute r && decide (1 ≤ n.toNat) && decide (n.toNat ≤ Config.pseudoBase + Config.maxGp)
  | .resultFrame r _ verdict v _ ir _ =>
      wfRunRoute r && decide (verdict.toNat ≤ 4) && decide (v.toNat ≤ 1600) && decide (ir.toNat ≤ Config.maxIr)
  | .sourceReady r run => wfRunRoute r && run != 0
  | .halted r _ watch => wfRunRoute r && (watch == 1 || watch == 2)
  | .credit r _ => r.src == Config.printerAddr && r.dst == Config.generalCall
  | .line r _ text => wfRunRoute r && text.length == Config.maxPayload
  | .dataFrame r _ _ _ item => wfAnswerRoute r && decide (item.length ≤ 44)
  | .endFrame r _ _ _ mark => wfAnswerRoute r && decide (mark.toNat ≤ 1)
  | .delayedRequestService => true
  | .assignNet h _ _ _ => wfHeader h
  | .assignRange h _ _ _ _ _ => wfHeader h
  | .clearTable h => wfHeader h
  | .setBlocks h _ _ => wfHeader h
  | .runParameters h _ => wfHeader h
  | .profileSegment h _ _ _ => wfHeader h
  | .profileLength h _ => wfHeader h
  | .startRun h _ _ => wfHeader h
  | .continueRun h => wfHeader h
  | .setWatch h _ _ => wfHeader h
  | .setSwitch h _ _ => wfHeader h
  | .matrixOverrideFloat h => wfHeader h
  | .matrixOverrideReturn h => wfHeader h
  | .matrixOverrideOff h => wfHeader h
  | .print h => wfHeader h
  | .stopPrint h => wfHeader h
  | .queryPoint h _ => wfHeader h
  | .dumpPoints h _ _ => wfHeader h
  | .dumpDefects h => wfHeader h
  | .queryStatus h _ => wfHeader h
  | .clearEvents h _ => wfHeader h
  | .setNoticeMask h _ => wfHeader h
  | .cancel h => wfHeader h
  | .resetRun h _ => wfHeader h
  | .resetFull h _ => wfHeader h
  | .unknownRequest h code args => wfHeader h && decide (args.length ≤ 46) && isUnknown code args
  | .stepTimeout => true
  | .stallTimerExpiry => true
  | .summaryTimerExpiry => true
  | .breakTimeEnd points => wfIndices points
  | .settleTimeEnd points => wfIndices points
  | .settleWaitEnd => true
  | .calibrationComplete _ => true
  | .samplingPassComplete readings => wfReadings readings
  | .rampMillisecond _ _ => true
  | .rampEnd => true
  | .checkReading _ _ => true
  | .undervolt => true
  | .dwellMillisecond _ _ => true
  | .dwellEnd _ => true
  | .dischargeReading _ => true
  | .dischargeFault => true
  | .followingReading _ => true
  | .busIntegration => true

end Sys2Proof
end

