-- ==== Sys2Proof/Tests/Slice0.lean ====
section
/-! SUPPORT. The model's own tests: terms the well-formedness check refuses, the manual's worked examples (each cites its
table), and for every statement with hypotheses a concrete state and operands that meet them all. -/

-- One theorem after another: a kernel check that waits for the one before it holds a thread meanwhile.
set_option Elab.async false

namespace Sys2Proof.Tests

open Sys2Proof Sys2Proof.Machine

/-! ## The stations the tests use -/

/-- The state a command leaves. -/
def after (c : Instr) (s : State) : State :=
  match exec c s with
  | .next t => t
  | _ => s

/-- Station 2, strapped HVSRC, in HELD. -/
def heldStation : State := State.atPowerUp ⟨2, false, true, true⟩ false false false

/-- Station 2 released, IDLE, with every block HV32. -/
def idle : State :=
  { State.atPowerUp ⟨2, false, true, false⟩ false false false with
    bus := { Bus.powerUp with held := false, integrated := true }
    blocks := { Blocks.powerUp with records := List.replicate 8 { code := none, band := none, kind := .hv32 } } }

/-- An active run of station 2, with its timer running. -/
def active (r : RunState) : State :=
  { idle with
    run := { Run.powerUp with
      state := r, number := 12, elected := some 2, timer := { mode := .running, elapsed := 3, limit := 500 } }
    decoder := { idle.decoder with summary := some 5 } }

/-- The sweep in a stage, at gp 513 of station 2 and drive net 30. -/
def sweep (g : SweepStage) : State :=
  let s := active .sweep
  { s with run := { s.run with sweepStage := g, step := .point 513 2, driveNet := 30 } }

/-- The insulation check in a stage, at net 40. -/
def insulation (g : InsStage) : State :=
  let s := active .insulate
  { s with run := { s.run with insStage := g, step := .net 40 } }

/-- With HOLD seen asserted, and the own output as given. -/
def holding (own : Bool) (s : State) : State := { s with lines := { s.lines with holdSeen := true, holdOut := own } }

/-- With a bid window whose first frame is awaited. -/
def bidding (s : State) : State := { s with bus := { s.bus with window := .running false } }

/-- With the step timer at its limit. -/
def atLimit (s : State) : State :=
  { s with run := { s.run with timer := { s.run.timer with elapsed := s.run.timer.limit } } }

/-- With an entry in the transmit slot. -/
def pendingFrame (begun : Bool) (dst : Addr) (p : Payload) (s : State) : State :=
  { s with bus := { s.bus with
    slot := [{ frame := ownFrame s dst p, begun := begun, doomed := false, beside := none }] } }

/-- With the first points as given. -/
def withPoints (ps : List Point) (s : State) : State := { s with points := ps ++ s.points.drop ps.length }

/-- A point at rest with a net. -/
def restPoint (net : Nat) (sw : Switch) : Point := { Point.powerUp with net := net, switch := sw }

/-- The engine in a stage with settings of 500 V, profile TWO-STAGE and a dwell of 12 ms with W = 8 in PEAK mode. -/
def engine (g : HvStage) (hven : Bool) (s : State) : State :=
  { s with hv := { s.hv with
    elected := true, stage := g, hven := hven
    settings := some ⟨500, [⟨50, 200⟩, ⟨50, 500⟩, ⟨100, 200⟩], 12, 8, true, 20000, 100⟩
    result := some ⟨.pass, 499, 125, 3992, 912⟩ } }

/-- A console's header to station 2, and as a general call. -/
def toStation : Header := ⟨28, 2, 9⟩
def toAll : Header := ⟨28, 31, 9⟩

/-- A route of a run-protocol frame from station 2. -/
def fromTwo : Route := ⟨2, 31⟩

/-! ## Well-formedness refuses -/

theorem wf_refuses_header_from_station : wellFormed (.clearTable ⟨3, 2, 0⟩) = false := by decide
theorem wf_refuses_header_to_printer : wellFormed (.clearTable ⟨28, 30, 0⟩) = false := by decide
theorem wf_refuses_abort_from_station : wellFormed (.abort ⟨3, 31⟩) = false := by decide
theorem wf_refuses_drive_route : wellFormed (.driveFrame ⟨28, 31⟩ 0 1) = false := by decide
theorem wf_refuses_drive_gp : wellFormed (.driveFrame ⟨2, 31⟩ 6144 1) = false := by decide
theorem wf_refuses_drive_net : wellFormed (.driveFrame ⟨2, 31⟩ 0 10240) = false := by decide
theorem wf_refuses_ref_code : wellFormed (.refFrame ⟨2, 31⟩ 0 4096 0) = false := by decide
theorem wf_refuses_ref_flags : wellFormed (.refFrame ⟨2, 31⟩ 0 1 2) = false := by decide
theorem wf_refuses_net_zero : wellFormed (.netFrame ⟨2, 31⟩ 0 false) = false := by decide
theorem wf_refuses_verdict : wellFormed (.resultFrame ⟨2, 31⟩ 1 5 0 0 0 0) = false := by decide
theorem wf_refuses_run_zero : wellFormed (.sourceReady ⟨2, 31⟩ 0) = false := by decide
theorem wf_refuses_watch_number : wellFormed (.halted ⟨2, 31⟩ 0 3) = false := by decide
theorem wf_refuses_credit_source : wellFormed (.credit ⟨29, 31⟩ 3) = false := by decide
theorem wf_refuses_line_length : wellFormed (.line ⟨2, 31⟩ 0 [32]) = false := by decide
theorem wf_refuses_data_to_station : wellFormed (.dataFrame ⟨2, 3⟩ 15 0 0 []) = false := by decide
theorem wf_refuses_end_mark : wellFormed (.endFrame ⟨2, 28⟩ 15 0 0 2) = false := by decide
theorem wf_refuses_delivered_frame : wellFormed (.otherCleanFrame ⟨3, 31, .net 5⟩) = false := by decide
theorem wf_refuses_frame_length : wellFormed (.heldFrame ⟨3, 31, .line 0 []⟩ (Vector.replicate 8 0)) = false := by decide
theorem wf_refuses_raw_length : wellFormed (.frameErr ⟨1, 0, 2, 2, 31, 2, [], 0⟩) = false := by decide
theorem wf_refuses_known_request : wellFormed (.unknownRequest ⟨28, 2, 0⟩ 9 []) = false := by decide
theorem wf_refuses_unordered_points : wellFormed (.breakTimeEnd [4, 4]) = false := by decide
theorem wf_refuses_high_index : wellFormed (.settleTimeEnd [256]) = false := by decide
theorem wf_refuses_nine_codes :
    wellFormed (.samplingPassComplete [⟨0, List.replicate 9 0⟩]) = false := by decide

/-! ## The manual's worked examples -/

/-- spec 00, Points and blocks and Effective nets; 8, R149. -/
theorem test_point_text : pointText 885 = chars "03-117" ∧ netText 4100 = chars "PIN 00-004" ∧
    netText 5409 = chars "PIN 05-033" := by decide +kernel

/-- R47: the check value of the CRC. -/
theorem test_crc_of_digits :
    crc16 (("123456789".toList.map fun ch => msbBits (byte ch.toNat)).flatten) = 0x29B1 := by decide +kernel

/-- 4.2, Calibration outcomes. -/
theorem test_calibration_outcomes :
    rawOffset #v[11, 13, 12, 12, 14, 11, 12, 13] = 12 ∧
    rawOffset #v[-3, -2, -2, -1, -2, -3, -2, -1] = -2 ∧
    rawOffset #v[-2, -1, -2, -1, -2, -2, -1, -2] = -1 ∧
    clampOffset (rawOffset (Vector.replicate 8 75)) = 63 ∧
    clampOffset (rawOffset (Vector.replicate 8 (-80))) = -64 := by decide +kernel

/-- 4.5, Resistance against one reference. -/
theorem test_resistances :
    [3890, 3888, 3887, 3886, 3885, 3881, 3880, 3879, 3858, 1945, 1944, 515, 514, 4, 0].map (resistance · 3888)
      = [0, 0, 2, 5, 7, 18, 20, 23, 77, 9989, 10000, 65495, 65535, 65535, 65535] := by decide +kernel

/-- 4.6, Limits repaired. -/
theorem test_effective_limits :
    [(20, 10000), (50, 40), (50, 50), (65533, 100), (65533, 65535)].map
      (fun q => effectiveH { Params.defaults with l := q.1, h := q.2 }) = [10000, 51, 51, 65534, 65535] := by decide

/-- R11: the band limits. -/
theorem test_bands :
    [31, 32, 79, 80, 127, 128, 175, 176, 223, 224].map bandOf =
      [.invalid, .kind .std16, .kind .std16, .kind .std32, .kind .std32, .kind .hv16, .kind .hv16, .kind .hv32,
        .kind .hv32, .kind .none] := by decide

/-- R73: the rounding of sample count, test voltage, window and profile. -/
theorem test_parameter_rounding :
    [0, 1, 3, 6, 9].map sampleCount = [1, 1, 2, 4, 8] ∧ [733, 1507, 42].map testVoltage = [730, 1500, 50] ∧
      [8, 9, 32].map windowLength = [8, 16, 32] ∧ [4, 5].map profileNumber = [4, 1] := by decide

/-- 7.5, Ramp of profile TWO-STAGE at 500 V. -/
theorem test_two_stage_ramp :
    [0, 1, 100, 200, 450, 800, 900].map (rampSetpoint 500 0 [⟨50, 200⟩, ⟨50, 500⟩, ⟨100, 200⟩]) =
      [0, 1, 125, 250, 250, 375, 500] ∧
    [0, 1, 125, 250, 375, 500, 1500].map dacCode = [0, 2, 319, 639, 959, 1279, 3839] := by decide

/-- 7.7, Dwell averages: in PEAK mode the peak is 143 and the last average 141. -/
theorem test_dwell_averages :
    let s := [100, 110, 120, 130, 140, 150, 160, 170, 150, 130, 120, 110].foldl
      (fun s x => after (.dwellMillisecond x 0) s) (engine .dwell true (insulation .hvInterval))
    s.hv.peak = some 143 ∧ windowAverage s.hv.window = 141 ∧ s.hv.window.length = 8 := by decide +kernel

/-- 7.7, Voltage, current and verdict. -/
theorem test_insulation_resistance :
    [(499, 125), (499, 6000), (499, 0), (1500, 1), (1500, 20000), (0, 40)].map
      (fun q => insulationResistance q.1 q.2) = [3992, 83, 999999, 999999, 75, 0] ∧
    [3992, 83, 75, 0].map (dwellVerdict 100) = [.pass, .insulationFail, .insulationFail, .insulationFail] ∧
    monitorVolts 1278 = 499 ∧ monitorVolts 76 = 29 ∧ monitorVolts 77 = 30 := by decide

/-- 10.6: 3 SHORT and 4 LEAKAGE records grade from 7, which gives 3. -/
theorem test_grades : [0, 1, 2, 5, 6, 7, 10, 11, 100, 101].map grade = [0, 1, 2, 2, 3, 3, 3, 4, 4, 5] := by decide

/-- 9.5, A page break: the OPEN (80, 1544) at line-on-page 19 of 20 leaves 0, page 1 and 18 printed lines. -/
theorem test_page_break :
    let s := { idle with print := { Printer.powerUp with
      pass := true, credit := 9, pageLength := 20, lineOn := 19, page := 1, printed := 17 } }
    let t := after (.line ⟨6, 31⟩ (printKey 1 80 1544 6) []) s
    t.print.lineOn = 0 ∧ t.print.page = 1 ∧ t.print.printed = 18 ∧ t.print.credit = 8 ∧
      (t.bus.slot.map fun e => kindCode e.frame.payload) = [15] := by decide +kernel

/-- 2.2, A change overtaken twice: a second request in the break, a third in the settle stage. -/
theorem test_change_overtaken_twice :
    let p := requestPoint false 5 .sense (requestPoint false 5 .ret (restPoint 0 .sense))
    let q := breakEnds false 5 p
    let r := breakEnds false 5 (requestPoint false 5 .drive q)
    p.stage = .brk ∧ p.pending = some .sense ∧ q.stage = .settle .sense 5 ∧ relayClosed q = .sense ∧
      r.stage = .settle .drive 5 ∧ r.switch = .sense ∧ settleEnds false r = restPoint 0 .drive := by decide

/-- R149: a HIGH_RESISTANCE line shows the class, the net, the point and the resistance in ohms. -/
theorem test_high_resistance_line :
    recordText (.highResistance 81 1550 77 2) =
      ("HIGH_RESISTANCE 81         06-014     7.7       ".toList.map fun ch => byte ch.toNat) := by decide +kernel

/-! ## Where clauses meet: boundary values -/

/-- R7: a gp of the next station, the net above 4095 and an unassigned role code are refused; the last gp, net 4095 and role
code 2 are taken. -/
theorem test_assign_net_boundaries :
    let net (gp n : Half) (r : Byte) := (pointAt (after (.assignNet toStation gp n r) idle) 255).net
    net 767 4095 2 = 4095 ∧ net 768 4095 2 = 0 ∧ net 767 4096 2 = 0 ∧ net 767 4095 3 = 0 := by decide +kernel

/-- R8: a range from the last gp of station 1 to the first of station 2 writes gp 512 alone, with the stepped net. -/
theorem test_assign_range_boundaries :
    let t := after (.assignRange toAll 511 512 7 1 0) idle
    (pointAt t 0).net = 8 ∧ (pointAt t 1).net = 0 ∧
      after (.assignRange toAll 512 511 7 0 0) idle = { idle with bus := heard idle } := by decide +kernel

/-- R15, R170: kind 4 and allowed set 15 are taken; kind 5 and set 16 are refused with their selectors. -/
theorem test_set_blocks_boundaries :
    let answer (k a : Byte) := ((after (.setBlocks toStation (Vector.replicate 8 k) a) idle).bus.slot.map
      fun e => e.frame.payload).head?
    answer 5 15 = some (.refused 4 9 1 0) ∧ answer 4 16 = some (.refused 4 9 1 8) ∧
      (answer 4 15).map kindCode = some 9 := by decide +kernel

/-- R122: index 15 is stored clamped, index 16 disregarded. -/
theorem test_profile_segment_boundaries :
    (after (.profileSegment toAll 15 101 10001) idle).hv.segments[15]? = some ⟨100, 10000⟩ ∧
      (after (.profileSegment toAll 16 101 10001) idle).hv = idle.hv := by decide +kernel

/-- R172: sections 0 and 4 are answered, section 5 refused with selector 5. -/
theorem test_query_status_boundaries :
    let answer (part : Byte) := ((after (.queryStatus toStation part) idle).bus.slot.map fun e => e.frame.payload).head?
    (answer 0).map kindCode = some 9 ∧ (answer 4).map kindCode = some 9 ∧ answer 5 = some (.refused 18 9 1 5) := by
  decide +kernel

/-- R171: gp 6143 is stored, gp 6144 is not. -/
theorem test_set_watch_boundaries :
    let t := after (.setWatch toAll ⟨3, 6143⟩ ⟨3, 6144⟩) idle
    t.run.watch1 = some ⟨6143, true⟩ ∧ t.run.watch2 = none := by decide +kernel

/-- R128: the code 76 releases LIVE, 77 does not; the reading t = 2000 is the last. -/
theorem test_discharge_boundaries :
    let s := engine .discharge false (insulation .hvInterval)
    let last : State := { s with hv := { s.hv with dischargeNext := 2000 } }
    (after (.dischargeReading 76) s).hv.stage = .reporting ∧ (after (.dischargeReading 77) s).hv.dischargeNext = 1 ∧
      after .dischargeFault last = last ∧
      (after .dischargeFault (after (.dischargeReading 77) last)).hv.stage = .following := by decide +kernel

/-- R124, R125: a sample equal to the trip is no breakdown; 450 V of 500 V begin the dwell, 449 V do not. -/
theorem test_check_boundaries :
    let s := engine .check true (insulation .hvInterval)
    let later : State := { s with hv := { s.hv with checkNext := 50 } }
    (after (.checkReading 20000 1152) s).hv.stage = .dwell ∧ (after (.checkReading 20000 1151) s).hv.stage = .check ∧
      (after (.checkReading 20001 1152) later).hv.stage = .discharge ∧
      (after .undervolt (after (.checkReading 20000 1151) later)).hv.result =
        some ⟨.undervolt, 449, 20000, 22, 1⟩ := by decide +kernel

/-- R66: a reference code of 2048 is not weak, 2047 is. -/
theorem test_weak_boundary :
    let s := { sweep .sampling with sampler := { Sampler.powerUp with job := .sampling 1 (some 513) } }
    let weak (c : Code12) := ((after (.samplingPassComplete [⟨1, [c]⟩]) s).sampler.ref.map RefCode.weak)
    weak 2048 = some false ∧ weak 2047 = some true := by decide +kernel

/-- R38: OFF while RETURN is in force takes every point to FLOAT; R36 and R37 as their calls say. -/
theorem test_override_states :
    let t := after (.matrixOverrideReturn toAll) idle
    t.matrix.override = .ret ∧ (pointAt t 255).pending = some .ret ∧
      (after (.matrixOverrideOff toAll) t).matrix.override = .none ∧
      (pointAt (after (.matrixOverrideOff toAll) t) 255).pending = some .float ∧
      (after (.matrixOverrideFloat toAll) t).matrix = ⟨[], .float⟩ := by decide +kernel

/-- R49, R50: the eighth own frame in a row that draws ERR silences. -/
theorem test_eighth_error :
    let s := pendingFrame true 31 (.drive 513 30) (sweep .bidding)
    let err (n : Nat) := after (.frameErr (rawOf (ownFrame s 31 (.drive 513 30))))
      { s with bus := { s.bus with errors := n } }
    (err 6).bus.errors = 7 ∧ (err 6).bus.silent = false ∧ (err 7).bus.silent = true ∧ (err 7).run.state = .ended := by
  decide +kernel

/-- R45, R49: a frame equal to a pending one that has not begun is of another node at the address: it is still to be sent and the
error count stands. The begun one is sent, and the count is 0. -/
theorem test_twin_frame :
    let s (b : Bool) := { pendingFrame b 28 (.reply 9 0 []) idle with bus := { (pendingFrame b 28 (.reply 9 0 []) idle).bus with errors := 3 } }
    let t (b : Bool) := (after (.otherCleanFrame (ownFrame idle 28 (.reply 9 0 []))) (s b)).bus
    (t false).errors = 3 ∧ (t false).slot = (s false).bus.slot ∧ (t true).errors = 0 ∧ (t true).slot = [] := by
  decide +kernel

/-- R77: a clean HALTED suspends the running timer until HOLD is seen released. -/
theorem test_halted_suspends : (after (.halted ⟨3, 31⟩ 770 1) (sweep .driveReleased)).run.timer.mode = .suspended true := by
  decide +kernel

/-! ## Witnesses: what the statements assume can be met -/

/-- A REPLY pending at an otherwise idle station. -/
def answering : State := pendingFrame false 28 (.reply 9 0 []) idle

/-- A point of each stage of a change. -/
def changing : State :=
  withPoints
    [{ restPoint 0 .hv with pending := some .float, stage := .deferred },
     { restPoint 0 .sense with pending := some .drive, stage := .brk },
     { restPoint 0 .float with pending := some .hv, stage := .waitLive },
     { restPoint 0 .sense with pending := some .drive, stage := .settle .drive 5 },
     { restPoint 0 .float with pending := some .ret, stage := .settle .hv 5 },
     { restPoint 0 .sense with pending := some .hv, stage := .brk }]
    { idle with lines := { idle.lines with liveSeen := true } }

/-- O1: a request from no console, one to another station, one while an answer is pending, one while SILENT. -/
theorem witness_RequestNotTakenChangesNothing :
    (requestOf (.clearTable ⟨3, 2, 0⟩) = some (⟨3, 2, 0⟩, 3) ∧ takesFrames idle = true ∧ noFirstFrame idle = true ∧
      isConsole 3 = false) ∧
    (requestOf (.clearTable ⟨28, 3, 0⟩) = some (⟨28, 3, 0⟩, 3) ∧ (28 : Addr) ≠ Config.generalCall ∧
      (3 : Addr).toNat ≠ addr idle) ∧
    (takesFrames answering = true ∧ noFirstFrame answering = true ∧
      ∃ e ∈ (notSent answering).bus.slot, entryKind e = 9 ∨ entryKind e = 10) ∧
    (takesFrames { idle with bus := { idle.bus with silent := true, errors := 8 } } = true) := by decide +kernel

/-- O2: an addressed ASSIGN RANGE, a general ASSIGN NET, and unknown requests of both forms. -/
theorem witness_RequestsOfTheWrongFormAreRefused :
    (requestOf (.assignRange toStation 0 0 0 0 0) = some (toStation, 2) ∧ takesAddressed toStation idle = true ∧
      noFirstFrame idle = true ∧ 2 ∈ [2, 6, 7, 10, 12, 14, 22]) ∧
    (requestOf (.assignNet toAll 0 0 0) = some (toAll, 1) ∧ takesGeneral toAll idle = true ∧
      1 ∈ [1, 4, 11, 15, 16, 17, 18, 19, 20, 21]) ∧
    requestOf (.unknownRequest toStation 0 []) = some (toStation, 0) ∧
    requestOf (.unknownRequest toAll 23 []) = some (toAll, 23) ∧
    after (.unknownRequest toStation 23 []) idle = { idle with bus := answered toStation (refusal toStation 23 .range 0) idle } := by
  decide +kernel

/-- O3 to O5, O11: an addressed request taken with no run active, with a run active, and under an override. -/
theorem witness_AddressedRequests :
    (takesAddressed toStation idle = true ∧ noFirstFrame idle = true ∧ runLawful idle = true ∧
      512 % 256 < idle.points.length) ∧
    (takesAddressed toStation (sweep .settling) = true ∧ noFirstFrame (sweep .settling) = true ∧
      runLawful (sweep .settling) = true ∧ runActive (sweep .settling) = true) ∧
    (takesAddressed toStation { idle with matrix := { idle.matrix with override := .ret } } = true ∧
      runLawful { idle with matrix := { idle.matrix with override := .ret } } = true) := by decide +kernel

/-- O4, O6, O7, O12, O13: a general call taken with no run active and with a run active, at a station with and without HVSRC; with
RETURN in force, and with FLOAT in force in a run. -/
theorem witness_GeneralCalls :
    (takesGeneral toAll idle = true ∧ noFirstFrame idle = true ∧ runLawful idle = true ∧ runActive idle = false) ∧
    (takesGeneral toAll (sweep .settling) = true ∧ noFirstFrame (sweep .settling) = true ∧
      runLawful (sweep .settling) = true ∧ runActive (sweep .settling) = true) ∧
    (takesGeneral toAll { idle with straps := { idle.straps with hvsrc := false } } = true ∧
      noFirstFrame { idle with straps := { idle.straps with hvsrc := false } } = true) ∧
    [{ idle with matrix := { idle.matrix with override := .ret } },
      { sweep .settling with matrix := { (sweep .settling).matrix with override := .float } }].all (fun s =>
        takesGeneral toAll s && noFirstFrame s && runLawful s && (s.matrix.override != .ret || !runActive s)) = true := by
  decide +kernel

/-- O8: an accepted START RUN by either form, and one ignored with a run active, under ESTOP and with run number 0. -/
theorem witness_StartRunIsJudged :
    (takesAddressed toStation idle = true ∧ takesGeneral toAll idle = true ∧ runLawful idle = true ∧
      linesLawful idle = true ∧ runActive idle = false ∧ idle.lines.estop = false ∧ (1 : Half) ≠ 0) ∧
    (noFirstFrame (sweep .settling) = true ∧ takesGeneral toAll (sweep .settling) = true ∧
      runActive (sweep .settling) = true) ∧
    takesGeneral toAll { idle with lines := { idle.lines with estop := true } } = true ∧
    (let d : State := { idle with
        straps := { idle.straps with autodet := true }
        decoder := { idle.decoder with mask := 0, ctx := some ⟨.dumpDefects, 9, 29, 0, 0, none, none, 3, false, false⟩ } };
      takesAddressed toStation d = true ∧ runLawful d = true ∧ linesLawful d = true ∧
        foundBits d.blocks.allowed (Vector.replicate 8 5) &&& ~~~ d.decoder.mask ≠ 0) := by decide +kernel

/-- O10: a station halted at gp 513 with its halt flag set, by either form of CONTINUE. -/
theorem witness_ContinueAndSetWatch :
    let s := { sweep .halted with run := { (sweep .halted).run with halt := true } }
    noFirstFrame s = true ∧ takesAddressed toStation s = true ∧ takesGeneral toAll s = true ∧ s.run.halt = true ∧
      (drivenHere s).isSome = true ∧ takesAddressed toStation idle = true ∧ idle.run.halt = false := by decide +kernel

/-- O14: PRINT taken in COMPLETE, refused in IDLE, refused addressed; STOP PRINT with a pass. -/
theorem witness_PrintAndStopPrint :
    let s := { idle with run := { idle.run with state := .complete } }
    noFirstFrame s = true ∧ takesGeneral toAll s = true ∧ s.run.state = .complete ∧
      (takesGeneral toAll idle = true ∧ idle.run.state ≠ .complete ∧ idle.run.state ≠ .ended) ∧
      takesAddressed toStation idle = true ∧
      takesGeneral toAll { idle with print := { idle.print with pass := true, stall := some 0 } } = true := by
  decide +kernel

/-- O15, O16: an addressed request with and without a delayed request in progress. -/
theorem witness_DelayedRequests :
    let s := { idle with decoder := { idle.decoder with
      ctx := some ⟨.dumpDefects, 9, 29, 0, 0, none, none, 3, false, false⟩ } }
    takesAddressed toStation idle = true ∧ noFirstFrame idle = true ∧ takesAddressed toStation s = true ∧
      noFirstFrame s = true ∧ s.decoder.ctx ≠ none ∧ blocksLawful idle = true ∧
      [0, 1, 2, 3, 4].all (fun part => (statusData idle part).isSome) = true ∧ statusData idle 5 = none := by decide +kernel

/-- O17: a station that takes a RESET general call, with AUTODET low and high. -/
theorem witness_ResetSetsItsScope :
    takesGeneral toAll idle = true ∧
      takesGeneral toAll { idle with straps := { idle.straps with autodet := true } } = true := by decide +kernel

/-- O18: a station in HELD before and after its first RESET, another frame there, and a strap fault. -/
theorem witness_HeldTakesTheResetPairAlone :
    let s := { heldStation with bus := { heldStation.bus with integrated := true } }
    let second := { s with bus := { s.bus with resetCount := 1 } }
    (s.bus.integrated = true ∧ s.bus.held = true ∧ runLawful s = true ∧ floatHoldLawful s = true ∧
      pointsLawful s = true ∧ maskLawful s = true ∧ resetCall ⟨28, 31, .request 22 0 [2]⟩ = some true ∧
      resetCall ⟨28, 31, .request 22 0 [1]⟩ = some false ∧ resetCall ⟨28, 31, .request 22 0 [3]⟩ = none) ∧
    (runLawful second = true ∧ floatHoldLawful second = true ∧ pointsLawful second = true ∧ maskLawful second = true) ∧
    (frameKind (.netFrame fromTwo 5 false) = some 4 ∧ mayReset (.netFrame fromTwo 5 false) = false) ∧
    24 ≤ addr { s with straps := { s.straps with adr := 24 } } := by decide +kernel

/-- O19: the lines released, outside a run and in one with LIVE seen asserted. -/
theorem witness_LinesRiseAndTheTimer :
    idle.lines.holdSeen = false ∧ idle.lines.liveSeen = false ∧
      runActive { sweep .settling with lines := { idle.lines with liveSeen := true } } = true := by decide +kernel

/-- O20: ESTOP not yet asserted, in HELD, outside a run and in a run. -/
theorem witness_EstopForcesFloat :
    (runLawful heldStation = true ∧ heldStation.lines.estop = false ∧ heldStation.bus.held = true) ∧
      (runLawful idle = true ∧ idle.lines.estop = false) ∧
      (runLawful (sweep .settling) = true ∧ (sweep .settling).lines.estop = false ∧
        runActive (sweep .settling) = true) := by decide +kernel

/-- O21: changes held by LIVE, with LIVE not the station's own. -/
theorem witness_LiveReleasedFreesHeldChanges :
    pointsLawful changing = true ∧ changing.lines.liveSeen = true ∧ changing.lines.liveOut = false := by decide +kernel

/-- O22: the two barriers of a sweep step. -/
theorem witness_SweepBarriersEnd :
    [SweepStage.driveReleased, .stepReleased].all (fun g =>
      let s := holding false (sweep g)
      s.lines.holdSeen && !s.lines.holdOut && runLawful s && s.run.state == .sweep && s.run.sweepStage == g) = true := by
  decide +kernel

/-- O23: PREPARE with the sweep enabled and disabled, the end of the sweep, with and without a source. -/
theorem witness_PhasesAreEntered :
    let p := holding false (active .prepare)
    [p, { p with run := { p.run with sweepOn := false } }, { p with run := { p.run with sweepOn := false, elected := none } },
      { p with run := { p.run with sweepOn := false, insOn := false } }, holding false (sweep .endReleased)].all (fun s =>
      s.lines.holdSeen && !s.lines.holdOut && runLawful s &&
        (s.run.state == .prepare || (s.run.state == .sweep && s.run.sweepStage == .endReleased))) = true := by
  decide +kernel

/-- O24: the barriers of an insulation step, at the elected source and elsewhere; every other case: no run, a stage without a
barrier of either phase, the own output asserted, the line released. -/
theorem witness_InsulationBarriersEnd :
    let ok (s : State) := s.lines.holdSeen && !s.lines.holdOut && runLawful s && linesLawful s && s.run.state == .insulate
    ok (holding false (insulation .switched)) = true ∧ (insulation .switched).hv.elected = false ∧
      ok (engine .quiet false (holding false (insulation .switched))) = true ∧
      (engine .quiet false (insulation .switched)).hv.elected = true ∧
      ok (holding false (insulation .restored)) = true ∧ ok (holding false (insulation .awaitingResult)) = true ∧
    [holding false idle, holding false (sweep .settling), holding false (insulation .restoring)].all (fun s =>
      s.lines.holdSeen && !s.lines.holdOut && (runActive s != (s.run.state == .idle))) = true ∧
    (holding true idle).lines.holdOut = true ∧ idle.lines.holdSeen = false := by
  decide +kernel

/-- O25: a slot with two frames, none begun. -/
theorem witness_BeginFrameTakesLowestRegion :
    let two := putFrame (ownFrame idle 31 (.net 40)) (putFrame (ownFrame idle 28 (.notice 1 0)) [])
    let s := { idle with bus := { idle.bus with slot := two } }
    slotLawful s = true ∧ s.bus.integrated = true ∧ s.bus.slot ≠ [] ∧ ∀ e ∈ s.bus.slot, e.begun = false := by
  decide +kernel

/-- O26: another node's frame, and an own frame at six errors. -/
theorem witness_ErredFrameCountsAtItsTransmitter :
    (takesFrames idle = true ∧ errorsLawful idle = true ∧ ∀ e ∈ idle.bus.slot, e.begun = false) ∧
    (let f := ownFrame idle 31 (.net 40)
      let s0 := pendingFrame true 31 (.net 40) idle
      let s := { s0 with bus := { s0.bus with errors := 6 } }
      takesFrames s = true ∧ errorsLawful s = true ∧
        ∀ e ∈ s.bus.slot, e.begun = true → frameRegion e.frame = rawRegion (rawOf f) → s.bus.errors + 1 < 8) := by
  decide +kernel

/-- O27: an own frame at seven errors, outside a run and in one. -/
theorem witness_EighthErrorSilences :
    [idle, sweep .bidding].all (fun b =>
      let s0 := pendingFrame true 31 (.drive 513 30) b
      let s := { s0 with bus := { s0.bus with errors := 7 } }
      takesFrames s && runLawful s && s.bus.errors == 7 &&
        s.bus.slot.any fun e => e.begun && frameRegion e.frame == rawRegion (rawOf e.frame)) = true := by decide +kernel

/-- O28: another node's frame at a station whose NOTICE has begun, the own NOTICE with one held beside it. -/
theorem witness_CleanFrameLeavesItsSlot :
    let f := ownFrame idle 28 (.notice 1 0)
    let s := { idle with bus := { idle.bus with slot := [⟨f, true, false, some (ownFrame idle 28 (.notice 3 0)), false⟩] } }
    takesFrames s = true ∧ noFirstFrame s = true ∧ s.lines.holdOut = false ∧ isOwn f s = true ∧ isOwn ⟨30, 28, .notice 1 0⟩ s = false := by
  decide +kernel

/-- O29: a CREDIT as the first frame of the sweep's bid window, and a RESET addressed to the station. -/
theorem witness_FirstFrameEndsThePhase :
    let c : Instr := .credit ⟨30, 31⟩ 4
    let s := bidding (sweep .bidding)
    (let r : Instr := .resetRun toStation (Vector.replicate 8 0);
      frameKind r = some 8 ∧ requestOf r = some (toStation, 22) ∧ toStation.dst ≠ Config.generalCall ∧
        exec r s = .next (after r s) ∧ (after r s).run.sweepStage ≠ .bidding) ∧
    frameKind c = some 14 ∧ mayReset c = false ∧ listening s = true ∧ s.bus.window = .running false ∧
      (s.run.state = .sweep → 14 ≠ 2) ∧ (s.run.state = .insulate → 14 ≠ 4) ∧ exec c s = .next (after c s) ∧
      exec c { s with bus := { s.bus with window := .off } } =
        .next (after c { s with bus := { s.bus with window := .off } }) := by
  refine ⟨⟨rfl, rfl, by decide, rfl, by decide +kernel⟩, rfl, rfl, by decide +kernel, rfl, by decide, by decide, rfl, rfl⟩

/-- O30: the window expired in the sweep, in the insulation check, outside both, and a window that does not run. -/
theorem witness_ExpiredWindowEndsThePhase :
    let s := bidding (sweep .bidding)
    let i := bidding (insulation .bidding)
    (s.run.state = .sweep ∧ s.run.sweepStage = .bidding ∧ s.bus.window = .running false ∧
      (∀ e ∈ s.bus.slot, e.begun = false) ∧ s.lines.holdOut = false ∧ runLawful s = true ∧ floatHoldLawful s = true ∧
      batchesLawful s = true ∧ pointsLawful s = true ∧ ∀ b ∈ s.matrix.batches, b.purpose ≠ .endFloat) ∧
    (runLawful i = true ∧ i.bus.window = .running false ∧ (∀ e ∈ i.bus.slot, e.begun = false) ∧
      i.run.state = .insulate ∧ i.run.insStage = .bidding) ∧
    (runLawful (bidding idle) = true ∧ (bidding idle).run.sweepStage ≠ .bidding ∧ (bidding idle).run.insStage ≠ .bidding) ∧
    idle.bus.window ≠ .running false := by decide +kernel

/-- O31: an ABORT in a run and outside one, a step timer at its limit and one that has restarted. -/
theorem witness_AbortAndTimeoutEndTheRun :
    takesFrames (sweep .settling) = true ∧ noFirstFrame (sweep .settling) = true ∧ runLawful (sweep .settling) = true ∧
      isConsole 28 = true ∧ runActive (sweep .settling) = true ∧ (sweep .settling).run.timer.mode = .running ∧
      (let s := atLimit (sweep .settling);
        runLawful s = true ∧ s.run.timer.mode = .running ∧ s.run.timer.limit ≤ s.run.timer.elapsed) ∧
      (sweep .settling).run.timer.elapsed < (sweep .settling).run.timer.limit ∧
      takesFrames idle = true ∧ runLawful idle = true := by decide +kernel

/-- O32: a DRIVE in the bidding stage, as the window's first frame, in no run, and in a stage that holds HOLD. -/
theorem witness_DriveOpensTheSweepStep :
    let s := bidding (sweep .bidding)
    (takesRunFrame fromTwo s = true ∧ runLawful s = true ∧ s.lines.holdOut = false ∧ s.run.state = .sweep ∧
      s.run.sweepStage = .bidding) ∧
    (takesRunFrame fromTwo idle = true ∧ runLawful idle = true ∧ idle.run.state ≠ .sweep ∧ noFirstFrame idle = true) ∧
    (let h := holding true (sweep .settling);
      takesRunFrame fromTwo h = true ∧ runLawful h = true ∧ h.lines.holdOut = true ∧ h.run.sweepStage ≠ .bidding ∧
        noFirstFrame h = true) := by decide +kernel

/-- O33: the step's REF awaited, with the weak flag and without. -/
theorem witness_RefIsTaken :
    let s := sweep .awaitingRef
    takesRunFrame fromTwo s = true ∧ noFirstFrame s = true ∧ runLawful s = true ∧ s.run.state = .sweep ∧
      s.run.sweepStage = .awaitingRef ∧ s.run.step = .point (513 : Half).toNat fromTwo.src.toNat ∧
      s.lines.holdOut = false ∧ (0 : Byte).getLsbD 0 = false ∧ (1 : Byte).getLsbD 0 = true := by decide +kernel

/-- R105, R106, R139: the net's first drive makes an offer of each of the four classes. -/
theorem test_ref_offers :
    let s := withPoints [restPoint 30 .sense, restPoint 30 .drive, restPoint 30 .sense, restPoint 7 .sense, restPoint 8 .sense]
      (sweep .awaitingRef)
    let t := after (.refFrame fromTwo 513 4000 0) { s with
      netMap := builtNetMap s
      sampler := { s.sampler with buffer := [some 3900, none, some 1, some 4000, some 3900] } }
    t.defects.records.map Record.what =
      [.opn 30 514, .highResistance 30 512 256 513, .short 7 30, .leakage 8 30 256] := by decide +kernel

/-- O34: a point of the drive net and a point of another. -/
theorem witness_ReadingMeansWhatTheTablesSay :
    let s := withPoints [restPoint 30 .sense, restPoint 31 .sense] (sweep .classifying)
    0 < s.points.length ∧ effNet s 0 = 30 ∧ effNet s 1 ≠ 30 := by decide +kernel

/-- O35: a station in IDLE, for which no run frame is called. -/
theorem witness_UncalledRunFramesDisregarded :
    takesRunFrame fromTwo idle = true ∧ noFirstFrame idle = true ∧
      ¬ (idle.run.state = .sweep ∧ idle.run.sweepStage = .awaitingRef ∧ idle.run.step = .point 513 2) ∧
      ¬ (idle.run.state = .insulate) ∧ ¬ (idle.run.state = .prepare) ∧ runActive idle = false := by decide +kernel

/-- O36: a NET in the bidding stage, vetoed by a bar of the station, not vetoed, and outside the stage. -/
theorem witness_NetOpensTheInsulationStep :
    let s := bidding (insulation .bidding)
    let barred := { s with netMap := [⟨40, 1, none, .barred, some .shorted⟩] }
    (takesRunFrame fromTwo barred = true ∧ runLawful barred = true ∧ drivesVeto barred 40 = true) ∧
    (takesRunFrame fromTwo s = true ∧ runLawful s = true ∧ floatHoldLawful s = true ∧ pointsLawful s = true ∧
      batchesLawful s = true ∧ (∀ b ∈ s.matrix.batches, b.purpose ≠ .switching) ∧ s.run.state = .insulate ∧
      s.run.insStage = .bidding ∧ s.lines.holdOut = false ∧ drivesVeto s 40 = false) ∧
    (takesRunFrame fromTwo idle = true ∧ runLawful idle = true ∧ noFirstFrame idle = true) := by decide +kernel

/-- O37: the step's RESULT awaited, and the source's own, with a verdict of its measurement and with a discharge fault. -/
theorem witness_ResultEndsTheInterval :
    let s := insulation .awaitingResult
    let own (v : Byte) := pendingFrame true 31 (.result 40 v 499 125 3992 912)
      (engine .reporting false (holding true (insulation .hvInterval)))
    let ok (s : State) := takesRunFrame fromTwo s && noFirstFrame s && runLawful s && floatHoldLawful s && pointsLawful s &&
      batchesLawful s && linesLawful s && s.matrix.batches.all (fun b => b.purpose != .restoring) &&
      s.run.state == .insulate && s.run.step == .net 40 && s.run.elected == some 2
    (ok s = true ∧ s.run.insStage = .awaitingResult) ∧
    (ok (own 0) = true ∧ (own 0).run.insStage = .hvInterval ∧
      isOwn (onRoute fromTwo (.result 40 0 499 125 3992 912)) (own 0) = true) ∧
    (ok (own 4) = true ∧ isOwn (onRoute fromTwo (.result 40 4 499 125 3992 912)) (own 4) = true) := by decide +kernel

/-- O38: a SOURCE_READY of the run in PREPARE, a HALTED in the sweep. -/
theorem witness_SourceReadyElectsAndHaltedSuspends :
    takesRunFrame fromTwo (active .prepare) = true ∧ noFirstFrame (active .prepare) = true ∧
      (12 : Half).toNat = (active .prepare).run.number ∧ (active .prepare).run.state = .prepare ∧
      takesRunFrame fromTwo (sweep .driveReleased) = true ∧ (sweep .driveReleased).run.state = .sweep := by
  decide +kernel

/-- O41: no command waiting; a stall timer at its limit in a pass, with lines left to send and without; a summary timer at its
limit in a run; each before its limit. -/
theorem witness_TimersAdvanceAndExpire :
    idle.pending = [] ∧ runLawful (sweep .settling) = true ∧ runActive (sweep .settling) = true ∧
      runLawful idle = true ∧
      [0, 1].all (fun c =>
        let p : Printer := { idle.print with pass := true, credit := c, stall := some 10000 }
        p.pass && !p.stall.all fun e => decide (e < 10000)) = true ∧
      (let s := { sweep .settling with decoder := { (sweep .settling).decoder with summary := some 1000 } };
        runLawful s = true ∧ runActive s = true ∧ (s.decoder.summary.all fun e => decide (e < 1000)) = false) ∧
      ((sweep .settling).decoder.summary.all fun e => decide (e < 1000)) = true := by decide +kernel

/-- O42: a station that takes a CREDIT and a LINE (its lines' texts: `test_line_columns`). -/
theorem witness_CreditAndLineMoveTheCounters :
    takesFrames idle = true ∧ noFirstFrame idle = true ∧ takesRunFrame fromTwo idle = true := by decide +kernel

/-- A dump of points that is done, its END pending. -/
def dumpDone (begun : Bool) : State :=
  let s := pendingFrame begun 28 (.answerEnd 16 9 2 0) idle
  { s with decoder := { s.decoder with ctx := some ⟨.dumpPoints, 9, 28, 515, 514, none, none, 3, false, false⟩ } }

/-- A DATA on the bus for a dump, formed for the context held or left from an earlier one. -/
def dataWaits (formed : Bool) : State :=
  let s := pendingFrame true 28 (.data 16 9 513 []) idle
  { s with decoder := { s.decoder with ctx := some ⟨.dumpPoints, 9, 28, 513, 514, none, none, 0, false, formed⟩ } }

/-- O43: a station that serves, and one that takes its DATA, formed for the context held and not; an END pending, and one on the
bus. -/
theorem witness_DelayedServiceSendsItems :
    idle.bus.held = false ∧ idle.bus.silent = false ∧ takesFrames idle = true ∧ noFirstFrame idle = true ∧
      [true, false].all (fun b =>
        ((dumpDone b).decoder.ctx.all fun c => (dueItem (dumpDone b) c).isNone) && !(dumpDone b).lines.holdOut &&
          ((slotEntry (dumpDone b) 12).any TxEntry.begun == b)) = true ∧
      [true, false].all (fun b => takesFrames (dataWaits b) && noFirstFrame (dataWaits b) &&
        isOwn (onRoute ⟨2, 28⟩ (.data 16 9 513 [])) (dataWaits b)) = true := by
  decide +kernel

/-- R174: an END pending when the service is due again carries the number of every DATA sent; one on the bus stands. -/
theorem test_end_carries_the_number_sent :
    let ends (b : Bool) := (after .delayedRequestService (dumpDone b)).bus.slot.map fun e => e.frame.payload
    ends false = [.answerEnd 16 9 3 0] ∧ ends true = [.answerEnd 16 9 2 0] := by decide +kernel

/-- R174: a DATA taken clean counts for the context it was formed for, and one left from an earlier context for none; the service
forms the next for the context held. -/
theorem test_data_counts_for_its_context :
    let sent (b : Bool) := (after (.dataFrame ⟨2, 28⟩ 16 9 513 []) (dataWaits b)).decoder.ctx.map fun c => (c.sent, c.cursor)
    let next := after .delayedRequestService (after (.dataFrame ⟨2, 28⟩ 16 9 513 []) (dataWaits false))
    sent true = some (1, 514) ∧ sent false = some (0, 513) ∧ next.decoder.ctx.map Context.formed = some true := by
  decide +kernel

/-- R44, R181: a SUMMARY that had lost arbitration is gone after the frame end once the run has left its active states; one that
draws ERR is sent again. -/
theorem test_lost_summary :
    let s := after (.abort ⟨28, 31⟩) (pendingFrame false 28 (.summary 12 3 0 0 0 []) (sweep .settling))
    let begun := pendingFrame true 28 (.summary 12 3 0 0 0 []) idle
    let recalled := setSlot (dropUnbegun (fun e => entryKind e == 16) begun.bus.slot) begun
    s.bus.slot.all (fun e => entryKind e != 16) = true ∧
      (after (.otherCleanFrame ⟨30, 28, .credit 3⟩) recalled).bus.slot = [] ∧
      ((after (.frameErr (rawOf (ownFrame idle 28 (.summary 12 3 0 0 0 [])))) recalled).bus.slot.map entryKind) = [16] := by
  decide +kernel

/-- R174: a DATA begun before a pause is withdrawn when it draws ERR in the pause; once service has resumed it is offered again
(the model's choice, log entry 48). -/
theorem test_err_after_a_pause_that_ended :
    let s := assertHold (dataWaits true)
    let errs (s : State) := (after (.frameErr (rawOf (ownFrame idle 28 (.data 16 9 513 [])))) s).bus.slot
    errs s = [] ∧ errs (releaseHold s) = [⟨ownFrame idle 28 (.data 16 9 513 []), false, false, none, false⟩] := by
  decide +kernel

/-- R77, R85: a step timer that restarted when HOLD was released does not expire at that instant; at its limit it does. -/
theorem test_step_timeout_needs_the_limit :
    let restarted := after (.holdSeenReleased false) (holding false (atLimit (sweep .driveReleased)))
    restarted.run.timer.elapsed = 0 ∧ after .stepTimeout restarted = restarted ∧
      (after .stepTimeout (atLimit restarted)).run.state = .ended := by decide +kernel

/-- R110: a run that ends in the settling stage leaves the driver with no codes and no reference; another station keeps both. -/
theorem test_settling_driver_is_emptied :
    let kept (here : Bool) : State :=
      let s := sweep .settling
      { s with
        run := { s.run with step := .point (if here then 513 else 3) (if here then 2 else 0) }
        sampler := { s.sampler with ref := some ⟨513, 3000, false⟩ } }
    let ended (b : Bool) := (after (.abort ⟨28, 31⟩) (kept b)).sampler.ref.isSome
    ended true = false ∧ ended false = true := by decide +kernel

/-- R172, 3.11: an absent watch slot shows flags 0 and gp 65535. -/
theorem test_absent_watch : fieldAt ((statusData idle 1).getD []) 30 1 = 0 ∧
    fieldAt ((statusData idle 1).getD []) 31 2 = 65535 := by decide +kernel

/-- O44, O59: changes in every stage. -/
theorem witness_BreakAndSettleTimesEnd : pointsLawful changing = true ∧ runLawful changing = true ∧
    (changing.points.take 7).all pointLawful = true ∧
    -- a batch that completes in each stage that awaits its report
    [(Purpose.prepare, active .prepare), (.toDrive, sweep .settling), (.endFloat, sweep .ending),
      (.switching, insulation .switching), (.restoring, insulation .restoring)].all (fun q =>
      let s := withPoints [{ restPoint 30 .float with pending := some .float, stage := .brk }]
        { q.2 with matrix := { q.2.matrix with batches := [⟨q.1, [0]⟩] } }
      pointsLawful s && runLawful s && batchDone q.1 s (after (.breakTimeEnd [0]) s)) = true := by decide +kernel

/-- R149, 3.11: the first and the last point and net of the tester, and OVER, in their columns. -/
theorem test_line_columns :
    lineSays (recordText (.highResistance 10239 6143 65535 0)) "HIGH_RESISTANCE" (chars "PIN 23-255") (chars "23-255")
      (chars "OVER") ∧
    lineSays (recordText (.leakage 4095 4096 0)) "LEAKAGE" (chars "4095") (chars "PIN 00-000") (chars "0.0") ∧
    lineSays (recordText (.runEnd .busFault (.station 23))) "RUN_END" (chars "BUS_FAULT") (chars "STN 23") [] := by decide +kernel

/-- O45: a calibration in PREPARE. -/
theorem witness_SettleWaitAndCalibrationEnd :
    let s := { active .prepare with sampler := { Sampler.powerUp with job := .calibrating } }
    pointsLawful s = true ∧ floatHoldLawful s = true ∧ runLawful s = true ∧
      (∀ b ∈ s.matrix.batches, b.purpose ≠ .prepare) ∧ (∀ e ∈ s.bus.slot, entryKind e ≠ 6) ∧
      s.sampler.job = .calibrating := by decide +kernel

/-- O46: passes of the driver with a halting, unmasked watch on its point, one masked that does not halt, and none. -/
theorem witness_SamplingPassFillsTheBuffer :
    let s0 := { sweep .sampling with sampler := { Sampler.powerUp with job := .sampling 4 (some 513) } }
    let watched (halt : Bool) (mask : BitVec 12) : State := { s0 with
      run := { s0.run with watch1 := some ⟨513, halt⟩ }, decoder := { s0.decoder with mask := mask } }
    let kinds (s : State) : List Nat := (after (.samplingPassComplete []) s).bus.slot.map entryKind
    kinds (watched true 0) = [7, 13] ∧ kinds (watched false 2) = [] ∧ kinds s0 = [] ∧
      (after (.samplingPassComplete []) (watched true 0)).run.sweepStage = .halted := by decide +kernel

/-- O47 to O49: the engine in the ramp, the check and the dwell; a point within a ramp's segment. -/
theorem witness_EngineStages :
    [HvStage.ramp, .check, .dwell].all (fun g =>
      (engine g true (insulation .hvInterval)).hv.stage == g &&
        (engine g true (insulation .hvInterval)).hv.settings.isSome) = true ∧
      (1 ≤ 199 ∧ 199 < (⟨50, 200⟩ : Segment).ms) ∧ (∀ q ∈ [(⟨50, 500⟩ : Segment)].head?, 0 < q.ms) := by decide +kernel

/-- O50: the discharge with a measured result, and the following stage. -/
theorem witness_DischargeReleasesLive :
    let s := engine .discharge false (insulation .hvInterval)
    (s.hv.stage = .discharge ∧ s.run.step = .net 40 ∧ s.hv.result = some ⟨.pass, 499, 125, 3992, 912⟩ ∧
      s.bus.held = false ∧ s.bus.silent = false ∧ ∀ e ∈ s.bus.slot, entryKind e ≠ 5) ∧
    (idle.hv.stage = .following ∧ idle.straps.hvsrc = true ∧ linesLawful idle = true) := by decide +kernel

/-- O51: a list with a SHORT and a LEAKAGE of two pairs. -/
theorem witness_OfferTakesFirstOutcome :
    let d : Defects := ⟨[⟨.short 30 31, .printed⟩, ⟨.leakage 30 32 99, .printed⟩], 0, .unprinted⟩
    defectsLawful d = true ∧ (∃ r ∈ d.records, identOf r.what = ⟨3, 30, 31⟩) ∧
      (∃ r ∈ d.records, identOf r.what = ⟨4, 30, 32⟩) ∧ ¬ (∃ r ∈ d.records, identOf r.what = ⟨3, 30, 32⟩) ∧
      (offer (.short 30 32) { idle with defects := d }).defects.records.map Record.what = [.short 30 31, .short 30 32] ∧
      (offer (.leakage 30 31 5) { idle with defects := d }).defects = d := by decide +kernel

/-- O52, O53: limits in order, sound parameters, and each profile. -/
theorem witness_Arithmetic :
    20 < 10000 ∧ paramsLawful Params.defaults = true ∧
      [0, 1, 2, 3, 4].all (fun p => paramsLawful { Params.defaults with profile := p }) = true ∧
      [(⟨50, 200⟩ : Segment), ⟨100, 200⟩].getLast? = some ⟨100, 200⟩ := by decide +kernel

/-- O55 to O58: a sound station in the sweep that steps, and one in HELD. -/
theorem witness_LawsKept :
    (lawful (holding true (sweep .settling)) = true ∧ (sweep .settling).netMap.length ≤ 256 ∧
      lawful heldStation = true ∧ heldStation.bus.held = true) ∧
      step (holding true (sweep .settling)) = .next (tick (holding true (sweep .settling))) := by
  exact ⟨by decide +kernel, rfl⟩

/-- O59: a command under LIVE that is no forced FLOAT. -/
theorem witness_LiveHoldsTheHvRelays :
    let c : Instr := .settleTimeEnd [3, 4]
    pointsLawful changing = true ∧ slotLawful changing = true ∧ changing.lines.liveSeen = true ∧ exec c changing = .next (after c changing) ∧
      mayReset c = false ∧ isPowerUp c = false ∧ (after c changing).bus.silent = changing.bus.silent := by
  refine ⟨by decide +kernel, by decide +kernel, rfl, rfl, rfl, rfl, by decide +kernel⟩

/-- O60: a command within a run. -/
theorem witness_RunKeepsItsNetlist :
    let c : Instr := .assignNet toStation 513 7 0
    let s := sweep .settling
    runActive s = true ∧ exec c s = .next (after c s) ∧ runActive (after c s) = true := by
  refine ⟨by decide +kernel, rfl, by decide +kernel⟩

end Sys2Proof.Tests
end

section
/-! SUPPORT. The laws of the switch matrix (R1, R24, R28, R32, R40) as one predicate, read record by record, and what the
operations of the Matrix Controller make of it. -/

namespace Sys2Proof.Machine

/-! ## Records by local index -/

/-- A local index beyond the records reads as a record at power-up. -/
theorem pointAt_beyond (s : State) (j : Nat) (hj : s.points.length ≤ j) : pointAt s j = Point.powerUp := by
  simp [pointAt, List.getD_eq_getElem?_getD, List.getElem?_eq_none hj]

/-- A check that a record at power-up passes holds of every record where it holds at every local index. -/
theorem all_points_iff (f : Point → Bool) (h0 : f Point.powerUp = true) (s : State) :
    s.points.all f = true ↔ ∀ j, f (pointAt s j) = true := by
  simp only [List.all_eq_true]
  constructor
  · intro h j
    rcases Nat.lt_or_ge j s.points.length with hj | hj
    · rw [pointAt, List.getD_eq_getElem _ _ hj]; exact h _ (List.getElem_mem hj)
    · rw [pointAt_beyond s j hj]; exact h0
  · intro h p hp
    obtain ⟨j, hj, rfl⟩ := List.getElem_of_mem hp
    have := h j
    rwa [pointAt, List.getD_eq_getElem _ _ hj] at this

/-- The records are read from the point list alone. -/
theorem pointAt_congr {s t : State} (h : t.points = s.points) (j : Nat) : pointAt t j = pointAt s j := by
  simp [pointAt, h]

/-- What an update of every record keeps of each record by itself, it keeps at every local index. -/
theorem pointAt_mapPoints_keeps (P : Nat → Point → Point → Prop) (f : Nat → Point → Point) (s : State)
    (h0 : ∀ j, P j Point.powerUp Point.powerUp) (h : ∀ j p, P j p (f j p)) (j : Nat) :
    P j (pointAt s j) (pointAt (mapPoints f s) j) := by
  rcases Nat.lt_or_ge j s.points.length with hj | hj
  · rw [pointAt_mapPoints f s j hj]; exact h j _
  · rw [pointAt_beyond s j hj, pointAt_beyond _ j (by simpa using hj)]; exact h0 j

/-- An outstanding point, which is in transit, is one of the station's. -/
theorem lt_length_of_inTransit {s : State} {i : Nat} (h : inTransit s i = true) : i < s.points.length := by
  rcases Nat.lt_or_ge i s.points.length with hi | hi
  · exact hi
  · simp [inTransit, pointAt_beyond s i hi, Point.powerUp] at h

/-! ## The laws, record by record -/

/-- The outstanding points of every batch, one list. -/
def outstanding (s : State) : List Nat := (s.matrix.batches.map Batch.left).flatten

/-- No point outstanding in two batches, and every outstanding point in transit: what R28 says of the batches before the
complete ones are reported. -/
def batchesApart (s : State) : Prop := (outstanding s).Nodup ∧ ∀ i ∈ outstanding s, inTransit s i = true

theorem batchesLawful_iff (s : State) :
    batchesLawful s = true ↔ (∀ b ∈ s.matrix.batches, b.left.isEmpty = false) ∧ batchesApart s := by
  simp only [batchesLawful, batchesApart, outstanding, Bool.and_eq_true, List.all_eq_true, decide_eq_true_eq,
    Bool.not_eq_true', and_assoc]

theorem pointsLawful_iff (s : State) :
    pointsLawful s = true ↔ s.points.length = Config.pointCount ∧ ∀ j, pointLawful (pointAt s j) = true := by
  simp only [pointsLawful, Bool.and_eq_true, decide_eq_true_eq, all_points_iff pointLawful rfl]

/-- Whether every point is held at FLOAT, HELD included (R32, R40). -/
def mustFloat (s : State) : Bool := heldAtFloat s || s.bus.held

theorem floatHoldLawful_iff (s : State) :
    floatHoldLawful s = true ↔ (mustFloat s = true → ∀ j, pointFloats (pointAt s j) = true) := by
  simp only [floatHoldLawful, mustFloat, Bool.or_eq_true, Bool.not_eq_true', Bool.or_eq_false_iff,
    all_points_iff pointFloats rfl]
  cases heldAtFloat s <;> cases s.bus.held <;> simp

/-- A sound switch matrix: the laws of the records, of the outstanding batches and of the hold at FLOAT. -/
structure MatrixSound (s : State) : Prop where
  points : pointsLawful s = true
  batches : batchesLawful s = true
  hold : floatHoldLawful s = true

/-- A switch matrix that is sound but for complete batches still to be reported (R28). -/
structure MatrixMoving (s : State) : Prop where
  points : pointsLawful s = true
  batches : batchesApart s
  hold : floatHoldLawful s = true

/-- A sound matrix is one with nothing to be reported. -/
theorem MatrixSound.moving {s : State} (h : MatrixSound s) : MatrixMoving s :=
  ⟨h.points, ((batchesLawful_iff s).1 h.batches).2, h.hold⟩

/-- One record as it may change without a batch: its fields still agree, in transit it stays so, at FLOAT it stays there. -/
structure PointKept (p q : Point) : Prop where
  lawful : pointLawful p = true → pointLawful q = true
  transit : pointLawful p = true → p.stage ≠ .rest → q.stage ≠ .rest
  floats : pointFloats p = true → pointFloats q = true

theorem PointKept.refl (p : Point) : PointKept p p := ⟨id, fun _ => id, id⟩

/-- A record whose switch, pending and stage are kept. -/
theorem PointKept.ofSwitching {p q : Point} (h : q.switch = p.switch ∧ q.pending = p.pending ∧ q.stage = p.stage) :
    PointKept p q := by
  obtain ⟨hs, hp, hg⟩ := h
  exact ⟨fun k => by simpa [pointLawful, hs, hp, hg] using k, fun _ k => by rwa [hg],
    fun k => by simpa [pointFloats, hs, hp, hg] using k⟩

/-- Changes record by record keep a matrix moving soundly, where the batches stay and no new hold at FLOAT begins. -/
theorem MatrixMoving.ofPoints {s t : State} (h : MatrixMoving s) (hl : t.points.length = s.points.length)
    (hb : t.matrix.batches = s.matrix.batches) (hp : ∀ j, PointKept (pointAt s j) (pointAt t j))
    (hm : mustFloat t = true → mustFloat s = true) : MatrixMoving t := by
  obtain ⟨hn, hlaw⟩ := (pointsLawful_iff s).1 h.points
  refine ⟨(pointsLawful_iff t).2 ⟨hl.trans hn, fun j => (hp j).lawful (hlaw j)⟩, ⟨?_, fun i hi => ?_⟩,
    (floatHoldLawful_iff t).2 fun k j => (hp j).floats ((floatHoldLawful_iff s).1 h.hold (hm k) j)⟩
  · simpa [outstanding, hb] using h.batches.1
  · have hs : inTransit s i = true := h.batches.2 i (by simpa [outstanding, hb] using hi)
    simp only [inTransit, bne_iff_ne] at hs ⊢
    exact (hp i).transit (hlaw i) hs

/-- Changes record by record keep a sound matrix, where the batches stay and no new hold at FLOAT begins. -/
theorem MatrixSound.ofPoints {s t : State} (h : MatrixSound s) (hl : t.points.length = s.points.length)
    (hb : t.matrix.batches = s.matrix.batches) (hp : ∀ j, PointKept (pointAt s j) (pointAt t j))
    (hm : mustFloat t = true → mustFloat s = true) : MatrixSound t := by
  have ht := h.moving.ofPoints hl hb hp hm
  refine ⟨ht.points, (batchesLawful_iff t).2 ⟨?_, ht.batches⟩, ht.hold⟩
  rw [hb]
  exact ((batchesLawful_iff s).1 h.batches).1

/-- What the laws of the matrix read: the records, the batches, the override, ESTOP and HELD. -/
def sameMatrix (s t : State) : Prop :=
  t.points = s.points ∧ t.matrix = s.matrix ∧ t.lines.estop = s.lines.estop ∧ t.bus.held = s.bus.held

theorem sameMatrix.mustFloat {s t : State} (h : sameMatrix s t) : mustFloat t = mustFloat s := by
  obtain ⟨-, hm, he, hh⟩ := h
  simp [Machine.mustFloat, heldAtFloat, hm, he, hh]

theorem MatrixSound.congr {s t : State} (h : MatrixSound s) (k : sameMatrix s t) : MatrixSound t :=
  h.ofPoints (by rw [k.1]) (by rw [k.2.1]) (fun j => pointAt_congr k.1 j ▸ PointKept.refl _) (by simp [k.mustFloat])

theorem MatrixMoving.congr {s t : State} (h : MatrixMoving s) (k : sameMatrix s t) : MatrixMoving t :=
  h.ofPoints (by rw [k.1]) (by rw [k.2.1]) (fun j => pointAt_congr k.1 j ▸ PointKept.refl _) (by simp [k.mustFloat])

/-- An update of every record that keeps each as it may change keeps a sound matrix. -/
theorem mapPoints_matrix {s : State} (h : MatrixSound s) (f : Nat → Point → Point) (hf : ∀ j p, PointKept p (f j p)) :
    MatrixSound (mapPoints f s) :=
  h.ofPoints (by simp) rfl (pointAt_mapPoints_keeps (fun _ => PointKept) f s (fun _ => .refl _) hf) id

/-- An update of one record that keeps it as it may change keeps a sound matrix. -/
theorem updatePoint_matrix {s : State} (h : MatrixSound s) (i : Nat) (f : Point → Point) (hf : ∀ p, PointKept p (f p)) :
    MatrixSound (updatePoint i f s) := by
  refine h.ofPoints (by simp) rfl (fun j => ?_) id
  rcases Nat.lt_or_ge j s.points.length with hj | hj
  · rw [pointAt_updatePoint i j f s hj]
    split
    · exact hf _
    · exact .refl _
  · rw [pointAt_beyond s j hj, pointAt_beyond _ j (by simpa using hj)]; exact .refl _

/-! ## Reports -/

/-- After the complete batches are reported none is outstanding without a point (R28). -/
theorem reportAll_matrix {s : State} (h : MatrixMoving s) : MatrixSound (reportAll s) := by
  have hb : (reportAll s).matrix.batches = s.matrix.batches.filter fun b => !b.left.isEmpty := by
    simp [reportAll, setBatches]
  have hp : (reportAll s).points = s.points := by simp
  have hm : mustFloat (reportAll s) = mustFloat s := by simp [mustFloat, heldAtFloat]
  have hsub : (outstanding (reportAll s)).Sublist (outstanding s) := by
    rw [outstanding, outstanding, hb]
    exact (List.filter_sublist.map Batch.left).flatten
  refine ⟨by simpa [pointsLawful] using h.points, (batchesLawful_iff _).2 ⟨?_, h.batches.1.sublist hsub, fun i hi => ?_⟩,
    (floatHoldLawful_iff _).2 ?_⟩
  · rw [hb]; intro b hb'; simpa using (List.mem_filter.1 hb').2
  · rw [inTransit, pointAt_congr hp]; exact h.batches.2 i (hsub.subset hi)
  · rw [hm]; intro k j; rw [pointAt_congr hp]; exact (floatHoldLawful_iff s).1 h.hold k j

/-- Points that have come to rest leave their batches: what is left is in transit (R28). -/
theorem dropReached_moving {s : State} (hp : pointsLawful s = true) (hb : (outstanding s).Nodup)
    (hf : floatHoldLawful s = true) : MatrixMoving (dropReached s) := by
  have he : outstanding (dropReached s) = (outstanding s).filter (inTransit s) := by
    simp only [outstanding, dropReached, setBatches, List.map_map, List.filter_flatten]
    rfl
  refine ⟨hp, ⟨he ▸ hb.filter _, fun i hi => ?_⟩, hf⟩
  rw [he] at hi
  exact (List.mem_filter.1 hi).2

/-! ## Batch requests -/

/-- A point at FLOAT and at rest is not in transit and stays so when requested to FLOAT. -/
theorem requestBatch_hold {s : State} (why : Purpose) (targets : List (Nat × Switch)) (h : floatHoldLawful s = true)
    (hh : s.bus.held = false) : floatHoldLawful (requestBatch why targets s) = true := by
  refine (floatHoldLawful_iff _).2 fun k j => ?_
  have hs : heldAtFloat s = true := by simpa [mustFloat, heldAtFloat, hh] using k
  rw [pointAt_congr (requestBatch_held why targets s hs)]
  exact (floatHoldLawful_iff s).1 h (by simp [mustFloat, hs]) j

/-- A batch request keeps every record's fields agreeing (R24, R25, R29). -/
theorem requestBatch_points_lawful {s : State} (why : Purpose) (targets : List (Nat × Switch))
    (h : pointsLawful s = true) : pointsLawful (requestBatch why targets s) = true := by
  cases hs : heldAtFloat s
  · obtain ⟨hn, hl⟩ := (pointsLawful_iff s).1 h
    refine (pointsLawful_iff _).2 ⟨?_, fun j => ?_⟩
    · rw [requestBatch_maps why targets s hs]; simpa using hn
    · rw [pointAt_congr (requestBatch_maps why targets s hs)]
      refine pointAt_mapPoints_keeps (fun _ p q => pointLawful p = true → pointLawful q = true) _ s (fun _ => id)
        (fun i p hp => ?_) j (hl j)
      unfold requestedPoint
      split
      · exact requestPoint_lawful _ _ _ _ hp
      · exact hp
  · simpa [pointsLawful, requestBatch_held why targets s hs] using h

/-- A batch names the points it has a target for (R27). -/
theorem targetOf_eq_none {targets : List (Nat × Switch)} {i : Nat} (h : i ∉ targets.map Prod.fst) :
    targetOf targets i = none := by
  simp only [targetOf, Option.map_eq_none_iff, List.find?_eq_none]
  intro q hq he
  exact h (List.mem_map.2 ⟨q, hq, by simpa using he⟩)

/-- The batches after a request that is not held: the earlier ones without its points, and its own with those not reached
(R27, R28). -/
theorem requestBatch_batches (why : Purpose) (targets : List (Nat × Switch)) (s : State) (h : heldAtFloat s = false) :
    (requestBatch why targets s).matrix.batches =
      s.matrix.batches.map (dropPoints (targets.map Prod.fst)) ++
        [{ purpose := why, left := (targets.map Prod.fst).filter (inTransit (requestBatch why targets s)) }] := by
  simp only [requestBatch, h]; rfl

/-- The outstanding points after a request that is not held. -/
theorem requestBatch_outstanding (why : Purpose) (targets : List (Nat × Switch)) (s : State) (h : heldAtFloat s = false) :
    outstanding (requestBatch why targets s) =
      (outstanding s).filter (fun i => !(targets.map Prod.fst).contains i) ++
        (targets.map Prod.fst).filter (inTransit (requestBatch why targets s)) := by
  rw [outstanding, requestBatch_batches why targets s h, outstanding, List.filter_flatten, List.map_append,
    List.flatten_append, List.map_map, List.map_map]
  simp [dropPoints, Function.comp_def]

/-- A request whose points are named once leaves the batches apart and their points in transit (R28). -/
theorem requestBatch_apart {s : State} (why : Purpose) (targets : List (Nat × Switch))
    (hn : (targets.map Prod.fst).Nodup) (h : batchesApart s) : batchesApart (requestBatch why targets s) := by
  cases hs : heldAtFloat s
  · rw [batchesApart, requestBatch_outstanding why targets s hs]
    refine ⟨(h.1.filter _).append (hn.filter _) fun i hi hj => ?_, fun i hi => ?_⟩
    · have := (List.mem_filter.1 hi).2
      simp only [Bool.not_eq_true', decide_eq_false_iff_not, List.contains_eq_mem] at this
      exact this (List.mem_filter.1 hj).1
    · rcases List.mem_append.1 hi with hi | hi
      · obtain ⟨hm, hk⟩ := List.mem_filter.1 hi
        have hk : i ∉ targets.map Prod.fst := by simpa using hk
        have ht := h.2 i hm
        rw [inTransit, requestBatch_point why targets s i (lt_length_of_inTransit ht) hs, requestedPoint,
          targetOf_eq_none hk]
        exact ht
      · exact (List.mem_filter.1 hi).2
  · have he : outstanding (requestBatch why targets s) = outstanding s := by simp [outstanding, requestBatch, hs, setBatches]
    have hp : (requestBatch why targets s).points = s.points := requestBatch_held why targets s hs
    rw [batchesApart, he]
    exact ⟨h.1, fun i hi => by rw [inTransit, pointAt_congr hp]; exact h.2 i hi⟩

/-- A request keeps the matrix sound but for what it has to report. -/
theorem requestBatch_moving {s : State} (why : Purpose) (targets : List (Nat × Switch))
    (hn : (targets.map Prod.fst).Nodup) (hh : s.bus.held = false) (h : MatrixSound s) :
    MatrixMoving (requestBatch why targets s) :=
  ⟨requestBatch_points_lawful why targets h.points, requestBatch_apart why targets hn h.moving.batches,
    requestBatch_hold why targets h.hold hh⟩

/-- A batch whose points are named once keeps a sound matrix, outside HELD. -/
theorem batch_matrix {s : State} (why : Purpose) (targets : List (Nat × Switch))
    (hn : (targets.map Prod.fst).Nodup) (hh : s.bus.held = false) (h : MatrixSound s) :
    MatrixSound (batch why targets s) :=
  reportAll_matrix (requestBatch_moving why targets hn hh h)

/-- A batch of every point names each once. -/
theorem everyPoint_nodup (s : State) (t : Switch) : ((everyPoint s t).map Prod.fst).Nodup := by
  simp [everyPoint, Function.comp_def, List.nodup_range]

/-- A batch with a target for every record names each once. -/
theorem targetsBy_nodup (s : State) (f : Nat → Point → Switch) : ((targetsBy s f).map Prod.fst).Nodup := by
  have : (targetsBy s f).map Prod.fst = s.points.zipIdx.map Prod.snd := by simp [targetsBy, Function.comp_def]
  rw [this, List.zipIdx_map_snd]
  exact List.nodup_range'

/-- The admission check names each point once. -/
theorem notAdmitted_nodup (s : State) : ((notAdmitted s).map Prod.fst).Nodup := by
  have hn : (s.points.zipIdx.map Prod.snd).Nodup := by rw [List.zipIdx_map_snd]; exact List.nodup_range'
  rw [List.Nodup, List.pairwise_map, notAdmitted, List.pairwise_filterMap]
  refine (List.pairwise_map.1 hn).imp fun {p q} hpq x hx y hy => ?_
  split at hx <;> cases hx
  split at hy <;> cases hy
  exact hpq

/-! ## Changes outside batches -/

/-- After a forced FLOAT every point is at FLOAT and at rest (R31). -/
theorem forcedFloat_floats (s : State) (j : Nat) : pointFloats (pointAt (forcedFloat s) j) = true :=
  pointAt_mapPoints_keeps (fun _ _ q => pointFloats q = true) (fun _ p => forceFloat p) s (fun _ => rfl)
    (fun _ p => forceFloat_floats p) j

/-- A station with every point at FLOAT and no batch has a sound matrix. -/
theorem MatrixSound.ofFloats {s : State} (hn : s.points.length = Config.pointCount) (hb : s.matrix.batches = [])
    (hf : ∀ j, pointFloats (pointAt s j) = true) : MatrixSound s :=
  ⟨(pointsLawful_iff s).2 ⟨hn, fun j => pointFloats_lawful _ (hf j)⟩,
    (batchesLawful_iff s).2 (by simp [hb, batchesApart, outstanding]), (floatHoldLawful_iff s).2 fun _ => hf⟩

/-- A forced FLOAT makes the matrix sound, whatever holds the points from then on (R31). -/
theorem forcedFloat_matrix {s t : State} (hn : s.points.length = Config.pointCount)
    (hp : t.points = (forcedFloat s).points) (hb : t.matrix.batches = []) : MatrixSound t :=
  .ofFloats (by rw [hp]; simpa [forcedFloat, setBatches] using hn) hb
    fun j => by rw [pointAt_congr hp]; exact forcedFloat_floats s j

/-- A point at FLOAT and at rest does not move at the end of a break. -/
theorem breakEnds_floats (live : Bool) (settle : Nat) (p : Point) (h : pointFloats p = true) :
    breakEnds live settle p = p := by
  simp only [pointFloats, Bool.and_eq_true, beq_iff_eq] at h
  simp [breakEnds, h.2]

/-- A point at FLOAT and at rest does not move at the end of a settle time. -/
theorem settleEnds_floats (live : Bool) (p : Point) (h : pointFloats p = true) : settleEnds live p = p := by
  simp only [pointFloats, Bool.and_eq_true, beq_iff_eq] at h
  simp [settleEnds, h.2]

/-- The release of LIVE keeps every record as it may change: none comes to rest by it (R30). -/
theorem liveFreed_kept (settle : Nat) (p : Point) : PointKept p (liveFreed settle p) := by
  refine ⟨liveFreed_lawful settle p, fun hl hs => ?_, fun hf => ?_⟩
  · unfold liveFreed
    split
    · simp
    · rename_i t hg hp
      have ht : t = .hv := by simpa [pointLawful, hg, hp] using hl
      simp [closeInto, ht]
    · split <;> simp_all
    · exact hs
  · simp only [pointFloats, Bool.and_eq_true, beq_iff_eq] at hf
    simpa [liveFreed, hf.2, pointFloats] using hf.1

/-- The end of break or settle times of some points, with the reports of what is reached by it, keeps a sound matrix. -/
theorem timesEnd_matrix {s : State} (h : MatrixSound s) (f : Nat → Point → Point)
    (hl : ∀ j p, pointLawful p = true → pointLawful (f j p) = true)
    (hf : ∀ j p, pointFloats p = true → pointFloats (f j p) = true) :
    MatrixSound (reportAll (dropReached (mapPoints f s))) := by
  obtain ⟨hn, hp⟩ := (pointsLawful_iff s).1 h.points
  refine reportAll_matrix (dropReached_moving ((pointsLawful_iff _).2 ⟨by simpa using hn, fun j => ?_⟩)
    h.moving.batches.1 ((floatHoldLawful_iff _).2 fun k j => ?_))
  · exact pointAt_mapPoints_keeps (fun _ p q => pointLawful p = true → pointLawful q = true) f s (fun _ => id) hl j (hp j)
  · exact pointAt_mapPoints_keeps (fun _ p q => pointFloats p = true → pointFloats q = true) f s (fun _ => id) hf j
      ((floatHoldLawful_iff s).1 h.hold k j)

end Sys2Proof.Machine
end

section
/-! SUPPORT. The laws of the lists a station keeps (R17, R137, R138, R150) and of the run parameters (R73), and what the
operations on them make of these laws. -/

namespace Sys2Proof.Machine

/-! ## Defect List -/

/-- The identities of the records of a list, in order (R137). -/
def identsOf (d : Defects) : List Ident := d.records.map fun r => identOf r.what

/-- A SHORT is the one record of class order 3 (R136). -/
theorem identOf_eq_short {d : Defect} {a b : Nat} (h : identOf d = { order := 3, a := a, b := b }) : d = .short a b := by
  cases d <;> simp_all [identOf, classOrder, fieldA, fieldB]

/-- A LEAKAGE is the one record of class order 4 (R136). -/
theorem identOf_eq_leakage {d : Defect} {a b : Nat} (h : identOf d = { order := 4, a := a, b := b }) :
    ∃ r, d = .leakage a b r := by
  cases d <;> simp_all [identOf, classOrder, fieldA, fieldB]

/-- Identities in which no pair has both a SHORT and a LEAKAGE (R142). -/
def pairsApart (ids : List Ident) : Prop :=
  ∀ a b, { order := 3, a := a, b := b } ∈ ids → { order := 4, a := a, b := b } ∉ ids

/-- The laws of the Defect List speak of its identities and its lost count alone. -/
theorem defectsLawful_iff (d : Defects) :
    defectsLawful d = true ↔ (identsOf d).Pairwise (fun x y => identLt x y = true) ∧
      (identsOf d).length ≤ Config.defectCapacity ∧ pairsApart (identsOf d) ∧ d.lost ≤ Config.countLimit := by
  have hx : (∀ x ∈ d.records, ∀ y ∈ d.records, (match x.what, y.what with
      | .short a b, .leakage a' b' _ => !(a == a' && b == b')
      | _, _ => true) = true) ↔ pairsApart (identsOf d) := by
    constructor
    · intro h a b h3 h4
      obtain ⟨x, hx, ex⟩ := List.mem_map.1 h3
      obtain ⟨y, hy, ey⟩ := List.mem_map.1 h4
      obtain ⟨r, ey⟩ := identOf_eq_leakage ey
      have := h x hx y hy
      simp [identOf_eq_short ex, ey] at this
    · intro h x hx y hy
      split
      · rename_i a b a' b' r ex ey
        have h3 : (⟨3, a, b⟩ : Ident) ∈ identsOf d := List.mem_map.2 ⟨x, hx, by rw [ex]; rfl⟩
        have h4 : (⟨4, a', b'⟩ : Ident) ∈ identsOf d := List.mem_map.2 ⟨y, hy, by rw [ey]; rfl⟩
        by_contra hc
        simp only [Bool.not_eq_true', Bool.not_eq_false, Bool.and_eq_true, beq_iff_eq] at hc
        exact h a b h3 (hc.1 ▸ hc.2 ▸ h4)
      · rfl
  simp only [defectsLawful, Bool.and_eq_true, decide_eq_true_eq, List.all_eq_true, identsOf, List.pairwise_map,
    List.length_map, and_assoc] at hx ⊢
  exact and_congr Iff.rfl (and_congr Iff.rfl (and_congr hx Iff.rfl))

/-- A list with the same identities and the same lost count is as lawful. -/
theorem defectsLawful_congr {d e : Defects} (hi : identsOf e = identsOf d) (hl : e.lost = d.lost) :
    defectsLawful e = defectsLawful d := by
  rw [Bool.eq_iff_iff, defectsLawful_iff, defectsLawful_iff, hi, hl]

theorem holdsIdent_iff (s : State) (id : Ident) : holdsIdent s id = true ↔ id ∈ identsOf s.defects := by
  simp [holdsIdent, identsOf]

/-- The identities after a placement: the new one and the old ones (R141). -/
theorem mem_idents_insertRecord (r : Record) (l : List Record) (id : Ident) :
    id ∈ (insertRecord r l).map (fun x => identOf x.what) ↔ id = identOf r.what ∨ id ∈ l.map fun x => identOf x.what := by
  simp only [List.mem_map, mem_insertRecord]
  constructor
  · rintro ⟨x, rfl | hx, rfl⟩
    · exact .inl rfl
    · exact .inr ⟨x, hx, rfl⟩
  · rintro (rfl | ⟨x, hx, rfl⟩)
    · exact ⟨r, .inl rfl, rfl⟩
    · exact ⟨x, .inr hx, rfl⟩

/-- A placement in an ascending list in which the identity is not held, and in which no SHORT and LEAKAGE of one pair meet by
it, keeps the laws (R137, R138, R141). -/
theorem insertRecord_lawful {d : Defects} {r : Record} (h : defectsLawful d = true)
    (hc : d.records.length < Config.defectCapacity) (hn : identOf r.what ∉ identsOf d)
    (h3 : ∀ a b, identOf r.what = ⟨3, a, b⟩ → (⟨4, a, b⟩ : Ident) ∉ identsOf d)
    (h4 : ∀ a b, identOf r.what = ⟨4, a, b⟩ → (⟨3, a, b⟩ : Ident) ∉ identsOf d) :
    defectsLawful { d with records := insertRecord r d.records } = true := by
  obtain ⟨hs, -, hp, hl⟩ := (defectsLawful_iff d).1 h
  have hm : ∀ id, id ∈ identsOf { d with records := insertRecord r d.records } ↔ id = identOf r.what ∨ id ∈ identsOf d :=
    mem_idents_insertRecord r d.records
  refine (defectsLawful_iff _).2 ⟨?_, ?_, fun a b k3 k4 => ?_, hl⟩
  · refine List.pairwise_map.2 (insertRecord_sorted r _ (List.pairwise_map.1 hs) fun x hx e => hn ?_)
    exact List.mem_map.2 ⟨x, hx, e⟩
  · simpa [identsOf, length_insertRecord] using hc
  · rcases (hm _).1 k3 with e3 | e3 <;> rcases (hm _).1 k4 with e4 | e4
    · rw [← e4] at e3; cases e3
    · exact h3 a b e3.symm e4
    · exact h4 a b e4.symm e3
    · exact hp a b e3 e4

/-- An offer stored or counted lost keeps the laws where its identity is new and no pair meets by it (R141, R143). -/
theorem storeOffer_lawful {s : State} {d : Defect} (h : defectsLawful s.defects = true)
    (hn : holdsIdent s (identOf d) = false)
    (h3 : ∀ a b, identOf d = ⟨3, a, b⟩ → holdsIdent s ⟨4, a, b⟩ = false)
    (h4 : ∀ a b, identOf d = ⟨4, a, b⟩ → holdsIdent s ⟨3, a, b⟩ = false) :
    defectsLawful (storeOffer d s).defects = true := by
  have hi : ∀ id, holdsIdent s id = false → id ∉ identsOf s.defects := fun id k => by simp [← holdsIdent_iff, k]
  unfold storeOffer
  split
  · rename_i hc
    exact insertRecord_lawful h hc (hi _ hn) (fun a b e => hi _ (h3 a b e)) fun a b e => hi _ (h4 a b e)
  · obtain ⟨hs, hc, hp, -⟩ := (defectsLawful_iff _).1 h
    have hd : ∀ u, (raise .listFull u).defects = u.defects := fun u => by simp
    rw [hd]
    exact (defectsLawful_iff _).2 ⟨hs, hc, hp, Nat.min_le_left _ _⟩

/-- The replacement of a LEAKAGE held by the SHORT of its pair keeps the laws (R142). -/
theorem replaceLeakage_lawful {s : State} {lo hi : Nat} (h : defectsLawful s.defects = true)
    (hn : holdsIdent s ⟨3, lo, hi⟩ = false) (hl : holdsIdent s ⟨4, lo, hi⟩ = true) :
    defectsLawful (replaceLeakage lo hi s).defects = true := by
  obtain ⟨hs, hc, hp, hlost⟩ := (defectsLawful_iff _).1 h
  let d : Defects := { s.defects with
    records := s.defects.records.filter fun r => identOf r.what != { order := 4, a := lo, b := hi } }
  have hsub : (identsOf d).Sublist (identsOf s.defects) := List.filter_sublist.map _
  have hgone : (⟨4, lo, hi⟩ : Ident) ∉ identsOf d := by simp [identsOf, d]
  have hlt : d.records.length < Config.defectCapacity := by
    obtain ⟨x, hx, ex⟩ := List.mem_map.1 ((holdsIdent_iff _ _).1 hl)
    have hlt : d.records.length < s.defects.records.length :=
      List.length_filter_lt_length_iff_exists.2 ⟨x, hx, by simp [ex]⟩
    simp only [identsOf, List.length_map] at hc
    omega
  have hd : defectsLawful d = true :=
    (defectsLawful_iff d).2 ⟨hs.sublist hsub, hsub.length_le.trans hc, fun a b k3 k4 =>
      hp a b (hsub.subset k3) (hsub.subset k4), hlost⟩
  refine insertRecord_lawful (r := { what := .short lo hi, mark := .unprinted }) hd hlt (fun k => ?_)
    (fun a b e => ?_) fun a b e => by cases e
  · rw [(holdsIdent_iff s ⟨3, lo, hi⟩).2 (hsub.subset k)] at hn; cases hn
  · cases e; exact hgone

/-- An offer keeps the laws of the Defect List (R137, R138, R141 to R143). -/
theorem offer_lawful (d : Defect) (s : State) (h : defectsLawful s.defects = true) :
    defectsLawful (offer d s).defects = true := by
  unfold offer
  split
  · exact h
  · rename_i hn
    have hn : holdsIdent s (identOf d) = false := by simpa using hn
    split
    · rename_i lo hi r
      split
      · exact h
      · rename_i h3
        exact storeOffer_lawful h hn (fun a b e => by cases e) fun a b e => by cases e; exact Bool.eq_false_iff.2 h3
    · rename_i lo hi
      split
      · rename_i h4; exact replaceLeakage_lawful h hn h4
      · rename_i h4
        exact storeOffer_lawful h hn (fun a b e => by cases e; exact Bool.eq_false_iff.2 h4) fun a b e => by cases e
    · rename_i hs hl
      refine storeOffer_lawful h hn (fun a b e => ?_) fun a b e => ?_
      · exact (hl a b (identOf_eq_short e)).elim
      · obtain ⟨r, e⟩ := identOf_eq_leakage e
        exact (hs a b r e).elim

/-- The marks of a pass start keep every identity (R145). -/
theorem clearMarks_lawful (s : State) : defectsLawful (clearMarks s).defects = defectsLawful s.defects :=
  defectsLawful_congr (by simp [clearMarks, setDefects, identsOf, Function.comp_def]) rfl

/-- The marks of a LINE keep every identity (R145). -/
theorem markLine_lawful (src : Addr) (key : Value) (s : State) :
    defectsLawful (markLine src key s).defects = defectsLawful s.defects := by
  refine defectsLawful_congr ?_ rfl
  simp only [markLine, setDefects, identsOf, List.map_map]
  exact List.map_congr_left fun r _ => by simp only [Function.comp_def]; split <;> rfl

/-! ## Net Map -/

/-- What the run never writes of an entry of the Net Map (R17): its net and its count. -/
def netKey (e : NetEntry) : Nat × Nat := (e.net, e.count)

/-- The order of the Net Map is that of its nets alone. -/
theorem netMapLawful_congr {s t : State} (h : t.netMap.map netKey = s.netMap.map netKey) :
    netMapLawful t = netMapLawful s := by
  have hk : ∀ u : State, netMapLawful u = decide ((u.netMap.map netKey).Pairwise fun x y => x.1 < y.1) := by
    intro u; simp [netMapLawful, List.pairwise_map, netKey]
  rw [hk, hk, h]

/-- A change of the entry of a net that keeps its net and its count keeps those of the whole map. -/
theorem updateNet_keys (n : Nat) (f : NetEntry → NetEntry) (hf : ∀ e, netKey (f e) = netKey e) (s : State) :
    (updateNet n f s).netMap.map netKey = s.netMap.map netKey := by
  simp only [updateNet, setNetMap, List.map_map]
  refine List.map_congr_left fun e _ => ?_
  simp only [Function.comp_def]
  split
  · exact hf e
  · rfl

theorem leadNet_key (d : Nat) (e : NetEntry) : netKey (leadNet d e) = netKey e := by
  unfold leadNet; split <;> rfl

/-- The entries after a count: of the net counted, or of a net held before (R17). -/
theorem mem_countNet {n : Nat} {l : List NetEntry} {e : NetEntry} (h : e ∈ countNet n l) :
    e.net = n ∨ ∃ x ∈ l, x.net = e.net := by
  induction l with
  | nil => exact .inl (by simp [countNet] at h; rw [h])
  | cons x l ih =>
      unfold countNet at h
      split at h
      · rcases List.mem_cons.1 h with rfl | h
        · exact .inl rfl
        · exact .inr ⟨e, h, rfl⟩
      · split at h
        · rename_i hn
          rcases List.mem_cons.1 h with rfl | h
          · exact .inl hn.symm
          · exact .inr ⟨e, List.mem_cons_of_mem _ h, rfl⟩
        · rcases List.mem_cons.1 h with rfl | h
          · exact .inr ⟨_, List.mem_cons_self, rfl⟩
          · rcases ih h with h | ⟨y, hy, e⟩
            · exact .inl h
            · exact .inr ⟨y, List.mem_cons_of_mem _ hy, e⟩

/-- A count keeps the ascending order of nets (R17). -/
theorem countNet_sorted (n : Nat) (l : List NetEntry) (h : l.Pairwise fun x y => x.net < y.net) :
    (countNet n l).Pairwise fun x y => x.net < y.net := by
  induction l with
  | nil => simp [countNet]
  | cons x l ih =>
      obtain ⟨hx, hl⟩ := List.pairwise_cons.1 h
      unfold countNet
      split
      · rename_i hn
        refine List.pairwise_cons.2 ⟨fun y hy => ?_, h⟩
        rcases List.mem_cons.1 hy with rfl | hy
        · exact hn
        · exact Nat.lt_trans hn (hx y hy)
      · split
        · exact List.pairwise_cons.2 ⟨hx, hl⟩
        · refine List.pairwise_cons.2 ⟨fun y hy => ?_, ih hl⟩
          rcases mem_countNet hy with e | ⟨z, hz, e⟩
          · omega
          · exact e ▸ hx z hz

/-- A count adds at most one entry (R17). -/
theorem length_countNet_le (n : Nat) (l : List NetEntry) : (countNet n l).length ≤ l.length + 1 := by
  induction l with
  | nil => simp [countNet]
  | cons x l ih =>
      unfold countNet
      split
      · simp
      · split
        · simp
        · simpa using ih

/-- The counts of a list of nets give an ascending map with at most one entry for each of them. -/
theorem countNets_sorted_length (nets : List Nat) (l : List NetEntry) (h : l.Pairwise fun x y => x.net < y.net) :
    (nets.foldl (fun m n => countNet n m) l).Pairwise (fun x y => x.net < y.net) ∧
      (nets.foldl (fun m n => countNet n m) l).length ≤ l.length + nets.length := by
  induction nets generalizing l with
  | nil => exact ⟨h, by simp⟩
  | cons n nets ih =>
      obtain ⟨hs, hl⟩ := ih (countNet n l) (countNet_sorted n l h)
      have := length_countNet_le n l
      exact ⟨hs, by simp only [List.foldl_cons, List.length_cons]; omega⟩

/-- The Net Map built at PREPARE is ascending and has at most one entry for each point (R17, R18). -/
theorem builtNetMap_sorted_length (s : State) :
    (builtNetMap s).Pairwise (fun x y => x.net < y.net) ∧ (builtNetMap s).length ≤ s.points.length := by
  obtain ⟨hs, hl⟩ := countNets_sorted_length
    (s.points.zipIdx.filterMap fun q => if sensable s q.2 q.1 then some (effNetOf s q.2 q.1) else none) [] .nil
  have hn := List.length_filterMap_le
    (fun q : Point × Nat => if sensable s q.2 q.1 then some (effNetOf s q.2 q.1) else none) s.points.zipIdx
  simp only [List.length_nil, List.length_zipIdx] at hl hn
  refine ⟨List.pairwise_map.2 (hs.imp fun {x y} h => ?_), by rw [builtNetMap, List.length_map]; omega⟩
  split <;> split <;> exact h

/-! ## Print Engine -/

/-- The laws of the Print Engine, field by field (R150, R158, R162). -/
theorem printLawful_iff (p : Printer) :
    printLawful p = true ↔ p.credit ≤ 255 ∧ 20 ≤ p.pageLength ∧ p.pageLength ≤ 120 ∧ p.lineOn < p.pageLength ∧
      p.page ≤ 9999 ∧ p.printed ≤ 65535 ∧ p.footer ≤ 2 ∧ (p.pass = true ∨ p.stall = none) ∧
      ∀ e, p.stall = some e → e ≤ 10000 := by
  simp only [printLawful, Bool.and_eq_true, Bool.or_eq_true, decide_eq_true_eq, Option.isNone_iff_eq_none,
    Option.all_eq_true, and_assoc]
  rfl

/-- A clean LINE during a pass keeps the counters in their ranges (R158, R159). -/
theorem countLine_lawful (key : Value) (p : Printer) (h : printLawful p = true) (hp : p.pass = true) :
    printLawful (countLine key p) = true := by
  rw [printLawful_iff] at h ⊢
  obtain ⟨hc, h20, h120, hl, hpg, hpr, hf, -, -⟩ := h
  refine ⟨hc, h20, h120, ?_, ?_, ?_, ?_, .inl hp, fun e he => by cases he; omega⟩
  · simp only [countLine]; split <;> omega
  · simp only [countLine, Config.maxPage]; split <;> omega
  · simp only [countLine, Config.countLimit]; split <;> omega
  · simp only [countLine]; split
    · omega
    · split <;> omega

/-! ## Run parameters -/

/-- The parameters a RUN PARAMETERS call stores lie in their ranges (R73). -/
theorem storedParams_lawful (a : ParamArgs) : paramsLawful (storedParams a) = true := by
  have hn : [1, 2, 4, 8].contains (sampleCount a.n.toNat) = true := by
    unfold sampleCount; split <;> [rfl; split <;> [rfl; split <;> rfl]]
  have hw : [8, 16, 32].contains (windowLength a.w.toNat) = true := by
    unfold windowLength; split
    · rename_i h; rcases h with h | h <;> rw [h] <;> rfl
    · rfl
  have hp : profileNumber a.profile.toNat ≤ 4 := by unfold profileNumber; split <;> omega
  simp only [paramsLawful, Bool.and_eq_true, decide_eq_true_eq, and_assoc]
  simp only [storedParams, testVoltage, clamp, Config.maxIr]
  refine ⟨?_, ?_, ?_, hn, ?_, ?_, ?_, ?_, ?_, ?_, ?_, hp, ?_, ?_, hw, ?_, ?_, ?_, ?_, ?_, ?_⟩ <;> omega

theorem paramsLawful_defaults : paramsLawful Params.defaults = true := by decide

end Sys2Proof.Machine
end

section
/-! SUPPORT. What every operation but those that write the netlist, the blocks or the parameters keeps of a station: one
relation between the state before and the state after, which composes, and its lemma for each shared operation. -/

namespace Sys2Proof.Machine

/-- The netlist fields of a record (R1). -/
def netlistOf (p : Point) : Nat × Role := (p.net, p.role)

/-- What a run never writes (R2, R17, R72, R74), kept from one state to another; with it the parameters, the laws of the lists
and of the printout, and outside HELD the laws of the switch matrix. -/
structure TablesKept (s t : State) : Prop where
  netlist : t.points.map netlistOf = s.points.map netlistOf
  blocks : t.blocks = s.blocks
  netKeys : t.netMap.map netKey = s.netMap.map netKey
  number : t.run.number = s.run.number
  sweepOn : t.run.sweepOn = s.run.sweepOn
  insOn : t.run.insOn = s.run.insOn
  params : t.params = s.params
  held : t.bus.held = s.bus.held
  defects : defectsLawful s.defects = true → defectsLawful t.defects = true
  print : paramsLawful s.params = true → printLawful s.print = true → printLawful t.print = true
  matrix : s.bus.held = false → MatrixSound s → MatrixSound t

namespace TablesKept

theorem refl (s : State) : TablesKept s s := ⟨rfl, rfl, rfl, rfl, rfl, rfl, rfl, rfl, id, fun _ => id, fun _ => id⟩

theorem trans {s u t : State} (h : TablesKept s u) (k : TablesKept u t) : TablesKept s t where
  netlist := k.netlist.trans h.netlist
  blocks := k.blocks.trans h.blocks
  netKeys := k.netKeys.trans h.netKeys
  number := k.number.trans h.number
  sweepOn := k.sweepOn.trans h.sweepOn
  insOn := k.insOn.trans h.insOn
  params := k.params.trans h.params
  held := k.held.trans h.held
  defects := k.defects ∘ h.defects
  print hp := k.print (h.params.symm ▸ hp) ∘ h.print hp
  matrix hh := k.matrix (h.held.trans hh) ∘ h.matrix hh

/-- The fields outside the switch matrix, the Defect List and the Print Engine of which the relation speaks. -/
def sameKeys (s t : State) : Prop :=
  t.points.map netlistOf = s.points.map netlistOf ∧ t.blocks = s.blocks ∧ t.netMap.map netKey = s.netMap.map netKey ∧
  t.run.number = s.run.number ∧ t.run.sweepOn = s.run.sweepOn ∧ t.run.insOn = s.run.insOn ∧ t.params = s.params ∧
  t.bus.held = s.bus.held

/-- An operation that leaves the fields alone and moves the points soundly. -/
theorem ofMatrix {s t : State} (h : sameKeys s t) (hd : t.defects = s.defects ∧ t.print = s.print)
    (hm : s.bus.held = false → MatrixSound s → MatrixSound t) : TablesKept s t := by
  obtain ⟨h1, h2, h3, h4, h5, h6, h7, h8⟩ := h
  exact ⟨h1, h2, h3, h4, h5, h6, h7, h8, fun k => hd.1 ▸ k, fun _ k => hd.2 ▸ k, hm⟩

/-- An operation that leaves the fields and the switch matrix alone, and keeps the laws of the list and the printout. -/
theorem ofLists {s t : State} (h : sameKeys s t) (hm : sameMatrix s t)
    (hd : defectsLawful s.defects = true → defectsLawful t.defects = true)
    (hp : paramsLawful s.params = true → printLawful s.print = true → printLawful t.print = true) : TablesKept s t := by
  obtain ⟨h1, h2, h3, h4, h5, h6, h7, h8⟩ := h
  exact ⟨h1, h2, h3, h4, h5, h6, h7, h8, hd, hp, fun _ k => k.congr hm⟩

/-- An operation that leaves every field of which the relation speaks alone. -/
theorem ofSame {s t : State} (h : sameKeys s t ∧ sameMatrix s t ∧ t.defects = s.defects ∧ t.print = s.print) :
    TablesKept s t :=
  .ofLists h.1 h.2.1 (fun k => h.2.2.1 ▸ k) fun _ k => h.2.2.2 ▸ k

end TablesKept

/-! ## The Defect List and the printout -/

/-- An offer keeps the tables (R141). -/
theorem offer_tables (d : Defect) (s : State) : TablesKept s (offer d s) :=
  .ofLists (by simp [TablesKept.sameKeys]) (by simp [sameMatrix]) (offer_lawful d s) (by simp)

/-- A list of offers keeps the tables (R140). -/
theorem offerAll_tables (ds : List Defect) (s : State) : TablesKept s (offerAll ds s) := by
  induction ds generalizing s with
  | nil => exact .refl s
  | cons d ds ih => exact (offer_tables d s).trans (ih _)

/-- The end of a print pass keeps the tables (R153, R160, R162, R163). -/
theorem endPass_tables (how : PassEnd) (s : State) : TablesKept s (endPass how s) := by
  refine .ofLists (by simp [TablesKept.sameKeys, endPass, setPrint]) (by simp [sameMatrix, endPass, setPrint])
    (by simp [endPass, setPrint]) fun _ h => ?_
  obtain ⟨hc, h20, h120, hl, hpg, hpr, hf, -, -⟩ := (printLawful_iff _).1 h
  simpa [endPass, setPrint, printLawful_iff] using ⟨hc, h20, h120, hl, hpg, hpr, hf⟩

/-- The LINE bid keeps the tables (R157). -/
theorem rebid_tables (s : State) : TablesKept s (rebid s) := by
  refine .ofSame ?_
  unfold rebid
  split <;> simp [TablesKept.sameKeys, sameMatrix]

/-- A pass start keeps the tables (R152). -/
theorem startPass_tables (s : State) : TablesKept s (startPass s) := by
  refine .ofLists ⟨rfl, rfl, rfl, rfl, rfl, rfl, rfl, rfl⟩ ⟨rfl, rfl, rfl, rfl⟩ (fun h => (clearMarks_lawful s).trans h)
    fun hp h => ?_
  have hpg : 20 ≤ s.params.page ∧ s.params.page ≤ 120 := by
    simp only [paramsLawful, Bool.and_eq_true, decide_eq_true_eq, and_assoc] at hp
    obtain ⟨-, -, -, -, -, -, -, -, -, -, -, -, -, -, -, -, -, -, -, hp⟩ := hp
    exact hp
  have hc := ((printLawful_iff _).1 h).1
  exact (printLawful_iff _).2
    ⟨hc, hpg.1, hpg.2, Nat.lt_of_lt_of_le (Nat.succ_pos 19) hpg.1, Nat.zero_le _, Nat.zero_le _, Nat.zero_le _, .inl rfl,
      fun e he => by cases he; omega⟩

/-- A change of the Print Engine that keeps its laws keeps the tables. -/
theorem setPrint_tables {p : Printer} {s : State} (h : printLawful s.print = true → printLawful p = true) :
    TablesKept s (setPrint p s) :=
  .ofLists ⟨rfl, rfl, rfl, rfl, rfl, rfl, rfl, rfl⟩ ⟨rfl, rfl, rfl, rfl⟩ id fun _ => h

/-- An event keeps the tables (R178). -/
theorem raise_tables (e : Event) (s : State) : TablesKept s (raise e s) :=
  .ofSame (by simp [TablesKept.sameKeys, sameMatrix])

/-- A clean LINE keeps the tables (R145, R151, R157 to R161). -/
theorem takeLine_tables (src : Addr) (key : Value) (s : State) : TablesKept s (takeLine src key s) := by
  have hc : TablesKept s (setPrint { s.print with credit := s.print.credit - 1 } s) :=
    setPrint_tables fun h => by
      obtain ⟨hc, h⟩ := (printLawful_iff _).1 h
      exact (printLawful_iff _).2 ⟨Nat.le_trans (Nat.sub_le _ _) hc, h⟩
  have hm : ∀ u, TablesKept u (markLine src key u) := fun u =>
    .ofLists ⟨rfl, rfl, rfl, rfl, rfl, rfl, rfl, rfl⟩ ⟨rfl, rfl, rfl, rfl⟩ (fun h => (markLine_lawful src key u).trans h)
      fun _ => id
  unfold takeLine
  simp only
  split
  · exact hc.trans (hm _)
  · rename_i hp
    refine (hc.trans (hm _)).trans ((setPrint_tables fun h => countLine_lawful key _ h (by simpa using hp)).trans ?_)
    split
    · exact (endPass_tables _ _).trans (raise_tables _ _)
    · exact rebid_tables _

/-- A clean CREDIT keeps the tables (R151, R157, R162): a count is one byte. -/
theorem takeCredit_tables {count : Nat} (h : count ≤ 255) (s : State) : TablesKept s (takeCredit count s) := by
  have hc : TablesKept s (setPrint { s.print with credit := count } s) :=
    setPrint_tables fun k => (printLawful_iff _).2 ⟨h, ((printLawful_iff _).1 k).2⟩
  unfold takeCredit
  simp only
  split
  · rename_i hp
    refine hc.trans (TablesKept.trans (setPrint_tables fun k => ?_) (rebid_tables _))
    obtain ⟨h1, h2, h3, h4, h5, h6, h7, -, -⟩ := (printLawful_iff _).1 k
    exact (printLawful_iff _).2 ⟨h1, h2, h3, h4, h5, h6, h7, .inl hp, fun e he => by cases he; omega⟩
  · exact hc

/-! ## The Net Map -/

/-- A change of an entry's leader, state or reason keeps the tables (R19, R20). -/
theorem updateNet_tables (n : Nat) (f : NetEntry → NetEntry) (hf : ∀ e, netKey (f e) = netKey e) (s : State) :
    TablesKept s (updateNet n f s) :=
  .ofLists ⟨rfl, rfl, updateNet_keys n f hf s, rfl, rfl, rfl, rfl, rfl⟩ ⟨rfl, rfl, rfl, rfl⟩ id fun _ => id

/-! ## Points -/

/-- The netlist fields after an update of every record that keeps those of each. -/
theorem mapPoints_netlist (f : Nat → Point → Point) (hf : ∀ j p, netlistOf (f j p) = netlistOf p) (s : State) :
    (mapPoints f s).points.map netlistOf = s.points.map netlistOf := by
  have h : (fun q : Point × Nat => netlistOf (f q.2 q.1)) = netlistOf ∘ Prod.fst := funext fun q => hf q.2 q.1
  simp only [mapPoints, List.map_map, Function.comp_def] at h ⊢
  rw [h]
  simp [← Function.comp_def netlistOf Prod.fst, ← List.map_map]

/-- The netlist fields after an update of one record that keeps them. -/
theorem updatePoint_netlist (i : Nat) (f : Point → Point) (hf : ∀ p, netlistOf (f p) = netlistOf p) (s : State) :
    (updatePoint i f s).points.map netlistOf = s.points.map netlistOf := by
  refine List.ext_getElem? fun j => ?_
  simp only [updatePoint, List.getElem?_map, List.getElem?_modify]
  cases s.points[j]? with
  | none => simp
  | some p => by_cases h : i = j <;> simp [h, hf]

/-- An update of one record that keeps its netlist and its switching keeps the tables. -/
theorem updatePoint_tables (i : Nat) (f : Point → Point) (hn : ∀ p, netlistOf (f p) = netlistOf p)
    (hk : ∀ p, (f p).switch = p.switch ∧ (f p).pending = p.pending ∧ (f p).stage = p.stage) (s : State) :
    TablesKept s (updatePoint i f s) :=
  .ofMatrix ⟨updatePoint_netlist i f hn s, rfl, rfl, rfl, rfl, rfl, rfl, rfl⟩ ⟨rfl, rfl⟩ fun _ h =>
    updatePoint_matrix h i f fun p => .ofSwitching (hk p)

/-- A request for one point keeps its netlist. -/
theorem requestPoint_netlist (live : Bool) (settle : Nat) (t : Switch) (p : Point) :
    netlistOf (requestPoint live settle t p) = netlistOf p := by
  unfold requestPoint closeInto startChange
  split <;> (try split) <;> (try split) <;> rfl

/-- A batch request keeps the netlist. -/
theorem requestBatch_netlist (why : Purpose) (targets : List (Nat × Switch)) (s : State) :
    (requestBatch why targets s).points.map netlistOf = s.points.map netlistOf := by
  cases h : heldAtFloat s
  · rw [requestBatch_maps why targets s h]
    refine mapPoints_netlist _ (fun j p => ?_) s
    unfold requestedPoint
    split
    · exact requestPoint_netlist _ _ _ _
    · rfl
  · rw [requestBatch_held why targets s h]

/-- A batch that names each point once keeps the tables. -/
theorem batch_tables (why : Purpose) (targets : List (Nat × Switch)) (hn : (targets.map Prod.fst).Nodup) (s : State) :
    TablesKept s (batch why targets s) :=
  .ofMatrix (by simp [TablesKept.sameKeys, requestBatch_netlist]) (by simp) (batch_matrix why targets hn)

/-- A FLOAT batch keeps the tables. -/
theorem floatAll_tables (why : Purpose) (s : State) : TablesKept s (floatAll why s) :=
  batch_tables why _ (everyPoint_nodup s .float) s

/-- A forced FLOAT keeps the netlist. -/
theorem forcedFloat_netlist (s : State) : (forcedFloat s).points.map netlistOf = s.points.map netlistOf :=
  mapPoints_netlist (fun _ p => forceFloat p) (fun _ _ => rfl) s

/-- A pass command or its end moves no point, and so keeps the tables (R95, R96). -/
theorem commandPass_tables (s : State) : TablesKept s (commandPass s) :=
  .ofSame (by simp [TablesKept.sameKeys, sameMatrix])

/-! ## Phases and run ends -/

/-- Bids change the slot alone. -/
@[simp] theorem bidDrive_frame (s : State) :
    (bidDrive s).points = s.points ∧ (bidDrive s).blocks = s.blocks ∧ (bidDrive s).netMap = s.netMap ∧
    (bidDrive s).run = s.run ∧ (bidDrive s).params = s.params ∧ (bidDrive s).bus.held = s.bus.held ∧
    (bidDrive s).bus.silent = s.bus.silent ∧ (bidDrive s).lines = s.lines ∧ (bidDrive s).matrix = s.matrix ∧
    (bidDrive s).sampler = s.sampler ∧ (bidDrive s).defects = s.defects ∧ (bidDrive s).print = s.print ∧
    (bidDrive s).decoder = s.decoder ∧ (bidDrive s).hv = s.hv ∧ (bidDrive s).straps = s.straps := by
  unfold bidDrive; split <;> simp

/-- Bids change the slot alone. -/
@[simp] theorem bidNet_frame (s : State) :
    (bidNet s).points = s.points ∧ (bidNet s).blocks = s.blocks ∧ (bidNet s).netMap = s.netMap ∧
    (bidNet s).run = s.run ∧ (bidNet s).params = s.params ∧ (bidNet s).bus.held = s.bus.held ∧
    (bidNet s).bus.silent = s.bus.silent ∧ (bidNet s).lines = s.lines ∧ (bidNet s).matrix = s.matrix ∧
    (bidNet s).sampler = s.sampler ∧ (bidNet s).defects = s.defects ∧ (bidNet s).print = s.print ∧
    (bidNet s).decoder = s.decoder ∧ (bidNet s).hv = s.hv ∧ (bidNet s).straps = s.straps := by
  unfold bidNet; split <;> simp

/-- Entering COMPLETE keeps the tables (R82). -/
theorem enterComplete_tables (s : State) : TablesKept s (enterComplete s) :=
  .trans (.ofSame (by simp [TablesKept.sameKeys, sameMatrix, setRun])) (floatAll_tables _ _)

/-- The insulation entry keeps the tables (R81, R113). -/
theorem insulationEntry_tables (fromPrepare inProgress : Bool) (s : State) :
    TablesKept s (insulationEntry fromPrepare inProgress s) := by
  have h1 : TablesKept s (setRun { s.run with state := .insulate, sweepStage := .none } s) :=
    .ofSame (by simp [TablesKept.sameKeys, sameMatrix, setRun])
  have hb : ∀ u, TablesKept u (bidNet (setInsStage .bidding (markStep inProgress u))) := fun u =>
    .ofSame (by simp [TablesKept.sameKeys, sameMatrix, setRun, setInsStage, markStep])
  unfold insulationEntry
  simp only
  split
  · exact h1.trans (enterComplete_tables _)
  · split
    · exact h1.trans ((offer_tables _ _).trans (enterComplete_tables _))
    · split
      · exact h1.trans ((offerAll_tables _ _).trans (hb _))
      · exact h1.trans (hb _)

/-- The sweep entry keeps the tables (R90). -/
theorem sweepEntry_tables (inProgress : Bool) (s : State) : TablesKept s (sweepEntry inProgress s) :=
  .ofSame (by simp [TablesKept.sameKeys, sameMatrix, sweepEntry, setRun, setSweepStage, markStep])

/-- The matrix between a request and its reports stays as it is through a list of offers. -/
theorem offerAll_moving {s : State} (ds : List Defect) (h : MatrixMoving s) : MatrixMoving (offerAll ds s) :=
  h.congr (by simp [sameMatrix])

/-- The end work of the sweep keeps the tables (R107, R108): the batch is requested, the NOT_TESTED offers follow, and then the
batch is reported. -/
theorem sweepEnd_tables (s : State) : TablesKept s (sweepEnd s) := by
  have h1 : TablesKept s (assertHold (setSweepStage .ending (withdraw 2 s))) :=
    .ofSame (by simp [TablesKept.sameKeys, sameMatrix, setRun, setSweepStage])
  refine (h1.trans (offerAll_tables (undrivenOffers (assertHold (setSweepStage .ending (withdraw 2 s)))) _)).trans ?_
  generalize hu : offerAll (undrivenOffers (assertHold (setSweepStage .ending (withdraw 2 s))))
    (assertHold (setSweepStage .ending (withdraw 2 s))) = u
  have he : sweepEnd s = reportAll (if checkWillRun (requestBatch .endFloat (everyPoint u .float) u) then
      offerAll (notTestedOffers (requestBatch .endFloat (everyPoint u .float) u))
        (requestBatch .endFloat (everyPoint u .float) u)
      else requestBatch .endFloat (everyPoint u .float) u) := by rw [← hu]; rfl
  have hm := fun hh => requestBatch_moving (s := u) .endFloat _ (everyPoint_nodup u .float) hh
  have hk := requestBatch_netlist .endFloat (everyPoint u .float) u
  rw [he]
  split
  · exact ⟨by simpa using hk, by simp, by simp, by simp, by simp, by simp, by simp, by simp,
      fun k => by simpa using (offerAll_tables _ _).defects (by simpa using k), fun _ k => by simpa using k,
      fun hh k => reportAll_matrix (offerAll_moving _ (hm hh k))⟩
  · exact .ofMatrix (by simpa [TablesKept.sameKeys] using hk) (by simp) fun hh k => reportAll_matrix (hm hh k)

/-- The outcome of a bid window that opens no step keeps the tables (R92, R115). -/
theorem phaseEnd_tables (s : State) : TablesKept s (phaseEnd s) := by
  unfold phaseEnd
  split
  · exact sweepEnd_tables s
  · split
    · exact .trans (.ofSame (by simp [TablesKept.sameKeys, sameMatrix])) (enterComplete_tables _)
    · exact .refl s

/-- The outcome "first frame" keeps the tables (R92, R115). -/
theorem firstFrame_tables (k : Nat) (s : State) : TablesKept s (firstFrame k s) := by
  unfold firstFrame
  split
  · exact .refl s
  · exact phaseEnd_tables s

/-- A run end keeps the tables (R83). -/
theorem runEnd_tables (cause : Cause) (loc : Where) (s : State) : TablesKept s (runEnd cause loc s) := by
  have h1 : ∀ u, TablesKept u (abandonJob (timerStop (setWindow .off (withdrawClassOne u)))) := fun u =>
    .ofSame (by simp [TablesKept.sameKeys, sameMatrix])
  have h2 : ∀ u, TablesKept u (if inInterval u then enterFollowing u else u) := fun u => by
    refine .ofSame ?_
    split <;> simp [TablesKept.sameKeys, sameMatrix]
  have h3 : ∀ u, TablesKept u (releaseHold (setRun { u.run with
      state := .ended, halt := false, sweepStage := .none, insStage := .none, settleWait := none
      driveDone := false } u)) := fun u => .ofSame (by simp [TablesKept.sameKeys, sameMatrix, setRun])
  have h4 : ∀ u, TablesKept u (stopSummary (raise .runEnded u)) := fun u =>
    .ofSame (by simp [TablesKept.sameKeys, sameMatrix])
  exact (offer_tables (.runEnd cause loc) s).trans ((h1 _).trans ((h2 _).trans ((h3 _).trans
    ((floatAll_tables .runEnd _).trans (h4 _)))))

/-- The end of an active run keeps the tables. -/
theorem endActiveRun_tables (cause : Cause) (s : State) : TablesKept s (endActiveRun cause s) := by
  unfold endActiveRun
  split
  · exact runEnd_tables _ _ _
  · exact .refl s

/-- A forced FLOAT with what follows it at once, up to a change of the lines or the override, keeps the tables (R31). -/
theorem forcedFloat_tables {s t : State} (hp : t.points = (forcedFloat s).points) (hb : t.matrix.batches = [])
    (h : t.blocks = s.blocks ∧ t.netMap = s.netMap ∧ t.run = s.run ∧ t.params = s.params ∧ t.bus.held = s.bus.held ∧
      t.defects = s.defects ∧ t.print = s.print) : TablesKept s t := by
  obtain ⟨h1, h2, h3, h4, h5, h6, h7⟩ := h
  refine .ofMatrix ⟨by rw [hp, forcedFloat_netlist], h1, by rw [h2], by rw [h3], by rw [h3], by rw [h3], h4, h5⟩ ⟨h6, h7⟩
    fun _ k => forcedFloat_matrix ((pointsLawful_iff s).1 k.points).1 hp hb

/-- The removal of a RETURN override with a forced FLOAT (R38). -/
def dropReturn (s : State) : State :=
  if s.matrix.override = .ret then { s with matrix := { s.matrix with override := .none } } else s

@[simp] theorem dropReturn_frame (s : State) :
    (dropReturn s).points = s.points ∧ (dropReturn s).matrix.batches = s.matrix.batches ∧ (dropReturn s).blocks = s.blocks ∧
    (dropReturn s).netMap = s.netMap ∧ (dropReturn s).run = s.run ∧ (dropReturn s).params = s.params ∧
    (dropReturn s).bus = s.bus ∧ (dropReturn s).lines = s.lines ∧ (dropReturn s).sampler = s.sampler ∧
    (dropReturn s).defects = s.defects ∧ (dropReturn s).print = s.print ∧ (dropReturn s).decoder = s.decoder := by
  unfold dropReturn; split <;> simp

/-- What ESTOP does at a station (R33), the removal of a RETURN override by its name. -/
theorem estopWork_eq (s : State) : estopWork s = endActiveRun .estop (dropReturn (enterFollowing (forcedFloat s))) := rfl

/-- The points after a forced FLOAT and the drop of HVEN. -/
theorem batches_forcedFloat (s : State) : (forcedFloat s).matrix.batches = [] := rfl

/-- ESTOP seen asserted keeps the tables (R33): the points are forced to FLOAT before they are held there. -/
theorem estopWork_tables {s u : State} (h : u = { s with lines := { s.lines with estop := true } }) :
    TablesKept s (estopWork u) := by
  rw [estopWork_eq]
  subst h
  refine TablesKept.trans (forcedFloat_tables ?_ ?_ ?_) (endActiveRun_tables _ _)
  · simp [forcedFloat, mapPoints, setBatches]
  · simp [batches_forcedFloat]
  · simp

/-- Entry to SILENT keeps the tables (R50). -/
theorem enterSilent_tables (s : State) : TablesKept s (enterSilent s) := by
  let s1 := setSlot [] { s with
    bus := { s.bus with silent := true, errors := Config.silentAt }
    decoder := { s.decoder with ctx := none } }
  have h : TablesKept s (dropReturn (enterFollowing (forcedFloat (releaseHold s1)))) :=
    forcedFloat_tables (by simp [forcedFloat, mapPoints, setBatches, s1]) (by simp [batches_forcedFloat]) (by simp [s1])
  change TablesKept s (if runActive (dropReturn (enterFollowing (forcedFloat (releaseHold s1)))) then
    runEnd .busFault (.station (addr (dropReturn (enterFollowing (forcedFloat (releaseHold s1))))))
      (dropReturn (enterFollowing (forcedFloat (releaseHold s1)))) else
    dropReturn (enterFollowing (forcedFloat (releaseHold s1))))
  split
  · exact h.trans (runEnd_tables _ _ _)
  · exact h

end Sys2Proof.Machine
end

section
/-! SUPPORT. The commands keep the tables: a lemma for each meaning that is more than a change of other fields, and the table of
all commands but those that write the netlist, the blocks or the parameters. -/

namespace Sys2Proof.Machine

/-! ## A frame end -/

/-- What a frame end does, in order (R41, R42, R58): nothing outside the bus; the RESET count in HELD; else the bus fields, the
effect of the frame, and the outcome of a bid window. -/
theorem frameEnd_cases (f : Frame) (act : Bool → State → State) (s : State) :
    frameEnd f act s = s ∨ (s.bus.held = true ∧ frameEnd f act s = setResetCount 0 s) ∨
    (s.bus.held = false ∧ ∃ t, t = act (isOwn f s) { s with bus := frameSeen f s } ∧
      (frameEnd f act s = t ∨ frameEnd f act s = firstFrame (kindCode f.payload) t)) := by
  cases hi : s.bus.integrated
  · exact .inl (by simp [frameEnd, hi])
  · cases hh : s.bus.held
    · refine .inr (.inr ⟨rfl, _, rfl, ?_⟩)
      have he : setWindow (windowAfterClean s.bus.window) (setSlots false (vetoOf s f.payload)
          (notSent (if isOwn f s then sentClean (kindCode f.payload) s else s))) = { s with bus := frameSeen f s } := by
        split <;> rw [notSent_only] <;> simp_all [frameSeen, setWindow, setSlots, setSlot, sentClean]
      rw [frameEnd_takes f act s hi hh, he]
      cases isCandidate s
      · exact .inl rfl
      · exact .inr rfl
    · cases hf : strapFault s
      · exact .inr (.inl ⟨rfl, by simp [frameEnd, hi, hh, hf]⟩)
      · exact .inl (by simp [frameEnd, hi, hh, hf])

/-- The bus fields of a frame end keep HELD and SILENT. -/
@[simp] theorem frameSeen_fields (f : Frame) (s : State) :
    (frameSeen f s).held = s.bus.held ∧ (frameSeen f s).silent = s.bus.silent := by
  unfold frameSeen; split <;> simp

/-- What a frame end with ERR does (R42, R45, R49, R50): nothing in HELD; else other bus fields, and SILENT at the eighth error
of the station's own. -/
theorem frameErrEnd_cases (seen : RawFrame) (s : State) :
    frameErrEnd seen s = s ∨ (s.bus.held = false ∧ ∃ b : Bus, b.held = s.bus.held ∧ b.silent = s.bus.silent ∧
      (frameErrEnd seen s = { s with bus := b } ∨ frameErrEnd seen s = enterSilent { s with bus := b })) := by
  have key : ∀ (s1 : State) (sl : List TxEntry) (i f own : Bool) (n : Nat), s1 = setSlot sl s →
      ∃ b : Bus, b.held = s.bus.held ∧ b.silent = s.bus.silent ∧ ∀ s2, s2 = { s1 with bus := { s1.bus with
        errors := n, errDriven := f, vetoDriven := false, window := windowAfterErr s.bus.window, integrated := i } } →
        ((if own then enterSilent s2 else s2) = { s with bus := b } ∨
          (if own then enterSilent s2 else s2) = enterSilent { s with bus := b }) := by
    rintro s1 sl i f own n rfl
    refine ⟨{ s.bus with
      slot := sl, errors := n, errDriven := f, vetoDriven := false, window := windowAfterErr s.bus.window
      integrated := i }, rfl, rfl, ?_⟩
    rintro s2 rfl
    cases own
    · exact .inl rfl
    · exact .inr rfl
  unfold frameErrEnd
  split
  · exact .inl rfl
  · rename_i hc
    have hh : s.bus.held = false := by simp_all
    cases ho : (ownBegun seen s).isSome
    · obtain ⟨b, hb, hs, h⟩ := key _ _ (!(drivesErr seen s && decide (Config.maxPayload < seen.len.toNat)))
        (drivesErr seen s) false s.bus.errors (notSent_only s)
      exact .inr ⟨hh, b, hb, hs, h _ rfl⟩
    · obtain ⟨b, hb, hs, h⟩ := key _ _ (!(drivesErr seen s && decide (Config.maxPayload < seen.len.toNat)))
        (drivesErr seen s) (decide (Config.silentAt ≤ s.bus.errors + 1)) (s.bus.errors + 1) (erred_only s)
      exact .inr ⟨hh, b, hb, hs, h _ rfl⟩

/-- A state with other bus fields, HELD as it was, has the tables kept. -/
theorem withBus_tables {b : Bus} {s : State} (h : b.held = s.bus.held) : TablesKept s { s with bus := b } :=
  .ofSame ⟨⟨rfl, rfl, rfl, rfl, rfl, rfl, rfl, h⟩, ⟨rfl, rfl, rfl, h⟩, rfl, rfl⟩

/-- The RESET count keeps the tables (R58). -/
theorem setResetCount_tables (n : Nat) (s : State) : TablesKept s (setResetCount n s) := withBus_tables rfl

/-- A frame end keeps the tables where the effect of the frame does. -/
theorem frameEnd_tables (f : Frame) {act : Bool → State → State} (ha : ∀ own u, TablesKept u (act own u)) (s : State) :
    TablesKept s (frameEnd f act s) := by
  rcases frameEnd_cases f act s with h | ⟨-, h⟩ | ⟨-, t, ht, h⟩
  · rw [h]; exact .refl s
  · rw [h]; exact setResetCount_tables 0 s
  · have hk : TablesKept s t := ht ▸ (withBus_tables (by simp)).trans (ha _ _)
    rcases h with h | h <;> rw [h]
    · exact hk
    · exact hk.trans (firstFrame_tables _ _)

/-- A run-protocol frame keeps the tables where its effect does. -/
theorem runFrame_tables (r : Route) (p : Payload) {act : Bool → State → State} (ha : ∀ own u, TablesKept u (act own u))
    (s : State) : TablesKept s (runFrame r p act s) :=
  frameEnd_tables _ (fun own u => by split <;> [exact ha own u; exact .refl u]) s

/-- A request keeps the tables where its effect does in every form. -/
theorem request_tables (h : Header) (code : Nat) {act : Form → State → State} (ha : ∀ form u, TablesKept u (act form u))
    (s : State) : TablesKept s (request h code act s) :=
  frameEnd_tables _ (fun _ u => ha _ u) s

/-! ## Barriers -/

/-- A batch of one point keeps the tables. -/
theorem batchOne_tables (why : Purpose) (i : Nat) (t : Switch) (s : State) : TablesKept s (batch why [(i, t)] s) :=
  batch_tables why [(i, t)] (List.nodup_singleton i) s

/-- A frame queued keeps the tables. -/
theorem queue_tables (dst : Addr) (p : Payload) (s : State) : TablesKept s (queue dst p s) :=
  .ofSame (by simp [TablesKept.sameKeys, sameMatrix])

/-- The NET bid after a completion mark keeps the tables (R114). -/
theorem bidNet_markStep_tables (inProgress : Bool) (s : State) : TablesKept s (bidNet (markStep inProgress s)) :=
  .ofSame (by simp [TablesKept.sameKeys, sameMatrix, markStep])

/-- The step timer's stop keeps the tables. -/
theorem timerStop_tables (s : State) : TablesKept s (timerStop s) := .ofSame (by simp [TablesKept.sameKeys, sameMatrix])

/-- The step timer's restart keeps the tables. -/
theorem timerRestart_tables (m : TimerMode) (s : State) : TablesKept s (timerRestart m s) :=
  .ofSame (by simp [TablesKept.sameKeys, sameMatrix])

/-- The end of PREPARE keeps the tables (R79, R80). -/
theorem prepareEnd_tables (inProgress : Bool) (s : State) : TablesKept s (prepareEnd inProgress s) := by
  have h1 : TablesKept s (if s.straps.hvsrc && s.run.elected == some (addr s) then setHv { s.hv with elected := true } s
      else s) := .ofSame (by split <;> simp [TablesKept.sameKeys, sameMatrix])
  have h2 : ∀ u, TablesKept u (if u.run.sweepOn then sweepEntry inProgress u else insulationEntry true inProgress u) :=
    fun u => by
      split
      · exact sweepEntry_tables _ _
      · exact insulationEntry_tables _ _ _
  exact h1.trans (h2 _)

/-- The end of the drive barrier keeps the tables (R101): the driven point's run fields change. -/
theorem driveBarrierEnd_tables (s : State) : TablesKept s (driveBarrierEnd s) := by
  have h1 : TablesKept s (setSweepStage .awaitingRef s) := .ofSame (by simp [TablesKept.sameKeys, sameMatrix, setSweepStage, setRun])
  unfold driveBarrierEnd
  simp only
  split
  · exact h1
  · rename_i gp hd
    have h2 : ∀ u, TablesKept u (batch .toSense [(localOf gp, .sense)]
        (updatePoint (localOf gp) (fun p => { p with driven := true, leader := some gp }) u)) := fun u =>
      (updatePoint_tables _ (fun p => { p with driven := true, leader := some gp }) (fun _ => rfl)
        (fun _ => ⟨rfl, rfl, rfl⟩) u).trans (batchOne_tables _ _ _ _)
    split
    · exact h1.trans ((h2 _).trans (queue_tables _ _ _))
    · exact h1.trans (h2 _)

/-- The end of the switching barrier keeps the tables (R118). -/
theorem hvIntervalStart_tables (s : State) : TablesKept s (hvIntervalStart s) := by
  refine .ofSame ?_
  unfold hvIntervalStart
  split <;> simp [TablesKept.sameKeys, sameMatrix, setInsStage, setRun, startEngine]

/-- What HOLD seen released completes keeps the tables (R77, R80, R81, R101, R104, R118, R132, R133). -/
theorem barrierEnd_tables (inProgress : Bool) (s : State) : TablesKept s (barrierEnd inProgress s) := by
  have hc : ∀ u, TablesKept u (bidNet (setInsStage .bidding (markStep inProgress (timerStop u)))) := fun u =>
    .ofSame (by simp [TablesKept.sameKeys, sameMatrix, setInsStage, setRun, markStep])
  unfold barrierEnd
  split
  · exact (timerStop_tables s).trans (prepareEnd_tables _ _)
  · split
    · exact (timerRestart_tables _ s).trans (driveBarrierEnd_tables _)
    · exact .ofSame (by simp [TablesKept.sameKeys, sameMatrix, stepCompletion, setSweepStage, setRun, markStep])
    · exact (timerStop_tables s).trans (insulationEntry_tables _ _ _)
    · exact timerStop_tables s
  · split
    · exact (timerRestart_tables _ s).trans (hvIntervalStart_tables _)
    · exact (floatAll_tables _ s).trans (hc _)
    · exact hc s
    · exact timerStop_tables s
  · exact .refl s

/-! ## Run frames -/

/-- A change of the run that keeps its number and its phase settings keeps the tables. -/
theorem setRun_tables {r : Run} {s : State}
    (h : r.number = s.run.number ∧ r.sweepOn = s.run.sweepOn ∧ r.insOn = s.run.insOn) : TablesKept s (setRun r s) :=
  .ofSame ⟨⟨rfl, rfl, rfl, h.1, h.2.1, h.2.2, rfl, rfl⟩, ⟨rfl, rfl, rfl, rfl⟩, rfl, rfl⟩

/-- The opening of a sweep step keeps the tables (R93, R94). -/
theorem openSweepStep_tables (src gp net : Nat) (s : State) : TablesKept s (openSweepStep src gp net s) := by
  have h1 : TablesKept s (setRun { s.run with
      step := .point gp src, driveNet := net, settleWait := some (Config.breakMs + s.params.s), driveDone := false } s) :=
    setRun_tables ⟨rfl, rfl, rfl⟩
  have h2 : ∀ u, TablesKept u (setSweepStage .settling (assertHold (withdraw 2 u))) := fun u =>
    .ofSame (by simp [TablesKept.sameKeys, sameMatrix, setSweepStage, setRun])
  refine (h1.trans (h2 _)).trans ?_
  unfold openSweepStep
  simp only
  split
  · exact batchOne_tables _ _ _ _
  · exact .refl _

/-- A reading on a point of the drive net keeps the tables (R105). -/
theorem readSameNet_tables (d : Drive) (i : Nat) (c : Class) (r : Nat) (s : State) :
    TablesKept s (readSameNet d i c r s) := by
  have h1 := updatePoint_tables i (fun p => { p with leader := some d.gp }) (fun _ => rfl) (fun _ => ⟨rfl, rfl, rfl⟩) s
  unfold readSameNet
  split
  · exact .refl s
  · exact h1
  · exact h1.trans (offer_tables _ _)
  · split
    · exact offer_tables _ s
    · exact .refl s

/-- A reading on a point of another net keeps the tables (R106, R19). -/
theorem readOtherNet_tables (d : Drive) (n : Nat) (c : Class) (r : Nat) (s : State) :
    TablesKept s (readOtherNet d n c r s) := by
  unfold readOtherNet
  simp only
  split
  · exact (offer_tables _ s).trans (updateNet_tables _ (barNet .shorted) (fun _ => rfl) _)
  · exact (offer_tables _ s).trans (updateNet_tables _ (barNet .leakage) (fun _ => rfl) _)
  · exact .refl s

/-- The classification of one point keeps the tables (R70). -/
theorem classifyPoint_tables (d : Drive) (ref : Nat) (limits : Nat × Nat) (i : Nat) (s : State) :
    TablesKept s (classifyPoint d ref limits i s) := by
  unfold classifyPoint
  simp only
  split
  · have h1 : ∀ l, TablesKept s (updatePoint i (fun p => { p with last := l }) s) := fun l =>
      updatePoint_tables i (fun p => { p with last := l }) (fun _ => rfl) (fun _ => ⟨rfl, rfl, rfl⟩) s
    split
    · exact (h1 _).trans (readSameNet_tables _ _ _ _ _)
    · exact (h1 _).trans (readOtherNet_tables _ _ _ _ _)
  · exact .refl s

/-- The classification of a step keeps the tables (R70). -/
theorem classifyStep_tables (d : Drive) (ref : Nat) (s : State) : TablesKept s (classifyStep d ref s) := by
  unfold classifyStep
  generalize List.range s.points.length = l
  generalize (s.params.l, effectiveH s.params) = limits
  induction l generalizing s with
  | nil => exact .refl s
  | cons i l ih => exact (classifyPoint_tables _ _ _ _ _).trans (ih _)

/-- The step's REF keeps the tables (R102, R103). -/
theorem takeRef_tables (gp code : Nat) (weak : Bool) (s : State) : TablesKept s (takeRef gp code weak s) := by
  have h1 : TablesKept s (assertHold (timerStop (setSweepStage .classifying s))) :=
    .ofSame (by simp [TablesKept.sameKeys, sameMatrix, setSweepStage, setRun])
  have h3 : ∀ u, TablesKept u (setSweepStage .stepReleased (releaseHold u)) := fun u =>
    .ofSame (by simp [TablesKept.sameKeys, sameMatrix, setSweepStage, setRun])
  have h2 : ∀ u, TablesKept u (if weak then (if drivenHere u = some gp then offer (.driveFault gp code) u else u)
      else classifyStep { gp := gp, net := u.run.driveNet } code (updateNet u.run.driveNet (leadNet gp) u)) := fun u => by
    split
    · split
      · exact offer_tables _ _
      · exact .refl _
    · exact (updateNet_tables _ _ (leadNet_key gp) _).trans (classifyStep_tables _ _ _)
  exact h1.trans ((h2 _).trans (h3 _))

/-- The opening of an insulation step keeps the tables (R116, R117). -/
theorem openInsStep_tables (n : Nat) (vetoed : Bool) (s : State) : TablesKept s (openInsStep n vetoed s) := by
  have h1 : TablesKept s (withdraw 4 (setRun { s.run with step := .net n } s)) :=
    .ofSame (by simp [TablesKept.sameKeys, sameMatrix, setRun])
  unfold openInsStep
  simp only
  split
  · exact h1.trans ((updateNet_tables n vetoNet (fun _ => rfl) _).trans (bidNet_markStep_tables _ _))
  · exact h1.trans (.trans (.ofSame (by simp [TablesKept.sameKeys, sameMatrix, setInsStage, setRun]))
      (batch_tables _ _ (targetsBy_nodup _ _) _))

/-- The record of a measured verdict keeps the tables (R131). -/
theorem recordVerdict_tables (n : Nat) (s : State) : TablesKept s (recordVerdict n s) := by
  unfold recordVerdict
  split
  · exact .refl s
  · split
    · exact offer_tables _ s
    · exact offer_tables _ s
    · exact offer_tables _ s
    · exact .refl s

/-- The step's RESULT keeps the tables (R132, R87). -/
theorem takeResult_tables (n : Nat) (verdict : Byte) (s : State) : TablesKept s (takeResult n verdict s) := by
  unfold takeResult
  simp only
  refine (updateNet_tables n testNet (fun _ => rfl) s).trans ?_
  split
  · exact runEnd_tables _ _ _
  · exact .trans (.ofSame (by simp [TablesKept.sameKeys, sameMatrix, setInsStage, setRun])) (floatAll_tables _ _)

/-- The source's own RESULT keeps the tables (R131). -/
theorem takeOwnResult_tables (n : Nat) (verdict : Byte) (s : State) : TablesKept s (takeOwnResult n verdict s) := by
  unfold takeOwnResult
  refine (recordVerdict_tables n s).trans (.trans ?_ (takeResult_tables _ _ _))
  split
  · exact .refl _
  · exact .ofSame (by simp [TablesKept.sameKeys, sameMatrix, quietEngine])

/-- A HALTED keeps the tables (R77, R99). -/
theorem timerHalt_tables (s : State) : TablesKept s (timerHalt s) := by
  refine .ofSame ?_
  unfold timerHalt
  split <;> simp [TablesKept.sameKeys, sameMatrix]

/-! ## Requests -/

/-- An answer keeps the tables. -/
theorem reply_tables (h : Header) (code : Nat) (d : List Byte) (s : State) : TablesKept s (reply h code d s) :=
  .ofSame (by simp [TablesKept.sameKeys, sameMatrix])

/-- A refusal keeps the tables. -/
theorem refuse_tables (h : Header) (code : Nat) (why : RefusalCode) (sel : Nat) (s : State) :
    TablesKept s (refuse h code why sel s) := .ofSame (by simp [TablesKept.sameKeys, sameMatrix])

/-- Another delayed-request context keeps the tables (R173). -/
theorem setContext_tables (c : Option Context) (s : State) : TablesKept s (setContext c s) :=
  .ofSame ⟨⟨rfl, rfl, rfl, rfl, rfl, rfl, rfl, rfl⟩, ⟨rfl, rfl, rfl, rfl⟩, rfl, rfl⟩

/-- The cancelling of a delayed request keeps the tables (R177). -/
theorem cancelContext_tables (c : Context) (s : State) : TablesKept s (cancelContext c s) :=
  .ofSame (by simp [TablesKept.sameKeys, sameMatrix, cancelContext, queueEnd, setContext])

/-- The service of a delayed request keeps the tables (R174). -/
theorem serve_tables (s : State) : TablesKept s (serve s) := by
  refine .ofSame ?_
  unfold serve
  split
  · simp [TablesKept.sameKeys, sameMatrix]
  · split
    · simp [TablesKept.sameKeys, sameMatrix]
    · split
      · simp [TablesKept.sameKeys, sameMatrix, setContext]
      · split <;> simp [TablesKept.sameKeys, sameMatrix, queueEnd]

/-- SET SWITCH keeps the tables (R39). -/
theorem setSwitch_tables (h : Header) (gp : Nat) (target : Byte) (s : State) : TablesKept s (setSwitch h gp target s) := by
  unfold setSwitch
  simp only
  split
  · exact refuse_tables _ _ _ _ s
  split
  · exact refuse_tables _ _ _ _ s
  split
  · exact refuse_tables _ _ _ _ s
  split
  · exact refuse_tables _ _ _ _ s
  split
  · exact refuse_tables _ _ _ _ s
  split
  · exact refuse_tables _ _ _ _ s
  split
  · exact refuse_tables _ _ _ _ s
  · exact (reply_tables _ _ _ s).trans (batchOne_tables _ _ _ _)

/-- An override other than FLOAT begins no hold at FLOAT, and so keeps the tables (R35). -/
theorem setOverride_tables {o : Override} (ho : o ≠ .float) (s : State) : TablesKept s (setOverride o s) := by
  refine .ofMatrix ⟨rfl, rfl, rfl, rfl, rfl, rfl, rfl, rfl⟩ ⟨rfl, rfl⟩ fun _ h =>
    h.ofPoints rfl rfl (fun _ => .refl _) fun k => ?_
  have : (o == Override.float) = false := by simpa using ho
  simp only [mustFloat, heldAtFloat, setOverride, this, Bool.or_false] at k ⊢
  cases he : s.lines.estop <;> simp_all

/-- MATRIX OVERRIDE RETURN keeps the tables (R37). -/
theorem overrideReturn_tables (s : State) : TablesKept s (overrideReturn s) := by
  unfold overrideReturn
  split
  · exact raise_tables _ s
  · split
    · exact .refl s
    · exact (setOverride_tables (by decide) s).trans (batch_tables _ _ (targetsBy_nodup _ _) _)

/-- MATRIX OVERRIDE OFF keeps the tables (R38). -/
theorem overrideOff_tables (s : State) : TablesKept s (overrideOff s) := by
  unfold overrideOff
  split
  · exact .refl s
  · exact setOverride_tables (by decide) s
  · exact (setOverride_tables (by decide) s).trans (floatAll_tables _ _)

/-- MATRIX OVERRIDE FLOAT keeps the tables (R36): the points are forced to FLOAT and held there. -/
theorem overrideFloat_tables (s : State) :
    TablesKept s (endActiveRun .aborted (setOverride .float (forcedFloat s))) :=
  (forcedFloat_tables (t := setOverride .float (forcedFloat s)) rfl rfl ⟨rfl, rfl, rfl, rfl, rfl, rfl, rfl⟩).trans
    (endActiveRun_tables _ _)

/-! ## Timers and measurements -/

/-- The end of break or settle times keeps the netlist and every table, where that of each point does. -/
theorem timesEnd_tables (f : Nat → Point → Point) (s : State)
    (hl : ∀ j p, pointLawful p = true → pointLawful (f j p) = true)
    (hf : ∀ j p, pointFloats p = true → pointFloats (f j p) = true) (hn : ∀ j p, netlistOf (f j p) = netlistOf p) :
    TablesKept s (reportAll (dropReached (mapPoints f s))) :=
  .ofMatrix (by simpa [TablesKept.sameKeys, dropReached] using mapPoints_netlist f hn s) (by simp [dropReached]) fun _ h =>
    timesEnd_matrix h f hl hf

/-- The end of a break keeps a record's netlist. -/
theorem breakEnds_netlist (live : Bool) (settle : Nat) (p : Point) : netlistOf (breakEnds live settle p) = netlistOf p := by
  unfold breakEnds closeInto; split <;> (try split) <;> (try split) <;> rfl

/-- The end of a settle time keeps a record's netlist. -/
theorem settleEnds_netlist (live : Bool) (p : Point) : netlistOf (settleEnds live p) = netlistOf p := by
  unfold settleEnds startChange; split <;> (try split) <;> rfl

/-- The release of LIVE keeps a record's netlist. -/
theorem liveFreed_netlist (settle : Nat) (p : Point) : netlistOf (liveFreed settle p) = netlistOf p := by
  unfold liveFreed closeInto; split <;> (try split) <;> rfl

/-- The release of LIVE keeps the tables (R30, R77). -/
theorem liveReleased_tables (s : State) :
    TablesKept s (mapPoints (fun _ p => liveFreed s.params.s p)
      (timerResume { s with lines := { s.lines with liveSeen := false } })) := by
  have h1 : TablesKept s (timerResume { s with lines := { s.lines with liveSeen := false } }) := by
    refine .ofSame ?_
    unfold timerResume
    split <;> simp [TablesKept.sameKeys, sameMatrix]
  refine h1.trans (.ofMatrix ⟨mapPoints_netlist _ (fun _ p => liveFreed_netlist _ p) _, rfl, rfl, rfl, rfl, rfl, rfl, rfl⟩
    ⟨rfl, rfl⟩ fun _ h => mapPoints_matrix h _ fun _ p => liveFreed_kept _ p)

/-- A change of the Insulation Engine keeps the tables. -/
theorem setHv_tables (h : Hv) (s : State) : TablesKept s (setHv h s) := .ofSame (by simp [TablesKept.sameKeys, sameMatrix])

/-- A leakage sample keeps the tables where what its stage makes of it does (R124). -/
theorem takeSample_tables (x : HvSettings) (sample : Nat) (monitor : Code12) {rest : State → State}
    (hr : ∀ u, TablesKept u (rest u)) (s : State) : TablesKept s (takeSample x sample monitor rest s) := by
  unfold takeSample
  simp only
  split
  · exact .ofSame (by simp [TablesKept.sameKeys, sameMatrix, breakdown, dropWith])
  · exact (setHv_tables _ s).trans (hr _)

/-- A check reading keeps the tables (R125). -/
theorem checkMonitor_tables (x : HvSettings) (monitor : Code12) (s : State) : TablesKept s (checkMonitor x monitor s) := by
  unfold checkMonitor
  simp only
  split <;> exact setHv_tables _ s

/-- A RESULT queued keeps the tables (R128). -/
theorem queueResult_tables (v : Option Verdict) (s : State) : TablesKept s (queueResult v s) := by
  refine .ofSame ?_
  unfold queueResult
  split <;> simp [TablesKept.sameKeys, sameMatrix]

/-- A millisecond with no command keeps the tables (R77, R162, R181): the stall timer runs up to its limit. -/
theorem tick_tables (s : State) : TablesKept s (tick s) := by
  refine .ofLists ⟨rfl, rfl, rfl, rfl, rfl, rfl, rfl, rfl⟩ ⟨rfl, rfl, rfl, rfl⟩ id fun _ h => ?_
  obtain ⟨h1, h2, h3, h4, h5, h6, h7, h8, h9⟩ := (printLawful_iff _).1 h
  refine (printLawful_iff _).2 ⟨h1, h2, h3, h4, h5, h6, h7, h8.imp_right fun k => by simp [tick, k], fun e he => ?_⟩
  obtain ⟨a, ha, rfl⟩ := Option.map_eq_some_iff.1 he
  have := h9 a ha
  split
  · assumption
  · exact this

end Sys2Proof.Machine
end

section
/-! SUPPORT. The commands keep the tables, command by command: all but those that write the netlist, the blocks, the parameters or
start a run. -/

namespace Sys2Proof.Machine

/-- The commands that write what a run keeps: POWER_UP, the resets, START RUN, and the requests that write the netlist, the
blocks or the parameters. -/
def writesTables : Instr → Bool
  | .powerUp .. => true
  | .heldFrame .. => true
  | .assignNet .. => true
  | .assignRange .. => true
  | .clearTable .. => true
  | .setBlocks .. => true
  | .runParameters .. => true
  | .startRun .. => true
  | .resetRun .. => true
  | .resetFull .. => true
  | _ => false

/-- What every command but these keeps. -/
theorem exec_tables (c : Instr) (s t : State) (hc : writesTables c = false) (h : exec c s = .next t) : TablesKept s t := by
  cases c
  case powerUp | heldFrame | assignNet | assignRange | clearTable | setBlocks | runParameters | startRun | resetRun
    | resetFull => cases hc
  all_goals cases h
  case estopAsserted =>
    split
    · exact .refl s
    · simp only
      split
      · rename_i hh
        exact ⟨rfl, rfl, rfl, rfl, rfl, rfl, rfl, rfl, id, fun _ => id, fun k => by simp_all⟩
      · exact estopWork_tables rfl
  case estopReleased =>
    refine .ofMatrix ⟨rfl, rfl, rfl, rfl, rfl, rfl, rfl, rfl⟩ ⟨rfl, rfl⟩ fun hh k =>
      k.ofPoints rfl rfl (fun _ => .refl _) fun m => ?_
    have m : s.bus.held = true ∨ s.matrix.override = .float := by simpa [mustFloat, heldAtFloat, or_comm] using m
    rcases m with m | m <;> simp [mustFloat, heldAtFloat, m]
  case holdSeenAsserted =>
    split
    · exact .refl s
    · exact .ofSame (by simp [TablesKept.sameKeys, sameMatrix])
  case holdSeenReleased busy =>
    split
    · exact .trans (.ofSame (by simp [TablesKept.sameKeys, sameMatrix])) (barrierEnd_tables busy _)
    · exact .refl s
  case liveSeenAsserted =>
    split
    · exact .refl s
    · exact .ofSame (by simp [TablesKept.sameKeys, sameMatrix])
  case liveSeenReleased =>
    split
    · exact liveReleased_tables s
    · exact .refl s
  case beginFrame =>
    refine .ofSame ?_
    unfold beginOffered
    split
    · simp [TablesKept.sameKeys, sameMatrix]
    · split <;> simp [TablesKept.sameKeys, sameMatrix]
  case frameErr seen =>
    rcases frameErrEnd_cases seen s with h | ⟨-, b, hb, -, h | h⟩ <;> rw [h]
    · exact .refl s
    · exact withBus_tables hb
    · exact (withBus_tables hb).trans (enterSilent_tables _)
  case otherCleanFrame f => exact frameEnd_tables f (fun _ u => .refl u) s
  case bidWindowExpired =>
    split
    · exact .trans (.ofSame (by simp [TablesKept.sameKeys, sameMatrix])) (phaseEnd_tables _)
    · exact .refl s
  case abort r =>
    refine frameEnd_tables _ (fun _ u => ?_) s
    split
    · exact endActiveRun_tables _ _
    · exact .refl u
  case driveFrame r gp net =>
    refine runFrame_tables _ _ (fun _ u => ?_) s
    split
    · exact openSweepStep_tables _ _ _ _
    · exact .refl u
  case refFrame r gp code flags =>
    refine runFrame_tables _ _ (fun _ u => ?_) s
    split
    · exact takeRef_tables _ _ _ _
    · exact .refl u
  case netFrame r n othersVeto =>
    refine runFrame_tables _ _ (fun _ u => ?_) s
    split
    · exact openInsStep_tables _ _ _
    · exact .refl u
  case resultFrame r net verdict v cur ir ms =>
    refine runFrame_tables _ _ (fun own u => ?_) s
    split
    · split
      · exact takeResult_tables _ _ _
      · exact takeOwnResult_tables _ _ _
      · exact .refl u
    · exact .refl u
  case sourceReady r run =>
    refine runFrame_tables _ _ (fun own u => ?_) s
    split
    · refine .ofSame ?_
      simp only
      split <;> simp [TablesKept.sameKeys, sameMatrix, setRun]
    · exact .refl u
  case halted r gp watch =>
    refine runFrame_tables _ _ (fun own u => ?_) s
    split
    · refine (timerHalt_tables u).trans ?_
      simp only
      split
      · exact setRun_tables ⟨rfl, rfl, rfl⟩
      · exact .refl _
    · exact .refl u
  case credit r count =>
    refine frameEnd_tables _ (fun _ u => ?_) s
    split
    · exact takeCredit_tables (by have := count.isLt; omega) u
    · exact .refl u
  case line r key text => exact runFrame_tables _ _ (fun _ u => takeLine_tables _ _ u) s
  case dataFrame r code tag cursor item =>
    refine frameEnd_tables _ (fun own u => ?_) s
    split
    · unfold dataSent
      split
      · exact .refl u
      · split
        · exact setContext_tables _ u
        · exact .refl u
    · exact .refl u
  case endFrame r code tag count mark =>
    refine frameEnd_tables _ (fun own u => ?_) s
    split
    · exact setContext_tables _ u
    · exact .refl u
  case delayedRequestService => exact serve_tables s
  case profileSegment h index level duration =>
    refine request_tables _ _ (fun form u => ?_) s
    cases form
    · exact .refl u
    · exact refuse_tables _ _ _ _ u
    · simp only
      split
      · exact setHv_tables _ u
      · exact .refl u
  case profileLength h length =>
    refine request_tables _ _ (fun form u => ?_) s
    cases form
    · exact .refl u
    · exact refuse_tables _ _ _ _ u
    · simp only
      split
      · exact setHv_tables _ u
      · exact .refl u
  case continueRun h =>
    have hr : ∀ u, TablesKept u (resumeHalt u) := fun u => .ofSame (by simp [TablesKept.sameKeys, sameMatrix, resumeHalt, setSweepStage, setRun])
    refine request_tables _ _ (fun form u => ?_) s
    split
    · exact (hr u).trans (reply_tables _ _ _ _)
    · exact refuse_tables _ _ _ _ u
    · exact hr u
    · exact .refl u
  case setWatch h w1 w2 =>
    refine request_tables _ _ (fun form u => ?_) s
    cases form
    · exact .refl u
    · exact refuse_tables _ _ _ _ u
    · exact setRun_tables ⟨rfl, rfl, rfl⟩
  case setSwitch h gp target =>
    refine request_tables _ _ (fun form u => ?_) s
    split
    · exact setSwitch_tables _ _ _ _
    · exact .refl u
  case matrixOverrideFloat h =>
    refine request_tables _ _ (fun form u => ?_) s
    cases form
    · exact .refl u
    · exact refuse_tables _ _ _ _ u
    · exact overrideFloat_tables u
  case matrixOverrideReturn h =>
    refine request_tables _ _ (fun form u => ?_) s
    cases form
    · exact .refl u
    · exact refuse_tables _ _ _ _ u
    · exact overrideReturn_tables u
  case matrixOverrideOff h =>
    refine request_tables _ _ (fun form u => ?_) s
    cases form
    · exact .refl u
    · exact refuse_tables _ _ _ _ u
    · exact overrideOff_tables u
  case print h =>
    refine request_tables _ _ (fun form u => ?_) s
    cases form
    · exact .refl u
    · exact (raise_tables _ u).trans (refuse_tables _ _ _ _ _)
    · simp only
      split
      · exact (startPass_tables u).trans (rebid_tables _)
      · exact raise_tables _ u
  case stopPrint h =>
    refine request_tables _ _ (fun form u => ?_) s
    cases form
    · exact .refl u
    · exact refuse_tables _ _ _ _ u
    · simp only
      split
      · exact endPass_tables _ u
      · exact .refl u
  case queryPoint h gp =>
    refine request_tables _ _ (fun form u => ?_) s
    split
    · unfold queryPoint
      split
      · exact refuse_tables _ _ _ _ u
      · split
        · exact refuse_tables _ _ _ _ u
        · exact setContext_tables _ u
    · exact .refl u
  case dumpPoints h first last =>
    refine request_tables _ _ (fun form u => ?_) s
    split
    · unfold dumpPoints
      split
      · exact refuse_tables _ _ _ _ u
      split
      · exact refuse_tables _ _ _ _ u
      split
      · exact refuse_tables _ _ _ _ u
      split
      · exact refuse_tables _ _ _ _ u
      · exact setContext_tables _ u
    · exact .refl u
  case dumpDefects h =>
    refine request_tables _ _ (fun form u => ?_) s
    split
    · split
      · exact refuse_tables _ _ _ _ u
      · exact setContext_tables _ u
    · exact .refl u
  case queryStatus h part =>
    refine request_tables _ _ (fun form u => ?_) s
    split
    · split
      · exact reply_tables _ _ _ u
      · exact refuse_tables _ _ _ _ u
    · exact .refl u
  case clearEvents h bits =>
    refine request_tables _ _ (fun form u => ?_) s
    split
    · exact .ofSame (by simp [TablesKept.sameKeys, sameMatrix])
    · exact .refl u
  case setNoticeMask h bits =>
    refine request_tables _ _ (fun form u => ?_) s
    split
    · exact .ofSame (by simp [TablesKept.sameKeys, sameMatrix])
    · exact .refl u
  case cancel h =>
    refine request_tables _ _ (fun form u => ?_) s
    split
    · split
      · exact reply_tables _ _ _ u
      · exact (reply_tables _ _ _ u).trans (cancelContext_tables _ _)
    · exact .refl u
  case unknownRequest h code args =>
    refine request_tables _ _ (fun form u => ?_) s
    split
    · exact refuse_tables _ _ _ _ u
    · exact .refl u
  case stepTimeout =>
    split
    · exact endActiveRun_tables _ _
    · exact .refl s
  case stallTimerExpiry =>
    split
    · split
      · exact (endPass_tables _ s).trans (raise_tables _ _)
      · refine setPrint_tables fun k => ?_
        obtain ⟨h1, h2, h3, h4, h5, h6, h7, -, -⟩ := (printLawful_iff _).1 k
        exact (printLawful_iff _).2 ⟨h1, h2, h3, h4, h5, h6, h7, .inr rfl, fun e he => by cases he⟩
    · exact .refl s
  case summaryTimerExpiry =>
    refine .ofSame ?_
    split
    · simp only
      split <;> simp [TablesKept.sameKeys, sameMatrix]
    · simp [TablesKept.sameKeys, sameMatrix]
  case breakTimeEnd points =>
    refine timesEnd_tables _ s (fun j p k => ?_) (fun j p k => ?_) fun j p => ?_ <;> split
    · exact breakEnds_lawful _ _ _ k
    · exact k
    · rwa [breakEnds_floats _ _ _ k]
    · exact k
    · exact breakEnds_netlist _ _ _
    · rfl
  case settleTimeEnd points =>
    refine timesEnd_tables _ s (fun j p k => ?_) (fun j p k => ?_) fun j p => ?_ <;> split
    · exact settleEnds_lawful _ _ k
    · exact k
    · rwa [settleEnds_floats _ _ k]
    · exact k
    · exact settleEnds_netlist _ _
    · rfl
  case settleWaitEnd =>
    split
    · refine TablesKept.trans (u := setRun { s.run with settleWait := none } s) (setRun_tables ⟨rfl, rfl, rfl⟩) ?_
      simp only
      split
      · exact .refl _
      · exact commandPass_tables _
    · exact .refl s
  case calibrationComplete codes =>
    split
    · have h1 : ∀ x, TablesKept s (setSampler x s) := fun x => .ofSame (by simp [TablesKept.sameKeys, sameMatrix])
      have h2 : ∀ (p : Prop) [Decidable p] u, TablesKept u (if p then u else raise .offsetLimit u) := fun p _ u => by
        split
        · exact .refl u
        · exact raise_tables _ u
      have h3 : ∀ u, TablesKept u (if u.run.state = .prepare then batch .prepare (targetsBy u (prepareTarget u)) u
          else u) := fun u => by
        split
        · exact batch_tables _ _ (targetsBy_nodup _ _) u
        · exact .refl u
      exact (h1 _).trans ((h2 _ _).trans (h3 _))
    · exact .refl s
  case samplingPassComplete readings =>
    refine .ofSame ?_
    split <;> simp [TablesKept.sameKeys, sameMatrix, finishPass]
  case rampMillisecond sample monitor =>
    split
    · split
      · exact takeSample_tables _ _ _ (fun u => setHv_tables _ u) s
      · exact .refl s
    · exact .refl s
  case rampEnd =>
    split
    · split
      · exact setHv_tables _ s
      · exact .refl s
    · exact .refl s
  case checkReading sample monitor =>
    split
    · split
      · exact .refl s
      · split
        · exact checkMonitor_tables _ _ s
        · exact takeSample_tables _ _ _ (checkMonitor_tables _ _) s
    · exact .refl s
  case undervolt =>
    split
    · split
      · exact setHv_tables _ s
      · exact .refl s
    · exact .refl s
  case dwellMillisecond sample monitor =>
    split
    · split
      · exact takeSample_tables _ _ _ (fun u => setHv_tables _ u) s
      · exact .refl s
    · exact .refl s
  case dwellEnd monitor =>
    split
    · split
      · exact setHv_tables _ s
      · exact .refl s
    · exact .refl s
  case dischargeReading monitor =>
    split
    · split
      · exact .trans (.ofSame (by simp [TablesKept.sameKeys, sameMatrix])) (queueResult_tables _ _)
      · exact setHv_tables _ s
    · exact .refl s
  case dischargeFault =>
    split
    · exact (setHv_tables _ s).trans (queueResult_tables _ _)
    · exact .refl s
  case followingReading monitor =>
    refine .ofSame ?_
    split
    · split
      · split <;> simp [TablesKept.sameKeys, sameMatrix]
      · simp [TablesKept.sameKeys, sameMatrix]
    · simp [TablesKept.sameKeys, sameMatrix]
  case busIntegration => exact withBus_tables rfl

end Sys2Proof.Machine
end

section
/-! SUPPORT. The commands that write the netlist, the blocks, the parameters or the run: what they keep of the laws of the lists and
of the switch matrix, and that within a run they write nothing. -/

namespace Sys2Proof.Machine

/-- An empty Defect List is lawful (R147). -/
theorem defectsLawful_empty : defectsLawful Defects.empty = true := by decide

/-- The blocks at power-up are lawful (R16). -/
theorem blocksLawful_powerUp {s : State} (h : s.blocks = Blocks.powerUp) : blocksLawful s = true := by
  rw [blocksLawful, h]; decide

/-! ## The laws kept by a writing operation -/

/-- The laws of the lists, of the blocks, of the parameters and of the printout, kept from one state to another (R10, R16, R17,
R73, R137, R138, R150). -/
structure ListsKept (s t : State) : Prop where
  order : netMapLawful s = true → netMapLawful t = true
  count : s.points.length = Config.pointCount → t.points.length = Config.pointCount
  bound : s.points.length = Config.pointCount → s.netMap.length ≤ 256 → t.netMap.length ≤ 256
  blocks : blocksLawful s = true → blocksLawful t = true
  defects : defectsLawful s.defects = true → defectsLawful t.defects = true
  params : paramsLawful s.params = true → paramsLawful t.params = true
  print : paramsLawful s.params = true → printLawful s.print = true → printLawful t.print = true

/-- The laws of the lists and, outside HELD, of the switch matrix, kept from one state to another. -/
structure LawsKept (s t : State) : Prop where
  lists : ListsKept s t
  held : t.bus.held = s.bus.held
  matrix : s.bus.held = false → MatrixSound s → MatrixSound t

theorem ListsKept.trans {s u t : State} (h : ListsKept s u) (k : ListsKept u t) : ListsKept s t where
  order := k.order ∘ h.order
  count := k.count ∘ h.count
  bound hn := k.bound (h.count hn) ∘ h.bound hn
  blocks := k.blocks ∘ h.blocks
  defects := k.defects ∘ h.defects
  params := k.params ∘ h.params
  print hp := k.print (h.params hp) ∘ h.print hp

theorem LawsKept.trans {s u t : State} (h : LawsKept s u) (k : LawsKept u t) : LawsKept s t :=
  ⟨h.lists.trans k.lists, k.held.trans h.held, fun hh => k.matrix (h.held.trans hh) ∘ h.matrix hh⟩

/-- What keeps the tables keeps the laws. -/
theorem TablesKept.laws {s t : State} (h : TablesKept s t) : LawsKept s t where
  lists := by
    have hn : t.points.length = s.points.length := by simpa using congrArg List.length h.netlist
    have hm : t.netMap.length = s.netMap.length := by simpa using congrArg List.length h.netKeys
    exact ⟨fun k => (netMapLawful_congr h.netKeys).trans k, fun k => hn.trans k, fun _ k => hm ▸ k,
      fun k => by simpa [blocksLawful, h.blocks] using k, h.defects, fun k => h.params ▸ k, h.print⟩
  held := h.held
  matrix := h.matrix

/-- An operation that changes the points, none added or removed, and no list. -/
theorem LawsKept.ofPoints {s t : State} (hn : t.points.length = s.points.length)
    (h : t.netMap = s.netMap ∧ t.blocks = s.blocks ∧ t.defects = s.defects ∧ t.params = s.params ∧ t.print = s.print ∧
      t.bus.held = s.bus.held) (hm : s.bus.held = false → MatrixSound s → MatrixSound t) : LawsKept s t := by
  obtain ⟨h1, h2, h3, h4, h5, h6⟩ := h
  exact ⟨⟨fun k => by simpa [netMapLawful, h1] using k, fun k => hn.trans k, fun _ k => h1 ▸ k,
    fun k => by simpa [blocksLawful, h2] using k, fun k => h3 ▸ k, fun k => h4 ▸ k, fun _ k => h5 ▸ k⟩, h6, hm⟩

/-- An operation that changes no list and nothing of the switch matrix. -/
theorem LawsKept.ofSame {s t : State} (h : t.netMap = s.netMap ∧ t.blocks = s.blocks ∧ t.defects = s.defects ∧
    t.params = s.params ∧ t.print = s.print ∧ t.bus.held = s.bus.held) (hm : sameMatrix s t) : LawsKept s t :=
  .ofPoints (by rw [hm.1]) h fun _ k => k.congr hm

theorem LawsKept.refl (s : State) : LawsKept s s := (TablesKept.refl s).laws

/-- A frame end keeps the laws where the effect of the frame does. -/
theorem frameEnd_laws (f : Frame) {act : Bool → State → State} (ha : ∀ own u, LawsKept u (act own u)) (s : State) :
    LawsKept s (frameEnd f act s) := by
  rcases frameEnd_cases f act s with h | ⟨-, h⟩ | ⟨-, t, ht, h⟩
  · rw [h]; exact .refl s
  · rw [h]; exact (setResetCount_tables 0 s).laws
  · have hk : LawsKept s t := ht ▸ (withBus_tables (by simp)).laws.trans (ha _ _)
    rcases h with h | h <;> rw [h]
    · exact hk
    · exact hk.trans (firstFrame_tables _ _).laws

/-- A request keeps the laws where its effect does in every form. -/
theorem request_laws (h : Header) (code : Nat) {act : Form → State → State} (ha : ∀ form u, LawsKept u (act form u))
    (s : State) : LawsKept s (request h code act s) := frameEnd_laws _ (fun _ u => ha _ u) s

/-! ## Requests that write the netlist, the blocks or the parameters -/

/-- The admission check keeps the laws (R6). -/
theorem admissionCheck_tables (s : State) : TablesKept s (admissionCheck s) :=
  batch_tables _ _ (notAdmitted_nodup s) s

/-- The write of one record's netlist keeps the laws. -/
theorem assignOne_laws (i net : Nat) (ro : Role) (s : State) : LawsKept s (updatePoint i (assign net ro) s) :=
  .ofPoints (by simp) ⟨rfl, rfl, rfl, rfl, rfl, rfl⟩ fun _ h =>
    updatePoint_matrix h i _ fun _ => .ofSwitching ⟨rfl, rfl, rfl⟩

/-- A change of every record that keeps its switching keeps the laws. -/
theorem mapPoints_laws (f : Nat → Point → Point)
    (hf : ∀ j p, (f j p).switch = p.switch ∧ (f j p).pending = p.pending ∧ (f j p).stage = p.stage) (s : State) :
    LawsKept s (mapPoints f s) :=
  .ofPoints (by simp) ⟨rfl, rfl, rfl, rfl, rfl, rfl⟩ fun _ h => mapPoints_matrix h f fun j p => .ofSwitching (hf j p)

/-- ASSIGN NET keeps the laws (R7). -/
theorem assignNet_laws (h : Header) (gp net : Nat) (role : Byte) (s : State) : LawsKept s (assignNet h gp net role s) := by
  unfold assignNet
  split
  · exact (refuse_tables _ _ _ _ s).laws
  split
  · exact (refuse_tables _ _ _ _ s).laws
  split
  · exact (refuse_tables _ _ _ _ s).laws
  split
  · exact (refuse_tables _ _ _ _ s).laws
  · exact (assignOne_laws _ _ _ s).trans ((reply_tables _ _ _ _).trans (admissionCheck_tables _)).laws

/-- ASSIGN RANGE makes of a record's switching nothing new (R8). -/
theorem rangePoint_switching (first last net stp : Nat) (role : Role) (s : State) (i : Nat) (p : Point) :
    (rangePoint first last net stp role s i p).switch = p.switch ∧
    (rangePoint first last net stp role s i p).pending = p.pending ∧
    (rangePoint first last net stp role s i p).stage = p.stage := by
  unfold rangePoint; split <;> exact ⟨rfl, rfl, rfl⟩

/-- ASSIGN RANGE keeps the laws (R8). -/
theorem assignRange_laws (first last net stp : Nat) (role : Role) (s : State) :
    LawsKept s (assignRange first last net stp role s) := by
  unfold assignRange
  split
  · exact (mapPoints_laws _ (fun j p => rangePoint_switching first last net stp role s j p) s).trans
      (admissionCheck_tables _).laws
  · exact .refl s

/-- CLEAR TABLE keeps the laws (R9). -/
theorem clearTable_laws (s : State) : LawsKept s (clearTable s) :=
  mapPoints_laws (fun _ p => assign 0 .signal p) (fun _ _ => ⟨rfl, rfl, rfl⟩) s

/-- The blocks stored for the eight blocks keep the laws (R15, R16). -/
theorem storeBlocks_laws {manual : List Kind} (hm : manual.length = Config.blockCount) (allowed : KindSet) (s : State) :
    LawsKept s (storeBlocks manual allowed s) := by
  have h : ∀ b : Blocks, (blocksLawful s = true → blocksLawful { s with blocks := b } = true) →
      LawsKept s { s with blocks := b } := fun b hb =>
    ⟨⟨id, id, fun _ => id, hb, id, id, fun _ => id⟩, rfl, fun _ k => k.congr ⟨rfl, rfl, rfl, rfl⟩⟩
  unfold storeBlocks
  simp only
  split
  · exact h _ fun k => by simp only [blocksLawful, hm, decide_true, Bool.and_true, Bool.and_eq_true] at k ⊢; exact k.1
  · exact h _ fun _ => by simp [blocksLawful, hm]

theorem length_of_mapM {α β : Type} {f : α → Option β} {l : List α} {r : List β} (h : l.mapM f = some r) :
    r.length = l.length := by
  induction l generalizing r with
  | nil => simp at h; simp [h]
  | cons a l ih =>
      simp only [List.mapM_cons, bind, pure, Option.bind_eq_some_iff, Option.some.injEq] at h
      obtain ⟨b, -, r', hr, rfl⟩ := h
      simp [ih hr]

/-- SET BLOCKS keeps the laws (R15). -/
theorem setBlocks_laws (h : Header) (kinds : Vector Byte 8) (allowed : Byte) (s : State) :
    LawsKept s (setBlocks h kinds allowed s) := by
  unfold setBlocks
  split
  · exact (refuse_tables _ _ _ _ s).laws
  split
  · exact (refuse_tables _ _ _ _ s).laws
  split
  · rename_i manual a hm ha
    have hs := storeBlocks_laws (manual := manual) ((length_of_mapM hm).trans (by simp [Config.blockCount])) a s
    simp only
    split
    · exact hs.trans (reply_tables _ _ _ _).laws
    · exact hs.trans ((reply_tables _ _ _ _).trans (admissionCheck_tables _)).laws
  · exact (refuse_tables _ _ _ _ s).laws

/-- Parameters in their ranges, stored, keep the laws (R73). -/
theorem setParams_laws {p : Params} (hp : paramsLawful p = true) (s : State) : LawsKept s { s with params := p } :=
  ⟨⟨id, id, fun _ => id, id, id, fun _ => hp, fun _ => id⟩, rfl, fun _ k => k.congr ⟨rfl, rfl, rfl, rfl⟩⟩

/-! ## START RUN -/

/-- The records after a detection are one for each ID input (R12). -/
theorem detect_blocks (ids : IdCodes) (s : State) :
    (detect ids s).blocks = if s.straps.autodet then
      { s.blocks with records := ids.toList.map (detectBlock s.blocks.allowed) } else s.blocks := by
  unfold detect
  cases s.straps.autodet
  · rfl
  · simp only [Bool.not_true, Bool.false_eq_true, if_false, if_true]
    split <;> split <;> simp [setBlockRecords]

/-- A detection keeps the laws (R12, R13). -/
theorem detect_laws (ids : IdCodes) (s : State) : LawsKept s (detect ids s) := by
  refine ⟨⟨fun k => by simpa [netMapLawful] using k, fun k => by simpa using k, fun _ k => by simpa using k, fun k => ?_,
    fun k => by simpa using k, fun k => by simpa using k, fun _ k => by simpa using k⟩, by simp,
    fun _ k => k.congr (by simp [sameMatrix])⟩
  rw [blocksLawful, detect_blocks]
  split
  · simp only [blocksLawful, Bool.and_eq_true] at k ⊢
    exact ⟨by simp [Config.blockCount], k.2⟩
  · exact k

/-- The acceptance of START RUN keeps the laws (R76). -/
theorem acceptRun_laws (number : Nat) (s : State) : LawsKept s (acceptRun number s) := by
  have h1 : TablesKept s (if s.print.pass then endPass .cut s else s) := by
    split
    · exact endPass_tables _ s
    · exact .refl s
  have h2 : ∀ u : State, LawsKept u (setDefects Defects.empty { u with
      bus := { u.bus with silent := false, errors := 0 }, matrix := { u.matrix with override := .none } }) := fun u =>
    ⟨⟨id, id, fun _ => id, id, fun _ => defectsLawful_empty, id, fun _ => id⟩, rfl, fun _ k =>
      k.ofPoints rfl rfl (fun _ => .refl _) fun m => by
        simp only [mustFloat, heldAtFloat, setDefects, Bool.or_eq_true] at m ⊢
        rcases m with (m | m) | m
        · exact .inl (.inl m)
        · cases m
        · exact .inr m⟩
  have h3 : ∀ u, LawsKept u (endDump u) := fun u => by
    unfold endDump
    split
    · split
      · exact (cancelContext_tables _ u).laws
      · exact .refl u
    · exact .refl u
  have h4 : ∀ (r : Run) u, LawsKept u (assertHold (timerRestart .running
      { setHv { u.hv with elected := false } (setRun r u) with
        decoder := { (setHv { u.hv with elected := false } (setRun r u)).decoder with summary := some 0 } })) := fun r u =>
    .ofSame (by simp [setRun]) (by simp [sameMatrix, setRun])
  exact (h1.laws.trans (h2 _)).trans ((h3 _).trans (h4 _ _))

/-- The PREPARE work of START RUN keeps the laws (R78): the Net Map is built anew. -/
theorem prepareWork_laws (ids : IdCodes) (s : State) : LawsKept s (prepareWork ids s) := by
  have h1 := mapPoints_laws (fun _ p => clearRunFields p) (fun _ _ => ⟨rfl, rfl, rfl⟩) s
  have h2 : ∀ u, LawsKept u (setNetMap [] (emptyBuffer u)) := fun u =>
    ⟨⟨fun _ => rfl, id, fun _ _ => Nat.zero_le _, id, id, id, fun _ => id⟩, rfl, fun _ k => k.congr ⟨rfl, rfl, rfl, rfl⟩⟩
  have h3 : ∀ u, LawsKept u (setNetMap (builtNetMap u) u) := fun u => by
    obtain ⟨hs, hl⟩ := builtNetMap_sorted_length u
    exact ⟨⟨fun _ => by simpa [netMapLawful] using hs, id, fun hn _ => hl.trans (Nat.le_of_eq hn), id, id, id, fun _ => id⟩,
      rfl, fun _ k => k.congr ⟨rfl, rfl, rfl, rfl⟩⟩
  have h4 : ∀ x u, LawsKept u (setSampler x u) := fun x u => .ofSame (by simp) (by simp [sameMatrix])
  exact (h1.trans (h2 _)).trans (((detect_laws ids _).trans (h3 _)).trans (h4 _ _))

/-! ## Resets -/

/-- A reset leaves the points at FLOAT, empties the lists, and keeps the laws of the rest (R183). -/
theorem resetRunState_laws {s : State} (hf : ∀ j, pointFloats (pointAt s j) = true) : LawsKept s (resetRunState s) := by
  have hp : ∀ j, pointFloats (pointAt (resetRunState s) j) = true := (all_points_iff _ rfl _).1 (by
    have := (all_points_iff _ rfl s).2 hf
    simp only [List.all_eq_true, resetRunState, List.mem_map] at this ⊢
    rintro _ ⟨p, hp, rfl⟩
    exact this p hp)
  refine ⟨⟨fun _ => rfl, fun k => by simpa [resetRunState] using k, fun _ _ => Nat.zero_le _, id, fun _ => defectsLawful_empty, id,
    fun _ k => ?_⟩, rfl, fun _ k => .ofFloats ?_ rfl hp⟩
  · obtain ⟨h1, h2, h3, -⟩ := (printLawful_iff _).1 k
    exact (printLawful_iff _).2 ⟨h1, h2, h3, Nat.lt_of_lt_of_le (Nat.succ_pos 19) h2, Nat.zero_le _, Nat.zero_le _,
      Nat.zero_le _, .inr rfl, fun e he => by cases he⟩
  · simpa [resetRunState] using ((pointsLawful_iff s).1 k.points).1

/-- What RESET FULL sets keeps the laws (R183, R16, R73, R150). -/
theorem resetFullState_laws {s : State} (hl : s.print.lineOn = 0) : LawsKept s (resetFullState s) := by
  have hk : ∀ j, PointKept (pointAt s j) (pointAt (resetFullState s) j) := fun j => by
    rcases Nat.lt_or_ge j s.points.length with hj | hj
    · have : pointAt (resetFullState s) j = resetPoint true (pointAt s j) := by
        simp [pointAt, resetFullState, List.getD_eq_getElem?_getD, hj]
      rw [this]; exact .ofSwitching ⟨rfl, rfl, rfl⟩
    · rw [pointAt_beyond s j hj, pointAt_beyond _ j (by simpa [resetFullState] using hj)]; exact .refl _
  refine ⟨⟨id, fun k => by simpa [resetFullState] using k, fun _ => id, fun _ => blocksLawful_powerUp rfl, id,
    fun _ => paramsLawful_defaults, fun _ k => ?_⟩, rfl, fun _ k => k.ofPoints (by simp [resetFullState]) rfl hk id⟩
  obtain ⟨-, -, -, -, h5, h6, h7, h8, h9⟩ := (printLawful_iff _).1 k
  exact (printLawful_iff _).2 ⟨Nat.zero_le _, by simp [resetFullState], by simp [resetFullState],
    by simp [resetFullState, hl], h5, h6, h7, h8, h9⟩

/-- A reset of either scope keeps the laws (R183). -/
theorem resetStation_laws (full : Bool) (ids : IdCodes) (s : State) : LawsKept s (resetStation full ids s) := by
  have h1 : TablesKept s (enterFollowing (forcedFloat s)) :=
    forcedFloat_tables (by simp) (by simp [batches_forcedFloat]) (by simp)
  have h2 := h1.laws.trans (resetRunState_laws fun j => by
    rw [pointAt_congr (s := forcedFloat s) (by simp)]; exact forcedFloat_floats s j)
  unfold resetStation
  simp only
  split
  · exact h2.trans ((resetFullState_laws rfl).trans (detect_laws ids _))
  · exact h2

/-- ESTOP's work at a station that sees it asserted keeps the laws (R33). -/
theorem estopWork_laws {s : State} (h : s.lines.estop = true) : LawsKept s (estopWork s) :=
  (estopWork_tables (s := s) (by rw [← h])).laws

/-- The release from HELD keeps the laws, those of the switch matrix too (R58). -/
theorem release_laws (full : Bool) (ids : IdCodes) (s : State) :
    ListsKept s (release full ids s) ∧ (MatrixSound s → MatrixSound (release full ids s)) := by
  let s0 : State := { s with bus := { s.bus with held := false, resetCount := 0 } }
  have h0 : MatrixSound s → MatrixSound s0 := fun k => k.ofPoints rfl rfl (fun _ => .refl _) fun m => by
    have m : heldAtFloat s = true := by simpa [mustFloat, heldAtFloat, s0] using m
    simp [mustFloat, m]
  have h1 : LawsKept s0 (release full ids s) := by
    have hd : ∀ u, LawsKept u (if full then u else detect ids u) := fun u => by
      split
      · exact .refl u
      · exact detect_laws ids u
    have he : ∀ u, LawsKept u (if u.lines.estop then estopWork u else u) := fun u => by
      split
      · exact estopWork_laws ‹_›
      · exact .refl u
    exact (resetStation_laws full ids s0).trans ((hd _).trans (he _))
  exact ⟨⟨h1.lists.order, h1.lists.count, h1.lists.bound, h1.lists.blocks, h1.lists.defects, h1.lists.params, h1.lists.print⟩,
    fun k => h1.matrix rfl (h0 k)⟩

/-- A clean frame taken in HELD keeps the laws (R58). -/
theorem heldTakes_laws (f : Frame) (ids : IdCodes) (s : State) :
    ListsKept s (heldTakes f ids s) ∧ (MatrixSound s → MatrixSound (heldTakes f ids s)) := by
  have hc : ∀ n, ListsKept s (setResetCount n s) ∧ (MatrixSound s → MatrixSound (setResetCount n s)) := fun n =>
    ⟨(setResetCount_tables n s).laws.lists, fun k => k.congr ⟨rfl, rfl, rfl, rfl⟩⟩
  unfold heldTakes
  split
  · exact ⟨(LawsKept.refl s).lists, id⟩
  · split
    · split
      · exact hc 1
      · exact release_laws _ ids s
    · exact hc 0

/-- A station right after power-up satisfies the laws of the lists and of the switch matrix (R57). -/
theorem powerUp_laws (straps : Straps) (hold live estop : Bool) (s : State) {t : State}
    (h : t = { State.atPowerUp straps hold live estop with pending := s.pending }) : ListsKept s t ∧ MatrixSound t := by
  subst h
  refine ⟨⟨fun _ => rfl, fun _ => List.length_replicate, fun _ _ => Nat.zero_le _, fun _ => blocksLawful_powerUp rfl,
    fun _ => defectsLawful_empty, fun _ => paramsLawful_defaults, fun _ _ => ?_⟩, .ofFloats List.length_replicate rfl ?_⟩
  · show printLawful Printer.powerUp = true
    decide
  · exact (all_points_iff _ rfl _).1 (by
      show (List.replicate Config.pointCount Point.powerUp).all pointFloats = true
      rw [List.all_replicate]; rfl)

end Sys2Proof.Machine
end

section
/-! The Net Map, the Defect List, the blocks and the print counters stay lawful over every step (O58), and a run keeps its netlist
(O60). -/

namespace Sys2Proof.Machine

/-! ## The laws kept by every command -/

/-- A SET BLOCKS, an ASSIGN, a RUN PARAMETERS or a START RUN keeps the laws like any other command that cannot be a RESET or
POWER_UP. -/
theorem exec_laws (c : Instr) (s t : State) (hr : mayReset c = false) (hp : isPowerUp c = false)
    (h : exec c s = .next t) : LawsKept s t := by
  by_cases hc : writesTables c = false
  · exact (exec_tables c s t hc h).laws
  cases c
  case powerUp => cases hp
  case heldFrame | resetRun | resetFull => cases hr
  case assignNet =>
    cases h
    refine request_laws _ 1 (fun form u => ?_) s
    split
    · exact assignNet_laws _ _ _ _ u
    · exact .refl u
  case assignRange h first last net stp role =>
    cases h
    refine request_laws _ 2 (fun form u => ?_) s
    cases form
    · exact .refl u
    · exact (refuse_tables _ _ _ _ u).laws
    · simp only
      split
      · exact .refl u
      · split
        · exact assignRange_laws _ _ _ _ _ u
        · exact .refl u
  case clearTable =>
    cases h
    refine request_laws _ 3 (fun form u => ?_) s
    cases form
    · exact .refl u
    · simp only
      split
      · exact (refuse_tables _ _ _ _ u).laws
      · exact (clearTable_laws u).trans (reply_tables _ _ _ _).laws
    · simp only
      split
      · exact .refl u
      · exact clearTable_laws u
  case setBlocks =>
    cases h
    refine request_laws _ 4 (fun form u => ?_) s
    split
    · exact setBlocks_laws _ _ _ u
    · exact .refl u
  case runParameters hd a =>
    cases h
    refine request_laws _ 5 (fun form u => ?_) s
    cases form
    · exact .refl u
    · exact (setParams_laws (storedParams_lawful a) u).trans (reply_tables _ _ _ _).laws
    · exact setParams_laws (storedParams_lawful a) u
  case startRun hd number ids =>
    cases h
    refine request_laws _ 8 (fun form u => ?_) s
    split
    · exact .refl u
    · exact (raise_tables _ u).laws
    · exact (acceptRun_laws _ u).trans (prepareWork_laws _ _)
    · exact ((raise_tables _ u).trans (refuse_tables _ _ _ _ _)).laws
    · exact (reply_tables _ _ _ u).laws.trans ((acceptRun_laws _ _).trans (prepareWork_laws _ _))
  all_goals exact absurd rfl hc

/-- A RESET frame of a station out of HELD keeps the laws (R183). -/
theorem resetRequest_laws (full : Bool) (h : Header) (ids : IdCodes) (s : State) :
    LawsKept s (request h 22 (fun form s' =>
      match form with
      | .unheard => s'
      | .addressed => refuse h 22 .range 0 s'
      | .general => resetStation full ids s') s) := by
  refine request_laws _ 22 (fun form u => ?_) s
  cases form
  · exact .refl u
  · exact (refuse_tables _ _ _ _ u).laws
  · exact resetStation_laws _ _ u

/-- A RESET frame keeps the laws, in HELD those of the switch matrix too (R58, R183). -/
theorem resetFrame_laws (full : Bool) (h : Header) (ids : IdCodes) (s : State) :
    ListsKept s (resetFrame full h ids s) ∧ (MatrixSound s → MatrixSound (resetFrame full h ids s)) := by
  unfold resetFrame
  split
  · exact heldTakes_laws _ _ s
  · rename_i hb
    have hk := resetRequest_laws full h ids s
    refine ⟨hk.lists, fun k => ?_⟩
    cases hh : s.bus.held
    · exact hk.matrix hh k
    · have hi : s.bus.integrated = false := by simpa [hh] using hb
      simpa [request, frameEnd, hi] using k

/-- A command that may be a RESET, and POWER_UP, keep the laws, those of the switch matrix too (R57, R58, R183). -/
theorem exec_reset_laws (c : Instr) (s t : State) (hc : mayReset c = true ∨ isPowerUp c = true) (h : exec c s = .next t) :
    ListsKept s t ∧ (MatrixSound s → MatrixSound t) := by
  cases c
  case powerUp straps hold live estop =>
    cases h
    exact (powerUp_laws straps hold live estop s rfl).imp_right fun k _ => k
  case heldFrame f ids =>
    cases h
    split
    · exact heldTakes_laws f ids s
    · exact ⟨(LawsKept.refl s).lists, id⟩
  case resetRun hd ids => cases h; exact resetFrame_laws false hd ids s
  case resetFull hd ids => cases h; exact resetFrame_laws true hd ids s
  all_goals simp [mayReset, isPowerUp] at hc

/-- Every command keeps the laws of the lists, of the blocks and of the printout. -/
theorem exec_lists (c : Instr) (s t : State) (h : exec c s = .next t) : ListsKept s t := by
  by_cases hc : mayReset c = true ∨ isPowerUp c = true
  · exact (exec_reset_laws c s t hc h).1
  · exact (exec_laws c s t (by simp_all) (by simp_all) h).lists

/-- A step is a millisecond, or a command on the state with the queue's rest. -/
theorem step_cases {s t : State} (h : step s = .next t) :
    t = tick s ∨ ∃ c rest, s.pending = c :: rest ∧ exec c { s with pending := rest } = .next t := by
  unfold step at h
  split at h
  · rename_i c rest hs; exact .inr ⟨c, rest, hs, h⟩
  · cases h; exact .inl rfl

/-- The queue of waiting commands bears on no table. -/
theorem withPending_tables (rest : List Instr) (s : State) : TablesKept s { s with pending := rest } :=
  .ofSame ⟨⟨rfl, rfl, rfl, rfl, rfl, rfl, rfl, rfl⟩, ⟨rfl, rfl, rfl, rfl⟩, rfl, rfl⟩

/-- Settles O58: every command keeps each of the laws, and so does a millisecond. -/
theorem listsStayInOrder : Obligations.ListsStayInOrder := by
  intro s t h
  have hk : ListsKept s t := by
    rcases step_cases h with rfl | ⟨c, rest, -, h⟩
    · exact (tick_tables s).laws.lists
    · exact (withPending_tables rest s).laws.lists.trans (exec_lists c _ t h)
  exact ⟨hk.order, fun hp => hk.bound ((pointsLawful_iff s).1 hp).1, hk.blocks, hk.defects, hk.print⟩

/-! ## Within a run -/

/-- What a run never writes is as it was (R2, R17, R72, R74). -/
def sameNetlist (s t : State) : Prop :=
  t.points.map netlistOf = s.points.map netlistOf ∧ t.blocks = s.blocks ∧ t.netMap.map netKey = s.netMap.map netKey ∧
  t.run.number = s.run.number ∧ t.run.sweepOn = s.run.sweepOn ∧ t.run.insOn = s.run.insOn

/-- What keeps the tables writes nothing that a run keeps. -/
theorem TablesKept.netlistKept {s t : State} (h : TablesKept s t) : sameNetlist s t :=
  ⟨h.netlist, h.blocks, h.netKeys, h.number, h.sweepOn, h.insOn⟩

theorem sameNetlist.trans {s u t : State} (h : sameNetlist s u) (k : sameNetlist u t) : sameNetlist s t := by
  obtain ⟨h1, h2, h3, h4, h5, h6⟩ := h
  obtain ⟨k1, k2, k3, k4, k5, k6⟩ := k
  exact ⟨k1.trans h1, k2.trans h2, k3.trans h3, k4.trans h4, k5.trans h5, k6.trans h6⟩

/-- Outside an active run a clean frame ends no phase (R92, R115). -/
theorem firstFrame_inactive (k : Nat) {s : State} (h : runActive s = false) : firstFrame k s = s := by
  unfold firstFrame phaseEnd
  cases hs : s.run.state <;> simp_all [runActive]

/-- A frame end within a run writes nothing that a run keeps where the effect of the frame, if it stays within the run, writes
nothing of it. -/
theorem frameEnd_within (f : Frame) {act : Bool → State → State} (s : State)
    (ha : ∀ own b, runActive (act own { s with bus := b }) = true → sameNetlist s (act own { s with bus := b }))
    (ht : runActive (frameEnd f act s) = true) : sameNetlist s (frameEnd f act s) := by
  rcases frameEnd_cases f act s with h | ⟨-, h⟩ | ⟨-, t, e, h⟩
  · rw [h]; exact (TablesKept.refl s).netlistKept
  · rw [h]; exact (setResetCount_tables 0 s).netlistKept
  · rcases h with h | h <;> rw [h] at ht ⊢
    · rw [e] at ht ⊢; exact ha _ _ ht
    · cases hu : runActive t
      · rw [firstFrame_inactive _ hu, hu] at ht; cases ht
      · rw [e] at hu
        exact (e ▸ ha _ _ hu : sameNetlist s t).trans (firstFrame_tables _ t).netlistKept

/-- A request within a run, likewise. -/
theorem request_within (h : Header) (code : Nat) {act : Form → State → State} (s : State)
    (ha : ∀ form b, runActive (act form { s with bus := b }) = true → sameNetlist s (act form { s with bus := b }))
    (ht : runActive (request h code act s) = true) : sameNetlist s (request h code act s) :=
  frameEnd_within _ s (fun _ b k => ha (formOf h { s with bus := b }) b k) ht

/-- A reset leaves no run active (R183). -/
theorem resetStation_inactive (full : Bool) (ids : IdCodes) (s : State) : runActive (resetStation full ids s) = false := by
  unfold resetStation
  simp only
  split <;> simp [runActive, resetFullState, resetRunState, Run.powerUp]

/-- The end of a run where none is active does nothing. -/
theorem endActiveRun_inactive (cause : Cause) {s : State} (h : runActive s = false) : endActiveRun cause s = s := by
  simp [endActiveRun, h]

/-- The release from HELD leaves no run active (R58). -/
theorem release_inactive (full : Bool) (ids : IdCodes) (s : State) : runActive (release full ids s) = false := by
  have h1 := resetStation_inactive full ids { s with bus := { s.bus with held := false, resetCount := 0 } }
  have h2 : ∀ u : State, runActive u = false → runActive (if full then u else detect ids u) = false := fun u hu => by
    split
    · exact hu
    · simpa [runActive] using hu
  have h3 : ∀ u : State, runActive u = false → runActive (if u.lines.estop then estopWork u else u) = false := fun u hu => by
    split
    · rw [estopWork_eq, endActiveRun_inactive]
      · simpa [runActive] using hu
      · simpa [runActive] using hu
    · exact hu
  exact h3 _ (h2 _ h1)

/-- A frame taken in HELD writes nothing within a run (R58): a release leaves none active. -/
theorem heldTakes_within (f : Frame) (ids : IdCodes) (s : State) (ht : runActive (heldTakes f ids s) = true) :
    sameNetlist s (heldTakes f ids s) := by
  unfold heldTakes at ht ⊢
  split at ht
  · rename_i hf; simp only [hf, if_true]; exact (TablesKept.refl s).netlistKept
  · rename_i hf
    rw [if_neg hf]
    split at ht
    · split at ht
      · rename_i hc; simp only [hc, if_true]; exact (setResetCount_tables 1 s).netlistKept
      · rw [release_inactive] at ht; cases ht
    · exact (setResetCount_tables 0 s).netlistKept

/-- A RESET frame writes nothing within a run: taken, it leaves none active. -/
theorem resetFrame_within (full : Bool) (h : Header) (ids : IdCodes) (s : State)
    (ht : runActive (resetFrame full h ids s) = true) : sameNetlist s (resetFrame full h ids s) := by
  unfold resetFrame at ht ⊢
  split at ht
  · rename_i hb; simp only [hb, if_true]; exact heldTakes_within _ _ s ht
  · rename_i hb
    rw [if_neg hb]
    refine request_within _ 22 s (fun form b k => ?_) ht
    cases form
    · exact (TablesKept.refl s).netlistKept
    · exact (refuse_tables _ _ _ _ { s with bus := b }).netlistKept
    · rw [resetStation_inactive] at k; cases k

/-- The requests that write the netlist or the blocks are refused or disregarded in an active run (R7 to R9, R15), and START RUN
is not accepted in it (R75). -/
theorem exec_within (c : Instr) (s t : State) (hs : runActive s = true) (h : exec c s = .next t)
    (ht : runActive t = true) : sameNetlist s t := by
  by_cases hc : writesTables c = false
  · exact (exec_tables c s t hc h).netlistKept
  have hb : ∀ b, runActive { s with bus := b } = true := fun _ => hs
  have hk : ∀ b, sameNetlist s { s with bus := b } := fun _ => (TablesKept.refl s).netlistKept
  have hr : ∀ hd code why sel b, sameNetlist s (refuse hd code why sel { s with bus := b }) := fun _ _ _ _ b =>
    (hk b).trans (refuse_tables _ _ _ _ _).netlistKept
  cases c
  case powerUp => cases h; cases ht
  case heldFrame f ids =>
    cases h
    split at ht
    · rename_i hb; simp only [hb, if_true]; exact heldTakes_within f ids s ht
    · rename_i hb; simp only [hb]; exact hk s.bus
  case resetRun hd ids => cases h; exact resetFrame_within false hd ids s ht
  case resetFull hd ids => cases h; exact resetFrame_within true hd ids s ht
  case assignNet =>
    cases h
    refine request_within _ 1 s (fun form b _ => ?_) ht
    split
    · unfold assignNet
      split
      · exact hr _ _ _ _ b
      · rw [if_pos (hb b)]; exact hr _ _ _ _ b
    · exact hk b
  case assignRange =>
    cases h
    refine request_within _ 2 s (fun form b _ => ?_) ht
    cases form
    · exact hk b
    · exact hr _ _ _ _ b
    · simp only [hb, Bool.not_true, Bool.and_false, Bool.false_eq_true, if_false]
      split <;> exact hk b
  case clearTable =>
    cases h
    refine request_within _ 3 s (fun form b _ => ?_) ht
    cases form
    · exact hk b
    · simp only [hb, if_true]; exact hr _ _ _ _ b
    · simp only [hb, if_true]; exact hk b
  case setBlocks =>
    cases h
    refine request_within _ 4 s (fun form b _ => ?_) ht
    split
    · rw [setBlocks, if_pos (hb b)]; exact hr _ _ _ _ b
    · exact hk b
  case runParameters hd a =>
    cases h
    refine request_within _ 5 s (fun form b _ => ?_) ht
    have hp : ∀ b, sameNetlist s { { s with bus := b } with params := storedParams a } := fun b => hk b
    cases form
    · exact hk b
    · exact (hp b).trans (reply_tables _ _ _ _).netlistKept
    · exact hp b
  case startRun hd number ids =>
    cases h
    refine request_within _ 8 s (fun form b _ => ?_) ht
    have hn : startRefusal number.toNat { s with bus := b } = some .runActive := by rw [startRefusal, if_pos (hb b)]
    rw [hn]
    cases form
    · exact hk b
    · exact ((hk b).trans (raise_tables _ _).netlistKept).trans (refuse_tables _ _ _ _ _).netlistKept
    · exact (hk b).trans (raise_tables _ _).netlistKept
  all_goals exact absurd rfl hc

/-- Settles O60: what keeps the tables writes none of it, and the commands that do write are not taken in an active run or leave
none active. -/
theorem runKeepsItsNetlist : Obligations.RunKeepsItsNetlist := fun c s t hs h ht => exec_within c s t hs h ht

end Sys2Proof.Machine
end

section
/-! SUPPORT. The laws of a run (R51, R58, R72, R77, R88, R99, R112, R181) as one predicate with a name for each, and what the shared
operations make of it. -/

namespace Sys2Proof.Machine

/-! ## The laws of a run -/

/-- A sound run: its stages, timers and jobs exist in their run states alone. -/
structure RunSound (s : State) : Prop where
  sweep : s.run.sweepStage ≠ .none → s.run.state = .sweep
  ins : s.run.insStage ≠ .none → s.run.state = .insulate
  timer : runActive s = false → s.run.timer.mode = .stopped
  halt : s.run.halt = true → s.run.sweepStage = .halted
  job : ∀ n d, s.sampler.job = .sampling n d → s.run.sweepStage = .sampling
  summary : s.decoder.summary.isSome = runActive s
  held : s.bus.held = true → s.run.state = .idle
  silent : s.bus.silent = true → runActive s = false

theorem runLawful_iff (s : State) : runLawful s = true ↔ RunSound s := by
  have hk : runLawful s = true ↔ ((s.run.sweepStage = .none ∨ s.run.state = .sweep) ∧
      (s.run.insStage = .none ∨ s.run.state = .insulate) ∧ (runActive s = true ∨ s.run.timer.mode = .stopped) ∧
      (s.run.halt = false ∨ s.run.sweepStage = .halted) ∧
      (∀ n d, s.sampler.job = .sampling n d → s.run.sweepStage = .sampling) ∧
      s.decoder.summary.isSome = runActive s ∧ (s.bus.held = false ∨ s.run.state = .idle) ∧
      (s.bus.silent = false ∨ runActive s = false)) := by
    cases hj : s.sampler.job <;> simp [runLawful, hj, and_assoc]
  rw [hk]
  constructor
  · rintro ⟨h1, h2, h3, h4, h5, h6, h7, h8⟩
    exact ⟨h1.resolve_left, h2.resolve_left, fun k => h3.resolve_left (by simp [k]), fun k => h4.resolve_left (by simp [k]),
      h5, h6, fun k => h7.resolve_left (by simp [k]), fun k => h8.resolve_left (by simp [k])⟩
  · intro h
    exact ⟨or_iff_not_imp_left.2 h.sweep, or_iff_not_imp_left.2 h.ins,
      or_iff_not_imp_left.2 fun k => h.timer (by simpa using k), or_iff_not_imp_left.2 fun k => h.halt (by simpa using k),
      h.job, h.summary, or_iff_not_imp_left.2 fun k => h.held (by simpa using k),
      or_iff_not_imp_left.2 fun k => h.silent (by simpa using k)⟩

/-- A run is active by its state alone. -/
theorem runActive_congr {s t : State} (h : t.run.state = s.run.state) : runActive t = runActive s := by
  simp [runActive, h]

/-- What the laws of a run read is as it was; a stopped step timer of an inactive run stays stopped. -/
def sameRun (s t : State) : Prop :=
  t.run.state = s.run.state ∧ t.run.sweepStage = s.run.sweepStage ∧ t.run.insStage = s.run.insStage ∧
  t.run.halt = s.run.halt ∧ t.sampler.job = s.sampler.job ∧ t.decoder.summary.isSome = s.decoder.summary.isSome ∧
  t.bus.held = s.bus.held ∧ t.bus.silent = s.bus.silent ∧
  (runActive s = false → s.run.timer.mode = .stopped → t.run.timer.mode = .stopped)

theorem sameRun.refl (s : State) : sameRun s s := ⟨rfl, rfl, rfl, rfl, rfl, rfl, rfl, rfl, fun _ => id⟩

theorem sameRun.trans {s u t : State} (h : sameRun s u) (k : sameRun u t) : sameRun s t := by
  obtain ⟨h1, h2, h3, h4, h5, h6, h7, h8, h9⟩ := h
  obtain ⟨k1, k2, k3, k4, k5, k6, k7, k8, k9⟩ := k
  exact ⟨k1.trans h1, k2.trans h2, k3.trans h3, k4.trans h4, k5.trans h5, k6.trans h6, k7.trans h7, k8.trans h8,
    fun ha hm => k9 ((runActive_congr h1).trans ha) (h9 ha hm)⟩

theorem RunSound.congr {s t : State} (h : RunSound s) (k : sameRun s t) : RunSound t := by
  obtain ⟨k1, k2, k3, k4, k5, k6, k7, k8, k9⟩ := k
  have ka := runActive_congr k1
  exact ⟨by rw [k1, k2]; exact h.sweep, by rw [k1, k3]; exact h.ins, fun m => k9 (ka ▸ m) (h.timer (ka ▸ m)),
    by rw [k4, k2]; exact h.halt, by rw [k5, k2]; exact h.job, by rw [k6, ka]; exact h.summary, by rw [k7, k1]; exact h.held,
    by rw [k8, ka]; exact h.silent⟩

/-! ## What is known of a sound run -/

/-- No sampling pass is in progress. -/
def noPass (s : State) : Prop := ∀ n d, s.sampler.job ≠ .sampling n d

theorem RunSound.haltClear {s : State} (h : RunSound s) (hs : s.run.sweepStage ≠ .halted) : s.run.halt = false := by
  cases hh : s.run.halt
  · rfl
  · exact absurd (h.halt hh) hs

theorem RunSound.passNone {s : State} (h : RunSound s) (hs : s.run.sweepStage ≠ .sampling) : noPass s :=
  fun n d hj => hs (h.job n d hj)

theorem RunSound.sweepStageNone {s : State} (h : RunSound s) (hs : s.run.state ≠ .sweep) : s.run.sweepStage = .none :=
  Decidable.not_not.1 fun k => hs (h.sweep k)

theorem RunSound.insStageNone {s : State} (h : RunSound s) (hs : s.run.state ≠ .insulate) : s.run.insStage = .none :=
  Decidable.not_not.1 fun k => hs (h.ins k)

/-- An active run is neither HELD nor SILENT. -/
theorem RunSound.activeFree {s : State} (h : RunSound s) (ha : runActive s = true) :
    s.bus.held = false ∧ s.bus.silent = false := by
  constructor
  · cases hh : s.bus.held
    · rfl
    · simp [runActive, h.held hh] at ha
  · cases hh : s.bus.silent
    · rfl
    · rw [h.silent hh] at ha; cases ha

/-- Outside an active run no stage is entered. -/
theorem RunSound.stagesNone {s : State} (h : RunSound s) (ha : runActive s = false) :
    s.run.sweepStage = .none ∧ s.run.insStage = .none ∧ s.run.state ≠ .prepare :=
  ⟨h.sweepStageNone fun k => by simp [runActive, k] at ha, h.insStageNone fun k => by simp [runActive, k] at ha,
    fun k => by simp [runActive, k] at ha⟩

/-! ## Stages and the run state -/

/-- A sweep stage entered in SWEEP, the halt flag clear and no pass in progress, keeps the run sound. -/
theorem setSweepStage_sound {s : State} (h : RunSound s) (hs : s.run.state = .sweep) (hh : s.run.halt = false)
    (hj : noPass s) (g : SweepStage) : RunSound (setSweepStage g s) :=
  ⟨fun _ => hs, h.ins, h.timer, fun k => absurd (hh.symm.trans k) Bool.false_ne_true,
    fun n d k => absurd k (hj n d), h.summary, h.held, h.silent⟩

/-- The same from a stage in which neither a halt nor a pass is possible. -/
theorem leaveStage_sound {s : State} (h : RunSound s) (hs : s.run.state = .sweep) (h1 : s.run.sweepStage ≠ .halted)
    (h2 : s.run.sweepStage ≠ .sampling) (g : SweepStage) : RunSound (setSweepStage g s) :=
  setSweepStage_sound h hs (h.haltClear h1) (h.passNone h2) g

/-- An insulation stage entered in INSULATE keeps the run sound. -/
theorem setInsStage_sound {s : State} (h : RunSound s) (hs : s.run.state = .insulate) (g : InsStage) :
    RunSound (setInsStage g s) :=
  ⟨h.sweep, fun _ => hs, h.timer, h.halt, h.job, h.summary, h.held, h.silent⟩

/-! ## The step timer and the lines -/

/-- Outside an active run HOLD's rise leaves the step timer alone (R77). -/
theorem holdRises_timer {s : State} (h : runActive s = false) : (holdRises s).run.timer = s.run.timer := by
  have : runActive { s with lines := { s.lines with holdSeen := true } } = false := h
  simp [holdRises, this]

/-- Outside an active run an assertion of HOLD leaves the step timer alone (R77). -/
theorem assertHold_timer {s : State} (h : runActive s = false) : (assertHold s).run.timer = s.run.timer := by
  unfold assertHold
  split
  · rfl
  · simp only
    split
    · simp
    · rw [holdRises_timer ((runActive_congr (by simp)).trans h)]
      simp

/-- Outside an active run an assertion of LIVE leaves the step timer alone (R77). -/
theorem liveRises_timer {s : State} (h : runActive s = false) : (liveRises s).run.timer = s.run.timer := by
  unfold liveRises
  have : runActive { s with lines := { s.lines with liveSeen := true } } = false := h
  simp only [this]

theorem assertHold_run (s : State) : sameRun s (assertHold s) := by
  refine ⟨by simp, by simp, by simp, by simp, by simp, by simp, by simp, by simp, fun ha hm => ?_⟩
  rwa [assertHold_timer ha]

theorem holdRises_run (s : State) : sameRun s (holdRises s) := by
  refine ⟨by simp, by simp, by simp, by simp, by simp, by simp, by simp, by simp, fun ha hm => ?_⟩
  rwa [holdRises_timer ha]

theorem liveRises_run (s : State) : sameRun s (liveRises s) :=
  ⟨by simp, by simp, by simp, by simp, by simp, by simp, by simp, by simp, fun ha hm => by rwa [liveRises_timer ha]⟩

theorem assertLive_run (s : State) : sameRun s (assertLive s) := by
  unfold assertLive
  split
  · exact .refl s
  · simp only
    split
    · exact .refl s
    · exact liveRises_run { s with lines := { s.lines with liveOut := true } }

/-- The step timer's stop is open to every run. -/
theorem timerStop_run (s : State) : sameRun s (timerStop s) := ⟨rfl, rfl, rfl, rfl, rfl, rfl, rfl, rfl, fun _ _ => rfl⟩

/-- The step timer's restart is open to an active run. -/
theorem timerRestart_run (m : TimerMode) {s : State} (h : runActive s = true) : sameRun s (timerRestart m s) :=
  ⟨rfl, rfl, rfl, rfl, rfl, rfl, rfl, rfl, fun k => by rw [h] at k; cases k⟩

/-! ## Offers, readings and batches -/

/-- An operation that leaves the run, the Sampling Engine, the summary timer and the bus states alone. -/
theorem sameRun.ofFrame {s t : State} (h : t.run = s.run ∧ t.sampler = s.sampler ∧ t.decoder.summary = s.decoder.summary ∧
    t.bus.held = s.bus.held ∧ t.bus.silent = s.bus.silent) : sameRun s t := by
  obtain ⟨h1, h2, h3, h4, h5⟩ := h
  exact ⟨by rw [h1], by rw [h1], by rw [h1], by rw [h1], by rw [h2], by rw [h3], h4, h5, fun _ => by rw [h1]; exact id⟩

/-- The classification of a step leaves the run alone (R70). -/
theorem classifyStep_run (d : Drive) (ref : Nat) (s : State) : sameRun s (classifyStep d ref s) := by
  have hp : ∀ limits i u, sameRun u (classifyPoint d ref limits i u) := fun limits i u => by
    refine .ofFrame ?_
    unfold classifyPoint readSameNet readOtherNet
    simp only
    split
    · split
      · split <;> (try split) <;> simp [updatePoint]
      · split <;> simp [updatePoint, updateNet, setNetMap]
    · simp
  unfold classifyStep
  generalize List.range s.points.length = l
  generalize (s.params.l, effectiveH s.params) = limits
  induction l generalizing s with
  | nil => exact .refl s
  | cons i l ih => exact (hp limits i s).trans (ih _)

/-- The end of a pass keeps a run sound in SWEEP (R96, R98). -/
theorem afterPass_sound {s : State} (h : RunSound s) (hs : s.run.state = .sweep) (hh : s.run.halt = false)
    (hj : noPass s) : RunSound (afterPass s) := by
  have hr : ∀ (u : State) (g : SweepStage), u.run = s.run → u.sampler = s.sampler → u.decoder.summary = s.decoder.summary →
      u.bus.held = s.bus.held → u.bus.silent = s.bus.silent → RunSound (setSweepStage g u) := fun u g h1 h2 h3 h4 h5 =>
    setSweepStage_sound (h.congr (.ofFrame ⟨h1, h2, h3, h4, h5⟩)) (h1 ▸ hs) (h1 ▸ hh) (fun n d => h2 ▸ hj n d) g
  have hq : ∀ p u, RunSound u → RunSound (queue Config.generalCall p u) := fun p u k => k.congr (.ofFrame (by simp))
  unfold afterPass
  split
  · exact hr _ _ rfl rfl rfl rfl rfl
  · have h2 : ∀ (p q : Prop) [Decidable p] [Decidable q] (g : SweepStage),
        RunSound (setSweepStage g (if q then raise .watch2 (if p then raise .watch1 s else s) else
          if p then raise .watch1 s else s)) ∧
        RunSound (setSweepStage g (releaseHold (if q then raise .watch2 (if p then raise .watch1 s else s) else
          if p then raise .watch1 s else s))) := fun p q _ _ g => by
      split <;> split <;> exact ⟨hr _ _ (by simp) (by simp) (by simp) (by simp) (by simp),
        hr _ _ (by simp) (by simp) (by simp) (by simp) (by simp)⟩
    simp only
    split
    · exact hq _ _ (h2 _ _ _).1
    · split
      · exact hq _ _ (h2 _ _ _).1
      · exact (h2 _ _ _).2

/-- The Sampling Engine without a pass keeps a run sound. -/
theorem setSampler_sound {s : State} (h : RunSound s) {x : Sampler} (hx : ∀ n d, x.job ≠ .sampling n d) :
    RunSound (setSampler x s) :=
  ⟨h.sweep, h.ins, h.timer, h.halt, fun n d k => absurd k (hx n d), h.summary, h.held, h.silent⟩

/-- A pass command in the settling stage keeps a run sound (R95). -/
theorem commandPass_sound {s : State} (h : RunSound s) (hs : s.run.sweepStage = .settling) : RunSound (commandPass s) := by
  have hw : s.run.state = .sweep := h.sweep (by rw [hs]; decide)
  have hh : s.run.halt = false := h.haltClear (by rw [hs]; decide)
  have hj : noPass s := h.passNone (by rw [hs]; decide)
  have h1 : RunSound (emptyBuffer (setSweepStage .sampling s)) :=
    setSampler_sound (setSweepStage_sound h hw hh hj .sampling) hj
  unfold commandPass
  simp only
  split
  · exact ⟨h1.sweep, h1.ins, h1.timer, h1.halt, fun _ _ _ => rfl, h1.summary, h1.held, h1.silent⟩
  · exact afterPass_sound (setSampler_sound h1 (fun _ _ k => by cases k)) hw hh fun _ _ k => by cases k

/-- A report keeps a run sound (R28). -/
theorem report_sound {s : State} (h : RunSound s) (why : Purpose) : RunSound (report s why) := by
  unfold report
  split
  · split
    · unfold prepareDone
      split
      · exact h.congr (.ofFrame (by simp))
      · exact h.congr (.ofFrame (by simp))
    · exact h
  · split
    · rename_i hs
      have h1 : RunSound (setRun { s.run with driveDone := true } s) :=
        h.congr ⟨rfl, rfl, rfl, rfl, rfl, rfl, rfl, rfl, fun _ => id⟩
      simp only
      split
      · exact commandPass_sound h1 hs
      · exact h1
    · exact h
  · split
    · rename_i hs
      have hr : RunSound (releaseHold s) := h.congr (.ofFrame (by simp))
      exact leaveStage_sound hr (h.sweep (by rw [hs]; decide)) (by simp [hs]) (by simp [hs]) _
    · exact h
  · split
    · rename_i hs
      have hr : RunSound (releaseHold s) := h.congr (.ofFrame (by simp))
      exact setInsStage_sound hr (h.ins (by rw [hs]; decide)) _
    · exact h
  · split
    · rename_i hs
      have hr : RunSound (releaseHold s) := h.congr (.ofFrame (by simp))
      exact setInsStage_sound hr (h.ins (by rw [hs]; decide)) _
    · exact h
  · exact h

/-- Reports keep a run sound. -/
theorem reports_sound (ps : List Purpose) {s : State} (h : RunSound s) : RunSound (ps.foldl report s) := by
  induction ps generalizing s with
  | nil => exact h
  | cons p ps ih => exact ih (report_sound h p)

/-- The reports of every complete batch keep a run sound (R28). -/
theorem reportAll_sound {s : State} (h : RunSound s) : RunSound (reportAll s) := by
  exact reports_sound _ (h.congr (.ofFrame (by simp)))

/-- A batch request leaves the run alone (R27). -/
theorem requestBatch_run (why : Purpose) (targets : List (Nat × Switch)) (s : State) :
    sameRun s (requestBatch why targets s) := .ofFrame (by simp)

/-- A batch keeps a run sound. -/
theorem batch_sound {s : State} (h : RunSound s) (why : Purpose) (targets : List (Nat × Switch)) :
    RunSound (batch why targets s) := reportAll_sound (h.congr (requestBatch_run why targets s))

/-- A FLOAT batch keeps a run sound. -/
theorem floatAll_sound {s : State} (h : RunSound s) (why : Purpose) : RunSound (floatAll why s) := batch_sound h _ _

/-- No stage awaits a report: the run is in no stage and not in PREPARE. -/
def awaitsNone (s : State) : Prop := s.run.sweepStage = .none ∧ s.run.insStage = .none ∧ s.run.state ≠ .prepare

/-- A report that no stage awaits changes nothing (R28). -/
theorem report_unawaited {s : State} (h : awaitsNone s) (why : Purpose) : report s why = s := by
  obtain ⟨h1, h2, h3⟩ := h
  cases why <;> simp [report, h1, h2, h3]

/-- Reports that no stage awaits change nothing. -/
theorem reports_unawaited (ps : List Purpose) {s : State} (h : awaitsNone s) : ps.foldl report s = s := by
  induction ps with
  | nil => rfl
  | cons p ps ih => rw [List.foldl_cons, report_unawaited h]; exact ih

/-- Reports that no stage awaits remove the complete batches and change nothing else (R28). -/
theorem reportAll_unawaited {s : State} (h : awaitsNone s) : reportAll s = (takeComplete s).2 := by
  exact reports_unawaited _ (s := (takeComplete s).2) h

/-- A batch whose report no stage awaits changes the points and the batches alone. -/
theorem batch_unawaited (why : Purpose) (targets : List (Nat × Switch)) {s : State} (h : awaitsNone s) :
    batch why targets s = setBatches (batch why targets s).matrix.batches
      { s with points := (requestBatch why targets s).points } := by
  have hu : awaitsNone (requestBatch why targets s) := by simpa [awaitsNone] using h
  unfold batch
  rw [reportAll_unawaited hu, takeComplete_fields, requestBatch_only]
  rfl

end Sys2Proof.Machine
end

section
/-! SUPPORT. The commands keep a run sound: phases and their ends, run ends, barriers, run frames, START RUN and the resets. -/

namespace Sys2Proof.Machine

/-! ## Outside an active run -/

/-- A run that is not active, in no stage, its timers stopped and no pass in progress, is sound. -/
theorem RunSound.ofInactive {s : State} (ha : runActive s = false)
    (hg : s.run.sweepStage = .none ∧ s.run.insStage = .none) (ht : s.run.timer.mode = .stopped) (hh : s.run.halt = false)
    (hj : noPass s) (hs : s.decoder.summary = none) (hd : s.bus.held = true → s.run.state = .idle) : RunSound s :=
  ⟨fun k => absurd hg.1 k, fun k => absurd hg.2 k, fun _ => ht, fun k => absurd (hh.symm.trans k) Bool.noConfusion,
    fun n d k => absurd k (hj n d), by rw [hs, ha]; rfl, hd, fun _ => ha⟩

/-- The summary timer stopped leaves no elapsed time (R181). -/
@[simp] theorem stopSummary_summary (s : State) : (stopSummary s).decoder.summary = none := by simp [stopSummary]

/-- A run that stays active, its stages those of its state, no halt and no pass but in theirs, is sound. -/
theorem RunSound.ofActive {s t : State} (h : RunSound s) (ha : runActive s = true) (ta : runActive t = true)
    (hk : t.decoder.summary = s.decoder.summary ∧ t.bus.held = s.bus.held ∧ t.bus.silent = s.bus.silent)
    (hs : t.run.sweepStage ≠ .none → t.run.state = .sweep) (hi : t.run.insStage ≠ .none → t.run.state = .insulate)
    (hh : t.run.halt = false) (hj : noPass t) : RunSound t := by
  obtain ⟨k1, k2, k3⟩ := hk
  obtain ⟨f1, f2⟩ := h.activeFree ha
  exact ⟨hs, hi, fun k => absurd (ta.symm.trans k) Bool.noConfusion, fun k => absurd (hh.symm.trans k) Bool.noConfusion,
    fun n d k => absurd k (hj n d), by rw [k1, h.summary, ha, ta],
    fun k => absurd ((k2.trans f1).symm.trans k) Bool.noConfusion,
    fun k => absurd ((k3.trans f2).symm.trans k) Bool.noConfusion⟩

/-- A frame queued leaves the run alone. -/
theorem queue_run (dst : Addr) (p : Payload) (s : State) : sameRun s (queue dst p s) := .ofFrame (by simp)

/-- HOLD released leaves the run alone. -/
theorem releaseHold_run (s : State) : sameRun s (releaseHold s) := .ofFrame (by simp)

/-- Bids leave the run alone. -/
theorem bidDrive_run (s : State) : sameRun s (bidDrive s) := .ofFrame (by simp)

/-- Bids leave the run alone. -/
theorem bidNet_run (s : State) : sameRun s (bidNet s) := .ofFrame (by simp)

/-- A completion mark leaves the run alone (R56). -/
theorem markStep_run (inProgress : Bool) (s : State) : sameRun s (markStep inProgress s) := .ofFrame (by simp [markStep])

/-- Entering COMPLETE from an active run, no halt and no pass in progress, keeps the run sound (R82). -/
theorem enterComplete_sound {s : State} (h : RunSound s) (ha : runActive s = true) (hh : s.run.halt = false)
    (hj : noPass s) : RunSound (enterComplete s) := by
  refine floatAll_sound (.ofInactive ?_ ⟨?_, ?_⟩ ?_ ?_ ?_ (stopSummary_summary _) fun k => ?_) _
  · simp [runActive, setRun]
  · simp [setRun]
  · simp [setRun]
  · simp [setRun, timerStop]
  · simpa [setRun] using hh
  · simpa [noPass, setRun] using hj
  · simp [setRun, (h.activeFree ha).1] at k

/-- The insulation entry from an active run, no halt and no pass in progress, keeps the run sound (R81, R113). -/
theorem insulationEntry_sound {s : State} (h : RunSound s) (ha : runActive s = true) (hh : s.run.halt = false)
    (hj : noPass s) (fromPrepare inProgress : Bool) : RunSound (insulationEntry fromPrepare inProgress s) := by
  have h1 : RunSound (setRun { s.run with state := .insulate, sweepStage := .none } s) :=
    h.ofActive ha rfl ⟨rfl, rfl, rfl⟩ (fun k => absurd rfl k) (fun _ => rfl) hh hj
  have hb : ∀ u, RunSound u → u.run.state = .insulate → RunSound (bidNet (setInsStage .bidding (markStep inProgress u))) :=
    fun u hu hs => (setInsStage_sound (hu.congr (markStep_run _ _)) hs .bidding).congr (bidNet_run _)
  unfold insulationEntry
  simp only
  split
  · exact enterComplete_sound h1 rfl hh hj
  · split
    · exact enterComplete_sound (h1.congr (.ofFrame (by simp))) (by simp [runActive, setRun])
        (by simpa [setRun] using hh) (by simpa [noPass, setRun] using hj)
    · split
      · exact hb _ (h1.congr (.ofFrame (by simp))) (by simp [setRun])
      · exact hb _ h1 rfl

/-- The sweep entry from PREPARE keeps the run sound (R90). -/
theorem sweepEntry_sound {s : State} (h : RunSound s) (hs : s.run.state = .prepare) (inProgress : Bool) :
    RunSound (sweepEntry inProgress s) := by
  have ha : runActive s = true := by simp [runActive, hs]
  have hn := h.sweepStageNone (by rw [hs]; decide)
  have hi := h.insStageNone (by rw [hs]; decide)
  have h1 : RunSound (markStep inProgress (setRun { s.run with state := .sweep } s)) :=
    h.ofActive ha rfl ⟨rfl, rfl, rfl⟩ (fun _ => rfl) (fun k => absurd hi k) (h.haltClear (by rw [hn]; decide))
      (h.passNone (by rw [hn]; decide))
  have h2 := setSweepStage_sound h1 rfl (h.haltClear (by rw [hn]; decide)) (h.passNone (by rw [hn]; decide)) .bidding
  exact h2.congr (bidDrive_run _)

/-- The end of the sweep keeps the run sound (R107, R108). -/
theorem sweepEnd_sound {s : State} (h : RunSound s) (hs : s.run.state = .sweep) (hg : s.run.sweepStage = .bidding) :
    RunSound (sweepEnd s) := by
  have h1 : RunSound (assertHold (setSweepStage .ending (withdraw 2 s))) :=
    (leaveStage_sound (h.congr (.ofFrame (by simp))) (by simpa using hs) (by simp [hg]) (by simp [hg]) .ending).congr
      (assertHold_run _)
  unfold sweepEnd
  simp only
  refine reportAll_sound ?_
  split
  · exact h1.congr (.ofFrame (by simp))
  · exact h1.congr (.ofFrame (by simp))

/-- The outcome of a bid window that opens no step keeps the run sound (R92, R115). -/
theorem phaseEnd_sound {s : State} (h : RunSound s) : RunSound (phaseEnd s) := by
  unfold phaseEnd
  split
  · rename_i hs; exact sweepEnd_sound h hs.1 hs.2
  · split
    · rename_i hs
      have hn := h.sweepStageNone (by rw [hs.1]; decide)
      exact enterComplete_sound (h.congr (.ofFrame (by simp))) (by simp [runActive, hs.1])
        (by simpa using h.haltClear (by rw [hn]; decide)) (by simpa [noPass] using h.passNone (by rw [hn]; decide))
    · exact h

/-- The outcome "first frame" keeps the run sound (R92, R115). -/
theorem firstFrame_sound {s : State} (h : RunSound s) (k : Nat) : RunSound (firstFrame k s) := by
  unfold firstFrame
  split
  · exact h
  · exact phaseEnd_sound h

/-! ## Run ends -/

/-- A batch whose report no stage awaits leaves the run alone. -/
theorem floatAll_unawaited_run (why : Purpose) {s : State} (h : awaitsNone s) : sameRun s (floatAll why s) := by
  refine .ofFrame ?_
  rw [floatAll, batch_unawaited _ _ h]
  simp

/-- After a run end the job is none (R62, R65). -/
theorem abandonJob_noPass (s : State) : noPass (abandonJob s) := by
  intro n d
  rw [abandonJob_sampler]
  split <;> simp

/-- A run end leaves the run sound, whatever it was, at a station out of HELD (R83). -/
theorem runEnd_sound {s : State} (hh : s.bus.held = false) (cause : Cause) (loc : Where) : RunSound (runEnd cause loc s) := by
  have h1 : ∀ v : State, awaitsNone v → v.run.state = .ended → v.run.halt = false → noPass v →
      v.run.timer.mode = .stopped → v.bus.held = false →
      RunSound (stopSummary (raise .runEnded (floatAll .runEnd v))) := fun v hv hs hh hj ht hd => by
    obtain ⟨e1, e2, e3, e4, e5, -, e7, -, e9⟩ := floatAll_unawaited_run .runEnd hv
    have ha : runActive v = false := by simp [runActive, hs]
    refine .ofInactive ?_ ⟨?_, ?_⟩ ?_ ?_ ?_ (stopSummary_summary _) fun k => ?_
    · exact (runActive_congr (by simp)).trans ha
    · simpa using e2.trans hv.1
    · simpa using e3.trans hv.2.1
    · simpa using e9 ha ht
    · simpa using hh
    · intro n d; simpa [e5] using hj n d
    · simp [hd] at k
  have h2 : ∀ u : State, noPass u → u.run.timer.mode = .stopped → u.bus.held = false →
      noPass (if inInterval u then enterFollowing u else u) ∧
      (if inInterval u then enterFollowing u else u).run.timer.mode = .stopped ∧
      (if inInterval u then enterFollowing u else u).bus.held = false := fun u hj ht hd => by
    split
    · exact ⟨by simpa [noPass] using hj, by simpa using ht, by simpa using hd⟩
    · exact ⟨hj, ht, hd⟩
  obtain ⟨k1, k2, k3⟩ := h2 (abandonJob (timerStop (setWindow .off (withdrawClassOne (offer (.runEnd cause loc) s)))))
    (abandonJob_noPass _) (by simp [timerStop]) (by simpa using hh)
  exact h1 (releaseHold (setRun _ _)) ⟨rfl, rfl, by simp [setRun]⟩ rfl rfl k1 k2 k3

/-- The end of an active run keeps the run sound (R33, R85, R86). -/
theorem endActiveRun_sound {s : State} (h : RunSound s) (cause : Cause) : RunSound (endActiveRun cause s) := by
  unfold endActiveRun
  split
  · rename_i ha; exact runEnd_sound (h.activeFree ha).1 _ _
  · exact h

/-- ESTOP's work keeps the run sound (R33). -/
theorem estopWork_sound {s : State} (h : RunSound s) : RunSound (estopWork s) := by
  rw [estopWork_eq]
  exact endActiveRun_sound (h.congr (.ofFrame (by simp))) _

/-- Entry to SILENT keeps the run sound, out of HELD (R50): an active run ends with it. -/
theorem enterSilent_sound {s : State} (h : RunSound s) (hh : s.bus.held = false) : RunSound (enterSilent s) := by
  have key : ∀ u : State, u.run = s.run → u.sampler = s.sampler → u.decoder.summary = s.decoder.summary →
      u.bus.held = s.bus.held →
      RunSound (if runActive u then runEnd .busFault (.station (addr u)) u else u) := fun u h1 h2 h3 h4 => by
    split
    · exact runEnd_sound (h4.trans hh) _ _
    · rename_i ha
      have ha : runActive u = false := by simpa using ha
      have hs : runActive s = false := (runActive_congr (by rw [h1])).symm.trans ha
      obtain ⟨g1, g2, -⟩ := h.stagesNone hs
      refine .ofInactive ha ⟨h1 ▸ g1, h1 ▸ g2⟩ (h1 ▸ h.timer hs) (h1 ▸ h.haltClear (by rw [g1]; decide)) ?_ ?_ ?_
      · intro n d; rw [h2]; exact h.passNone (by rw [g1]; decide) n d
      · rw [h3]; simpa [hs] using h.summary
      · rw [h4, hh]; exact fun k => by cases k
  exact key (dropReturn (enterFollowing (forcedFloat (releaseHold (setSlot [] { s with
    bus := { s.bus with silent := true, errors := Config.silentAt }, decoder := { s.decoder with ctx := none } })))))
    (by simp) (by simp) (by simp) (by simp)

/-! ## Barriers -/

/-- The end of PREPARE keeps the run sound (R79, R80). -/
theorem prepareEnd_sound {s : State} (h : RunSound s) (hs : s.run.state = .prepare) (inProgress : Bool) :
    RunSound (prepareEnd inProgress s) := by
  have h1 : sameRun s (if s.straps.hvsrc && s.run.elected == some (addr s) then setHv { s.hv with elected := true } s
      else s) := .ofFrame (by split <;> simp)
  have h2 : ∀ u, RunSound u → u.run.state = .prepare →
      RunSound (if u.run.sweepOn then sweepEntry inProgress u else insulationEntry true inProgress u) := fun u hu hp => by
    have hn := hu.sweepStageNone (by rw [hp]; decide)
    split
    · exact sweepEntry_sound hu hp _
    · exact insulationEntry_sound hu (by simp [runActive, hp]) (hu.haltClear (by rw [hn]; decide))
        (hu.passNone (by rw [hn]; decide)) _ _
  exact h2 _ (h.congr h1) (h1.1.trans hs)

/-- The end of the drive barrier keeps the run sound (R101). -/
theorem driveBarrierEnd_sound {s : State} (h : RunSound s) (hg : s.run.sweepStage = .driveReleased) :
    RunSound (driveBarrierEnd s) := by
  have h1 : RunSound (setSweepStage .awaitingRef s) :=
    leaveStage_sound h (h.sweep (by rw [hg]; decide)) (by rw [hg]; decide) (by rw [hg]; decide) _
  have h2 : ∀ gp u, RunSound u → RunSound (batch .toSense [(localOf gp, .sense)]
      (updatePoint (localOf gp) (fun p => { p with driven := true, leader := some gp }) u)) := fun gp u hu =>
    batch_sound (s := updatePoint (localOf gp) _ u) (hu.congr (.ofFrame ⟨rfl, rfl, rfl, rfl, rfl⟩)) _ _
  unfold driveBarrierEnd
  simp only
  split
  · exact h1
  · split
    · exact (h2 _ _ h1).congr (queue_run _ _ _)
    · exact h2 _ _ h1

/-- The completion of a sweep step keeps the run sound (R104). -/
theorem stepCompletion_sound {s : State} (h : RunSound s) (hg : s.run.sweepStage = .stepReleased) (inProgress : Bool) :
    RunSound (stepCompletion inProgress s) := by
  have h1 : RunSound (markStep inProgress (timerStop s)) := (h.congr (timerStop_run s)).congr (markStep_run _ _)
  exact (leaveStage_sound h1 (h.sweep (by rw [hg]; decide)) (by simp [markStep, hg]) (by simp [markStep, hg]) .bidding).congr
    (bidDrive_run _)

/-- The bid after an insulation step keeps the run sound (R132, R133). -/
theorem insStepDone_sound {s : State} (h : RunSound s) (hs : s.run.state = .insulate) (inProgress : Bool) :
    RunSound (bidNet (setInsStage .bidding (markStep inProgress (timerStop s)))) := by
  have h1 : RunSound (markStep inProgress (timerStop s)) := (h.congr (timerStop_run s)).congr (markStep_run _ _)
  exact (setInsStage_sound h1 hs .bidding).congr (bidNet_run _)

/-- The end of the switching barrier keeps the run sound (R118). -/
theorem hvIntervalStart_sound {s : State} (h : RunSound s) (hs : s.run.state = .insulate) : RunSound (hvIntervalStart s) := by
  unfold hvIntervalStart
  split
  · have h1 : RunSound (startEngine (setInsStage .hvInterval s)) :=
      (setInsStage_sound h hs .hvInterval).congr (.ofFrame (by simp [startEngine]))
    exact (h1.congr (assertHold_run _)).congr (assertLive_run _)
  · exact setInsStage_sound h hs _

/-- What HOLD seen released completes keeps the run sound (R77, R80, R81, R101, R104, R118, R132, R133). -/
theorem barrierEnd_sound {s : State} (h : RunSound s) (inProgress : Bool) : RunSound (barrierEnd inProgress s) := by
  have hstop := h.congr (timerStop_run s)
  unfold barrierEnd
  split
  · rename_i hs; exact prepareEnd_sound hstop hs _
  · rename_i hs
    have ha : runActive s = true := by simp [runActive, hs]
    split
    · rename_i hg; exact driveBarrierEnd_sound (h.congr (timerRestart_run _ ha)) hg
    · rename_i hg; exact stepCompletion_sound h hg _
    · rename_i hg
      exact insulationEntry_sound hstop ((runActive_congr rfl).trans ha) (h.haltClear (by rw [hg]; decide))
        (h.passNone (by rw [hg]; decide)) _ _
    · exact hstop
  · rename_i hs
    have ha : runActive s = true := by simp [runActive, hs]
    split
    · exact hvIntervalStart_sound (h.congr (timerRestart_run _ ha)) hs
    · exact insStepDone_sound (floatAll_sound h _) (by simpa using hs) _
    · exact insStepDone_sound h hs _
    · exact hstop
  · exact h

/-! ## Run frames -/

/-- The opening of a sweep step keeps the run sound (R93, R94). -/
theorem openSweepStep_sound {s : State} (h : RunSound s) (hg : s.run.sweepStage = .bidding) (src gp net : Nat) :
    RunSound (openSweepStep src gp net s) := by
  have h1 : RunSound (assertHold (withdraw 2 (setRun { s.run with
      step := .point gp src, driveNet := net, settleWait := some (Config.breakMs + s.params.s), driveDone := false } s))) :=
    (h.congr (.trans (u := setRun { s.run with
      step := .point gp src, driveNet := net, settleWait := some (Config.breakMs + s.params.s), driveDone := false } s)
      ⟨rfl, rfl, rfl, rfl, rfl, rfl, rfl, rfl, fun _ => id⟩ (.ofFrame (by simp)))).congr (assertHold_run _)
  have h2 := leaveStage_sound h1 (by simpa [setRun] using h.sweep (by rw [hg]; decide)) (by simp [setRun, hg])
    (by simp [setRun, hg]) .settling
  unfold openSweepStep
  simp only
  split
  · exact batch_sound h2 _ _
  · exact h2

/-- The step's REF keeps the run sound (R102, R103). -/
theorem takeRef_sound {s : State} (h : RunSound s) (hg : s.run.sweepStage = .awaitingRef) (gp code : Nat) (weak : Bool) :
    RunSound (takeRef gp code weak s) := by
  have hs := h.sweep (by rw [hg]; decide)
  have h1 : RunSound (assertHold (timerStop (setSweepStage .classifying s))) :=
    ((leaveStage_sound h hs (by rw [hg]; decide) (by rw [hg]; decide) .classifying).congr (timerStop_run _)).congr
      (assertHold_run _)
  have h2 : ∀ u, sameRun u (if weak then (if drivenHere u = some gp then offer (.driveFault gp code) u else u)
      else classifyStep { gp := gp, net := u.run.driveNet } code (updateNet u.run.driveNet (leadNet gp) u)) := fun u => by
    split
    · split
      · exact .ofFrame (by simp)
      · exact .refl u
    · exact .trans (.ofFrame ⟨rfl, rfl, rfl, rfl, rfl⟩) (classifyStep_run _ _ _)
  have h3 : ∀ u, RunSound u → u.run.sweepStage = .classifying → RunSound (setSweepStage .stepReleased (releaseHold u)) :=
    fun u hu k => leaveStage_sound (hu.congr (releaseHold_run u)) (hu.sweep (by rw [k]; decide)) (by simp [k])
      (by simp [k]) _
  exact h3 _ (h1.congr (h2 _)) ((h2 _).2.1.trans (by simp [setSweepStage, setRun]))

/-- The opening of an insulation step keeps the run sound (R116, R117). -/
theorem openInsStep_sound {s : State} (h : RunSound s) (hs : s.run.state = .insulate) (n : Nat) (vetoed : Bool) :
    RunSound (openInsStep n vetoed s) := by
  have h1 : RunSound (withdraw 4 (setRun { s.run with step := .net n } s)) :=
    h.congr (.trans (u := setRun { s.run with step := .net n } s) ⟨rfl, rfl, rfl, rfl, rfl, rfl, rfl, rfl, fun _ => id⟩
      (.ofFrame (by simp)))
  unfold openInsStep
  simp only
  split
  · exact h1.congr (.ofFrame (by simp [markStep, updateNet]))
  · exact batch_sound (setInsStage_sound (h1.congr (assertHold_run _)) (by simpa [setRun] using hs) _) _ _

/-- The step's RESULT keeps the run sound, in an active run (R132, R87). -/
theorem takeResult_sound {s : State} (h : RunSound s) (hs : s.run.state = .insulate) (n : Nat) (verdict : Byte) :
    RunSound (takeResult n verdict s) := by
  have h1 : RunSound (updateNet n testNet s) := h.congr (.ofFrame ⟨rfl, rfl, rfl, rfl, rfl⟩)
  have ha : runActive s = true := by simp [runActive, hs]
  unfold takeResult
  simp only
  split
  · exact runEnd_sound (s := updateNet n testNet s) (h.activeFree ha).1 _ _
  · exact floatAll_sound (setInsStage_sound (h1.congr (assertHold_run _)) ((assertHold_run _).1.trans hs) _) _

/-- The record of a measured verdict leaves the run alone (R131). -/
theorem recordVerdict_run (n : Nat) (s : State) : sameRun s (recordVerdict n s) := by
  refine .ofFrame ?_
  unfold recordVerdict
  split
  · simp
  · split <;> simp

/-- The source's own RESULT keeps the run sound, in an active run (R131). -/
theorem takeOwnResult_sound {s : State} (h : RunSound s) (hs : s.run.state = .insulate) (n : Nat) (verdict : Byte) :
    RunSound (takeOwnResult n verdict s) := by
  have hq : sameRun (recordVerdict n s) (if verdict.toNat = verdictCode .dischargeFault then recordVerdict n s
      else quietEngine (recordVerdict n s)) := .ofFrame (by split <;> simp [quietEngine])
  have hk := (recordVerdict_run n s).trans hq
  exact takeResult_sound (h.congr hk) (hk.1.trans hs) n verdict

/-- HALTED leaves what the laws read alone: a suspended timer is not stopped, and a stopped one stays so (R77). -/
theorem timerHalt_run (s : State) : sameRun s (timerHalt s) := by
  unfold timerHalt
  split
  · exact .refl s
  · rename_i ht
    exact ⟨rfl, rfl, rfl, rfl, rfl, rfl, rfl, rfl, fun _ k => absurd k ht⟩

/-- The halt flag set in the halted stage keeps the run sound (R99). -/
theorem setHalt_sound {s : State} (h : RunSound s) (hg : s.run.sweepStage = .halted) :
    RunSound (setRun { s.run with halt := true } s) :=
  ⟨h.sweep, h.ins, h.timer, fun _ => hg, h.job, h.summary, h.held, h.silent⟩

/-! ## Requests -/

/-- An accepted CONTINUE keeps the run sound (R100). -/
theorem resumeHalt_sound {s : State} (h : RunSound s) (hh : s.run.halt = true) : RunSound (resumeHalt s) := by
  have hg := h.halt hh
  have h1 : RunSound (releaseHold (setRun { s.run with halt := false } s)) :=
    ⟨h.sweep, h.ins, h.timer, fun k => Bool.noConfusion k, h.job, h.summary, h.held, h.silent⟩
  exact setSweepStage_sound h1 (h.sweep (by rw [hg]; decide)) rfl (h.passNone (by rw [hg]; decide)) _

/-- The acceptance of START RUN makes a sound run in PREPARE (R76): none was active, and the station is out of HELD. -/
theorem acceptRun_sound {s : State} (h : RunSound s) (ha : runActive s = false) (hh : s.bus.held = false) (number : Nat) :
    RunSound (acceptRun number s) := by
  have hj : noPass s := h.passNone (by rw [(h.stagesNone ha).1]; decide)
  have h1 : (if s.print.pass then endPass .cut s else s).sampler = s.sampler ∧
      (if s.print.pass then endPass .cut s else s).bus.held = s.bus.held := by
    split <;> simp [endPass, setPrint]
  have h2 : ∀ u : State, (endDump (setDefects Defects.empty { u with
      bus := { u.bus with silent := false, errors := 0 }, matrix := { u.matrix with override := .none } })).sampler = u.sampler ∧
      (endDump (setDefects Defects.empty { u with
      bus := { u.bus with silent := false, errors := 0 }, matrix := { u.matrix with override := .none } })).bus.held
        = u.bus.held ∧
      (endDump (setDefects Defects.empty { u with
      bus := { u.bus with silent := false, errors := 0 }, matrix := { u.matrix with override := .none } })).bus.silent
        = false := fun u => by
    unfold endDump
    split
    · split <;> simp [cancelContext, queueEnd, setContext, setDefects]
    · simp [setDefects]
  have h3 : ∀ (u : State) (r : Run), r.state = .prepare → r.sweepStage = .none → r.insStage = .none → r.halt = false →
      noPass u → u.bus.held = false → u.bus.silent = false →
      RunSound (assertHold (timerRestart .running { setHv { u.hv with elected := false } (setRun r u) with
        decoder := { (setHv { u.hv with elected := false } (setRun r u)).decoder with summary := some 0 } })) :=
    fun u r r1 r2 r3 r4 uj uh us => by
      refine RunSound.congr ?_ (assertHold_run _)
      have ha : runActive (timerRestart .running { setHv { u.hv with elected := false } (setRun r u) with
          decoder := { (setHv { u.hv with elected := false } (setRun r u)).decoder with summary := some 0 } }) = true := by
        simp [runActive, setRun, r1]
      exact ⟨fun k => absurd r2 k, fun k => absurd r3 k, fun k => absurd (ha.symm.trans k) Bool.noConfusion,
        fun k => absurd (r4.symm.trans k) Bool.noConfusion, fun n d k => absurd k (uj n d), ha.symm,
        fun k => absurd (uh.symm.trans k) Bool.noConfusion, fun k => absurd (us.symm.trans k) Bool.noConfusion⟩
  obtain ⟨k1, k2, k3⟩ := h2 (if s.print.pass then endPass .cut s else s)
  exact h3 _ _ rfl rfl rfl rfl (fun n d => by rw [k1, h1.1]; exact hj n d) (k2.trans (h1.2.trans hh)) k3

/-- The PREPARE work keeps the run sound (R78). -/
theorem prepareWork_sound {s : State} (h : RunSound s) (ids : IdCodes) : RunSound (prepareWork ids s) := by
  have h1 : sameRun s (detect ids (setNetMap [] (emptyBuffer (mapPoints (fun _ p => clearRunFields p) s)))) := by
    refine ⟨?_, ?_, ?_, ?_, ?_, ?_, ?_, ?_, fun _ k => ?_⟩ <;> simp [emptyBuffer, setNetMap, mapPoints]
    exact k
  have h2 : ∀ u, RunSound u → RunSound (setNetMap (builtNetMap u) u) := fun u hu =>
    hu.congr (.ofFrame ⟨rfl, rfl, rfl, rfl, rfl⟩)
  exact setSampler_sound (h2 _ (h.congr h1)) fun _ _ k => by cases k

/-- A reset leaves the run as at power-up, and so sound (R183). -/
theorem resetStation_sound (full : Bool) (ids : IdCodes) (s : State) : RunSound (resetStation full ids s) := by
  refine .ofInactive (resetStation_inactive full ids s) ?_ ?_ ?_ ?_ ?_ fun _ => ?_ <;>
    (unfold resetStation; cases full <;> simp [noPass, resetFullState, resetRunState, Run.powerUp, Sampler.powerUp])

/-- The release from HELD leaves a sound run (R58). -/
theorem release_sound (full : Bool) (ids : IdCodes) (s : State) : RunSound (release full ids s) := by
  have h1 := resetStation_sound full ids { s with bus := { s.bus with held := false, resetCount := 0 } }
  have h2 : ∀ u, RunSound u → RunSound (if full then u else detect ids u) := fun u hu => by
    split
    · exact hu
    · exact hu.congr (.ofFrame (by simp))
  have h3 : ∀ u, RunSound u → RunSound (if u.lines.estop then estopWork u else u) := fun u hu => by
    split
    · exact estopWork_sound hu
    · exact hu
  exact h3 _ (h2 _ h1)

/-- A clean frame taken in HELD keeps the run sound (R58). -/
theorem heldTakes_sound {s : State} (h : RunSound s) (f : Frame) (ids : IdCodes) : RunSound (heldTakes f ids s) := by
  unfold heldTakes
  split
  · exact h
  · split
    · split
      · exact h.congr (.ofFrame ⟨rfl, rfl, rfl, rfl, rfl⟩)
      · exact release_sound _ ids s
    · exact h.congr (.ofFrame ⟨rfl, rfl, rfl, rfl, rfl⟩)

/-! ## Frame ends -/

/-- A frame end keeps the run sound where the effect of the frame does, at a station out of HELD. -/
theorem frameEnd_sound (f : Frame) {act : Bool → State → State} {s : State} (h : RunSound s)
    (ha : ∀ own u, u.bus.held = false → RunSound u → RunSound (act own u)) : RunSound (frameEnd f act s) := by
  rcases frameEnd_cases f act s with e | ⟨-, e⟩ | ⟨hh, t, ht, e⟩
  · rw [e]; exact h
  · rw [e]; exact h.congr (.ofFrame ⟨rfl, rfl, rfl, rfl, rfl⟩)
  · have hu : RunSound { s with bus := frameSeen f s } := h.congr (.ofFrame (by simp))
    have hk : RunSound t := ht ▸ ha _ _ (by simpa using hh) hu
    rcases e with e | e <;> rw [e]
    · exact hk
    · exact firstFrame_sound hk _

/-- A run-protocol frame, likewise. -/
theorem runFrame_sound (r : Route) (p : Payload) {act : Bool → State → State} {s : State} (h : RunSound s)
    (ha : ∀ own u, RunSound u → RunSound (act own u)) : RunSound (runFrame r p act s) :=
  frameEnd_sound _ h fun own u _ hu => by split <;> [exact ha own u hu; exact hu]

/-- A request, likewise. -/
theorem request_sound (hd : Header) (code : Nat) {act : Form → State → State} {s : State} (h : RunSound s)
    (ha : ∀ form u, u.bus.held = false → RunSound u → RunSound (act form u)) : RunSound (request hd code act s) :=
  frameEnd_sound _ h fun _ u hh hu => ha _ u hh hu

end Sys2Proof.Machine
end

section
/-! The laws of the switch matrix and of the run over every step (O55). -/

namespace Sys2Proof.Machine

/-! ## The run -/

/-- A refusal leaves the run alone. -/
theorem refuse_run (h : Header) (code : Nat) (why : RefusalCode) (sel : Nat) (s : State) :
    sameRun s (refuse h code why sel s) := .ofFrame (by simp)

/-- An answer leaves the run alone. -/
theorem reply_run (h : Header) (code : Nat) (d : List Byte) (s : State) : sameRun s (reply h code d s) := .ofFrame (by simp)

/-- An event leaves the run alone. -/
theorem raise_run (e : Event) (s : State) : sameRun s (raise e s) := .ofFrame (by simp)

/-- A change of the Insulation Engine leaves the run alone. -/
theorem setHv_run (x : Hv) (s : State) : sameRun s (setHv x s) := .ofFrame (by simp)

/-- The end of a print pass leaves the run alone. -/
theorem endPass_run (how : PassEnd) (s : State) : sameRun s (endPass how s) := .ofFrame (by simp [endPass, setPrint])

/-- The LINE bid leaves the run alone. -/
theorem rebid_run (s : State) : sameRun s (rebid s) := by
  refine .ofFrame ?_
  unfold rebid
  split <;> simp

/-- A change of the Print Engine leaves the run alone. -/
theorem setPrint_run (p : Printer) (s : State) : sameRun s (setPrint p s) := .ofFrame ⟨rfl, rfl, rfl, rfl, rfl⟩

/-- A clean LINE leaves the run alone (R158). -/
theorem takeLine_run (src : Addr) (key : Value) (s : State) : sameRun s (takeLine src key s) := by
  have h1 : sameRun s (markLine src key (setPrint { s.print with credit := s.print.credit - 1 } s)) :=
    .ofFrame ⟨rfl, rfl, rfl, rfl, rfl⟩
  unfold takeLine
  simp only
  split
  · exact h1
  · split
    · exact h1.trans ((setPrint_run _ _).trans ((endPass_run _ _).trans (raise_run _ _)))
    · exact h1.trans ((setPrint_run _ _).trans (rebid_run _))

/-- A clean CREDIT leaves the run alone (R151). -/
theorem takeCredit_run (count : Nat) (s : State) : sameRun s (takeCredit count s) := by
  have h1 : sameRun s (setPrint { s.print with credit := count } s) := setPrint_run _ s
  unfold takeCredit
  simp only
  split
  · exact h1.trans ((setPrint_run _ _).trans (rebid_run _))
  · exact h1

/-- A leakage sample leaves the run alone where what its stage makes of it does (R124). -/
theorem takeSample_run (x : HvSettings) (sample : Nat) (monitor : Code12) {rest : State → State}
    (hr : ∀ u, sameRun u (rest u)) (s : State) : sameRun s (takeSample x sample monitor rest s) := by
  unfold takeSample
  simp only
  split
  · exact .ofFrame (by simp [breakdown, dropWith])
  · exact (setHv_run _ s).trans (hr _)

/-- A check reading leaves the run alone (R125). -/
theorem checkMonitor_run (x : HvSettings) (monitor : Code12) (s : State) : sameRun s (checkMonitor x monitor s) := by
  unfold checkMonitor
  simp only
  split <;> exact setHv_run _ s

/-- A RESULT queued leaves the run alone (R128). -/
theorem queueResult_run (v : Option Verdict) (s : State) : sameRun s (queueResult v s) := by
  unfold queueResult
  split
  · exact queue_run _ _ s
  · exact .refl s

/-- The records moved and the batches cut down to the points in transit leave the run alone. -/
theorem dropReached_run (f : Nat → Point → Point) (s : State) : sameRun s (dropReached (mapPoints f s)) :=
  .ofFrame ⟨rfl, rfl, rfl, rfl, rfl⟩

/-- The admission check keeps the run sound (R6). -/
theorem admissionCheck_sound {s : State} (h : RunSound s) : RunSound (admissionCheck s) := batch_sound h _ _

/-- Other records leave the run alone. -/
theorem mapPoints_run (f : Nat → Point → Point) (s : State) : sameRun s (mapPoints f s) :=
  .ofFrame ⟨rfl, rfl, rfl, rfl, rfl⟩

/-- A RESET frame keeps the run sound (R58, R183). -/
theorem resetFrame_sound {s : State} (h : RunSound s) (full : Bool) (hd : Header) (ids : IdCodes) :
    RunSound (resetFrame full hd ids s) := by
  unfold resetFrame
  split
  · exact heldTakes_sound h _ _
  · refine request_sound _ _ h fun form u _ hu => ?_
    cases form
    · exact hu
    · exact hu.congr (refuse_run _ _ _ _ _)
    · exact resetStation_sound _ _ u

/-- SET BLOCKS keeps the run sound (R15). -/
theorem setBlocks_sound {s : State} (h : RunSound s) (hd : Header) (kinds : Vector Byte 8) (allowed : Byte) :
    RunSound (setBlocks hd kinds allowed s) := by
  have hb : ∀ manual a, sameRun s (storeBlocks manual a s) := fun manual a => by
    unfold storeBlocks
    simp only
    split <;> exact .ofFrame ⟨rfl, rfl, rfl, rfl, rfl⟩
  unfold setBlocks
  split
  · exact h.congr (refuse_run _ _ _ _ s)
  split
  · exact h.congr (refuse_run _ _ _ _ s)
  split
  · have h1 := fun manual a d => (h.congr (hb manual a)).congr (reply_run hd 4 d (storeBlocks manual a s))
    simp only
    split
    · exact h1 _ _ _
    · exact admissionCheck_sound (h1 _ _ _)
  · exact h.congr (refuse_run _ _ _ _ s)

/-- ASSIGN NET keeps the run sound (R7). -/
theorem assignNet_sound {s : State} (h : RunSound s) (hd : Header) (gp net : Nat) (role : Byte) :
    RunSound (assignNet hd gp net role s) := by
  have hr : ∀ why sel, RunSound (refuse hd 1 why sel s) := fun _ _ => h.congr (refuse_run _ _ _ _ s)
  have hu : ∀ i f, RunSound (updatePoint i f s) := fun _ _ => h.congr (.ofFrame ⟨rfl, rfl, rfl, rfl, rfl⟩)
  unfold assignNet
  split
  · exact hr _ _
  split
  · exact hr _ _
  split
  · exact hr _ _
  split
  · exact hr _ _
  · exact admissionCheck_sound ((hu _ _).congr (reply_run _ _ _ _))

/-- SET SWITCH keeps the run sound (R39). -/
theorem setSwitch_sound {s : State} (h : RunSound s) (hd : Header) (gp : Nat) (target : Byte) :
    RunSound (setSwitch hd gp target s) := by
  have hr : ∀ why sel, RunSound (refuse hd 11 why sel s) := fun _ _ => h.congr (refuse_run _ _ _ _ s)
  unfold setSwitch
  simp only
  split
  · exact hr _ _
  split
  · exact hr _ _
  split
  · exact hr _ _
  split
  · exact hr _ _
  split
  · exact hr _ _
  split
  · exact hr _ _
  split
  · exact hr _ _
  · exact batch_sound (h.congr (reply_run _ _ _ _)) _ _

/-! ### Command by command -/

/-- Every request keeps the run sound. -/
theorem exec_request_sound {c : Instr} {s t : State} (hc : (requestOf c).isSome = true) (h : RunSound s)
    (hx : exec c s = .next t) : RunSound t := by
  cases c <;> cases hc <;> cases hx
  case assignNet =>
    refine request_sound _ _ h fun form u _ hu => ?_
    split
    · exact assignNet_sound hu _ _ _ _
    · exact hu
  case assignRange =>
    refine request_sound _ _ h fun form u _ hu => ?_
    cases form
    · exact hu
    · exact hu.congr (refuse_run _ _ _ _ _)
    · simp only
      split
      · exact hu
      · split
        · unfold assignRange
          split
          · exact admissionCheck_sound (hu.congr (mapPoints_run _ u))
          · exact hu
        · exact hu
  case clearTable =>
    refine request_sound _ _ h fun form u _ hu => ?_
    cases form
    · exact hu
    · simp only
      split
      · exact hu.congr (refuse_run _ _ _ _ _)
      · exact hu.congr (.trans (mapPoints_run _ u) (reply_run _ _ _ _))
    · simp only
      split
      · exact hu
      · exact hu.congr (mapPoints_run _ u)
  case setBlocks =>
    refine request_sound _ _ h fun form u _ hu => ?_
    split
    · exact setBlocks_sound hu _ _ _
    · exact hu
  case runParameters hd a =>
    refine request_sound _ _ h fun form u _ hu => ?_
    have h1 : RunSound { u with params := storedParams a } := hu.congr (.ofFrame ⟨rfl, rfl, rfl, rfl, rfl⟩)
    cases form
    · exact hu
    · exact h1.congr (reply_run _ _ _ _)
    · exact h1
  case profileSegment =>
    refine request_sound _ _ h fun form u _ hu => ?_
    cases form
    · exact hu
    · exact hu.congr (refuse_run _ _ _ _ _)
    · simp only
      split
      · exact hu.congr (setHv_run _ u)
      · exact hu
  case profileLength =>
    refine request_sound _ _ h fun form u _ hu => ?_
    cases form
    · exact hu
    · exact hu.congr (refuse_run _ _ _ _ _)
    · simp only
      split
      · exact hu.congr (setHv_run _ u)
      · exact hu
  case startRun hd number ids =>
    refine request_sound _ _ h fun form u hh hu => ?_
    have ha : startRefusal number.toNat u = none → runActive u = false := fun k => by
      unfold startRefusal at k
      split at k
      · cases k
      · simpa using ‹¬runActive u = true›
    split
    · exact hu
    · exact hu.congr (raise_run _ u)
    · rename_i hn; exact prepareWork_sound (acceptRun_sound hu (ha hn) hh _) _
    · exact hu.congr ((raise_run _ u).trans (refuse_run _ _ _ _ _))
    · rename_i hn
      have h1 := reply_run hd 8 (halfBytes number) u
      exact prepareWork_sound (acceptRun_sound (hu.congr h1) ((runActive_congr h1.1).trans (ha hn)) (by simpa using hh) _) _
  case continueRun =>
    refine request_sound _ _ h fun form u _ hu => ?_
    split
    · rename_i hh; exact (resumeHalt_sound hu hh).congr (reply_run _ _ _ _)
    · exact hu.congr (refuse_run _ _ _ _ _)
    · rename_i hh; exact resumeHalt_sound hu hh
    · exact hu
  case setWatch =>
    refine request_sound _ _ h fun form u _ hu => ?_
    cases form
    · exact hu
    · exact hu.congr (refuse_run _ _ _ _ _)
    · exact hu.congr ⟨rfl, rfl, rfl, rfl, rfl, rfl, rfl, rfl, fun _ => id⟩
  case setSwitch =>
    refine request_sound _ _ h fun form u _ hu => ?_
    split
    · exact setSwitch_sound hu _ _ _
    · exact hu
  case matrixOverrideFloat =>
    refine request_sound _ _ h fun form u _ hu => ?_
    cases form
    · exact hu
    · exact hu.congr (refuse_run _ _ _ _ _)
    · exact endActiveRun_sound (s := setOverride .float (forcedFloat u)) (hu.congr (.ofFrame ⟨rfl, rfl, rfl, rfl, rfl⟩)) _
  case matrixOverrideReturn =>
    refine request_sound _ _ h fun form u _ hu => ?_
    cases form
    · exact hu
    · exact hu.congr (refuse_run _ _ _ _ _)
    · simp only [overrideReturn]
      split
      · exact hu.congr (raise_run _ _)
      · split
        · exact hu
        · exact batch_sound (s := setOverride .ret u) (hu.congr (.ofFrame ⟨rfl, rfl, rfl, rfl, rfl⟩)) _ _
  case matrixOverrideOff =>
    refine request_sound _ _ h fun form u _ hu => ?_
    have h1 : RunSound (setOverride .none u) := hu.congr (.ofFrame ⟨rfl, rfl, rfl, rfl, rfl⟩)
    cases form
    · exact hu
    · exact hu.congr (refuse_run _ _ _ _ _)
    · simp only [overrideOff]
      split
      · exact hu
      · exact h1
      · exact floatAll_sound h1 _
  case print =>
    refine request_sound _ _ h fun form u _ hu => ?_
    cases form
    · exact hu
    · exact hu.congr ((raise_run _ u).trans (refuse_run _ _ _ _ _))
    · simp only
      split
      · exact hu.congr (.trans (.ofFrame ⟨rfl, rfl, rfl, rfl, rfl⟩) (rebid_run (startPass u)))
      · exact hu.congr (raise_run _ _)
  case stopPrint =>
    refine request_sound _ _ h fun form u _ hu => ?_
    cases form
    · exact hu
    · exact hu.congr (refuse_run _ _ _ _ _)
    · simp only
      split
      · exact hu.congr (endPass_run _ _)
      · exact hu
  case queryPoint =>
    refine request_sound _ _ h fun form u _ hu => ?_
    split
    · unfold queryPoint
      split
      · exact hu.congr (refuse_run _ _ _ _ _)
      split
      · exact hu.congr (refuse_run _ _ _ _ _)
      · exact hu.congr (.ofFrame ⟨rfl, rfl, rfl, rfl, rfl⟩)
    · exact hu
  case dumpPoints =>
    refine request_sound _ _ h fun form u _ hu => ?_
    split
    · unfold dumpPoints
      split
      · exact hu.congr (refuse_run _ _ _ _ _)
      split
      · exact hu.congr (refuse_run _ _ _ _ _)
      split
      · exact hu.congr (refuse_run _ _ _ _ _)
      split
      · exact hu.congr (refuse_run _ _ _ _ _)
      · exact hu.congr (.ofFrame ⟨rfl, rfl, rfl, rfl, rfl⟩)
    · exact hu
  case dumpDefects =>
    refine request_sound _ _ h fun form u _ hu => ?_
    split
    · split
      · exact hu.congr (refuse_run _ _ _ _ _)
      · exact hu.congr (.ofFrame ⟨rfl, rfl, rfl, rfl, rfl⟩)
    · exact hu
  case queryStatus =>
    refine request_sound _ _ h fun form u _ hu => ?_
    split
    · split
      · exact hu.congr (reply_run _ _ _ _)
      · exact hu.congr (refuse_run _ _ _ _ _)
    · exact hu
  case clearEvents =>
    refine request_sound _ _ h fun form u _ hu => ?_
    split
    · exact hu.congr (.ofFrame (by simp))
    · exact hu
  case setNoticeMask =>
    refine request_sound _ _ h fun form u _ hu => ?_
    split
    · exact hu.congr (.ofFrame (by simp))
    · exact hu
  case cancel =>
    refine request_sound _ _ h fun form u _ hu => ?_
    split
    · split
      · exact hu.congr (reply_run _ _ _ _)
      · exact hu.congr (.ofFrame (by simp [cancelContext, queueEnd, setContext]))
    · exact hu
  case resetRun => exact resetFrame_sound h _ _ _
  case resetFull => exact resetFrame_sound h _ _ _
  case unknownRequest =>
    refine request_sound _ _ h fun form u _ hu => ?_
    split
    · exact hu.congr (refuse_run _ _ _ _ _)
    · exact hu

/-- Every other frame keeps the run sound. -/
theorem exec_frame_sound {c : Instr} {s t : State} (hc : (frameKind c).isSome = true) (hr : requestOf c = none)
    (h : RunSound s) (hx : exec c s = .next t) : RunSound t := by
  cases c <;> cases hr <;> cases hc <;> cases hx
  case heldFrame =>
    split
    · exact heldTakes_sound h _ _
    · exact h
  case otherCleanFrame => exact frameEnd_sound _ h fun _ _ _ hu => hu
  case abort =>
    refine frameEnd_sound _ h fun _ u _ hu => ?_
    split
    · exact endActiveRun_sound hu _
    · exact hu
  case driveFrame =>
    refine runFrame_sound _ _ h fun _ u hu => ?_
    split
    · rename_i hg; exact openSweepStep_sound hu hg.2 _ _ _
    · exact hu
  case refFrame =>
    refine runFrame_sound _ _ h fun _ u hu => ?_
    split
    · rename_i hg; exact takeRef_sound hu hg.2.1 _ _ _
    · exact hu
  case netFrame =>
    refine runFrame_sound _ _ h fun _ u hu => ?_
    split
    · rename_i hg; exact openInsStep_sound hu hg.1 _ _
    · exact hu
  case resultFrame =>
    refine runFrame_sound _ _ h fun own u hu => ?_
    split
    · rename_i hg
      split
      · exact takeResult_sound hu hg.1 _ _
      · exact takeOwnResult_sound hu hg.1 _ _
      · exact hu
    · exact hu
  case sourceReady r run =>
    refine runFrame_sound _ _ h fun own u hu => ?_
    have h1 : ∀ e, RunSound (setRun { u.run with elected := e } u) := fun e =>
      hu.congr ⟨rfl, rfl, rfl, rfl, rfl, rfl, rfl, rfl, fun _ => id⟩
    split
    · simp only
      split
      · exact (h1 _).congr (releaseHold_run _)
      · exact h1 _
    · exact hu
  case halted =>
    refine runFrame_sound _ _ h fun own u hu => ?_
    split
    · have h1 := hu.congr (timerHalt_run u)
      simp only
      split
      · rename_i hg; exact setHalt_sound h1 hg.2
      · exact h1
    · exact hu
  case credit =>
    refine frameEnd_sound _ h fun _ u _ hu => ?_
    split
    · exact hu.congr (takeCredit_run _ u)
    · exact hu
  case line =>
    exact runFrame_sound _ _ h fun _ u hu => hu.congr (takeLine_run _ _ u)
  case dataFrame =>
    refine frameEnd_sound _ h fun own u _ hu => ?_
    split
    · refine hu.congr ?_
      unfold dataSent
      split
      · exact .refl u
      · split
        · exact .ofFrame ⟨rfl, rfl, rfl, rfl, rfl⟩
        · exact .refl u
    · exact hu
  case endFrame =>
    refine frameEnd_sound _ h fun own u _ hu => ?_
    split
    · exact hu.congr (.ofFrame ⟨rfl, rfl, rfl, rfl, rfl⟩)
    · exact hu

/-- The milliseconds and ends of the Insulation Engine's stages. -/
def ofEngine : Instr → Bool
  | .rampMillisecond .. => true
  | .rampEnd => true
  | .checkReading .. => true
  | .undervolt => true
  | .dwellMillisecond .. => true
  | .dwellEnd .. => true
  | .dischargeReading .. => true
  | .dischargeFault => true
  | .followingReading .. => true
  | _ => false

/-- Every command of the Insulation Engine keeps the run sound. -/
theorem exec_engine_sound {c : Instr} {s t : State} (hc : ofEngine c = true) (h : RunSound s) (hx : exec c s = .next t) :
    RunSound t := by
  cases c <;> cases hc <;> cases hx
  case rampMillisecond =>
    split
    · split
      · exact h.congr (takeSample_run _ _ _ (fun u => setHv_run _ u) s)
      · exact h
    · exact h
  case rampEnd =>
    split
    · split
      · exact h.congr (setHv_run _ s)
      · exact h
    · exact h
  case checkReading =>
    split
    · split
      · exact h
      · split
        · exact h.congr (checkMonitor_run _ _ s)
        · exact h.congr (takeSample_run _ _ _ (checkMonitor_run _ _) s)
    · exact h
  case undervolt =>
    split
    · split
      · exact h.congr (setHv_run _ s)
      · exact h
    · exact h
  case dwellMillisecond =>
    split
    · split
      · exact h.congr (takeSample_run _ _ _ (fun u => setHv_run _ u) s)
      · exact h
    · exact h
  case dwellEnd =>
    split
    · split
      · exact h.congr (setHv_run _ s)
      · exact h
    · exact h
  case dischargeReading =>
    split
    · split
      · exact h.congr (.trans (.ofFrame (by simp)) (queueResult_run _ _))
      · exact h.congr (setHv_run _ s)
    · exact h
  case dischargeFault =>
    split
    · exact h.congr ((setHv_run _ s).trans (queueResult_run _ _))
    · exact h
  case followingReading =>
    split
    · split
      · split
        · exact h.congr (assertLive_run s)
        · exact h
      · exact h.congr (.ofFrame (by simp))
    · exact h

/-- Every command that is no frame, the Insulation Engine's apart, keeps the run sound. -/
theorem exec_event_sound {c : Instr} {s t : State} (hc : frameKind c = none) (he : ofEngine c = false) (h : RunSound s)
    (hx : exec c s = .next t) : RunSound t := by
  have hframe : ∀ {u : State}, u.run = s.run ∧ u.sampler = s.sampler ∧ u.decoder.summary = s.decoder.summary ∧
    u.bus.held = s.bus.held ∧ u.bus.silent = s.bus.silent → RunSound u := fun k => h.congr (.ofFrame k)
  cases c <;> cases hc <;> cases he <;> cases hx
  case powerUp =>
    exact .ofInactive rfl ⟨rfl, rfl⟩ rfl rfl (fun _ _ k => by cases k) rfl fun _ => rfl
  case estopAsserted =>
    have h1 : RunSound { s with lines := { s.lines with estop := true } } := hframe ⟨rfl, rfl, rfl, rfl, rfl⟩
    split
    · exact h
    · simp only
      split
      · exact h1
      · exact estopWork_sound h1
  case estopReleased => exact hframe ⟨rfl, rfl, rfl, rfl, rfl⟩
  case holdSeenAsserted =>
    split
    · exact h
    · exact h.congr (holdRises_run s)
  case holdSeenReleased =>
    split
    · exact barrierEnd_sound (s := { s with lines := { s.lines with holdSeen := false } })
        (hframe ⟨rfl, rfl, rfl, rfl, rfl⟩) _
    · exact h
  case liveSeenAsserted =>
    split
    · exact h
    · exact h.congr (liveRises_run s)
  case liveSeenReleased =>
    split
    · have h1 : RunSound { s with lines := { s.lines with liveSeen := false } } := hframe ⟨rfl, rfl, rfl, rfl, rfl⟩
      have h2 : ∀ u : State, sameRun u (timerResume u) := fun u => by
        unfold timerResume
        split
        · rename_i ht
          exact ⟨rfl, rfl, rfl, rfl, rfl, rfl, rfl, rfl, fun _ k => by rw [ht] at k; cases k⟩
        · exact .refl u
      exact (h1.congr (h2 _)).congr (mapPoints_run _ _)
    · exact h
  case beginFrame =>
    refine hframe ?_
    unfold beginOffered
    split
    · simp
    · split <;> simp
  case frameErr seen =>
    rcases frameErrEnd_cases seen s with e | ⟨hh, b, hb, hs, e | e⟩ <;> rw [e]
    · exact h
    · exact hframe ⟨rfl, rfl, rfl, hb, hs⟩
    · exact enterSilent_sound (hframe ⟨rfl, rfl, rfl, hb, hs⟩) (hb.trans hh)
  case bidWindowExpired =>
    split
    · exact phaseEnd_sound (hframe (by simp))
    · exact h
  case delayedRequestService =>
    refine hframe ?_
    unfold serve
    split
    · simp
    · split
      · simp
      · split
        · simp [setContext]
        · split <;> simp [queueEnd]
  case stepTimeout =>
    split
    · exact endActiveRun_sound h _
    · exact h
  case stallTimerExpiry =>
    split
    · split
      · exact h.congr ((endPass_run _ s).trans (raise_run _ _))
      · exact hframe ⟨rfl, rfl, rfl, rfl, rfl⟩
    · exact h
  case summaryTimerExpiry =>
    split
    · rename_i ha
      have ha : runActive s = true := (Bool.and_eq_true_iff.1 ha).1
      have h1 : sameRun s (if s.params.summary then queue Config.consoleA (summaryPayload s) s else s) := by
        split
        · exact queue_run _ _ s
        · exact .refl s
      have h2 := h.congr h1
      exact ⟨h2.sweep, h2.ins, h2.timer, h2.halt, h2.job, ((runActive_congr h1.1).trans ha).symm, h2.held, h2.silent⟩
    · exact h
  case breakTimeEnd => exact reportAll_sound (h.congr (dropReached_run _ s))
  case settleTimeEnd => exact reportAll_sound (h.congr (dropReached_run _ s))
  case settleWaitEnd =>
    split
    · rename_i hg
      have h1 : RunSound (setRun { s.run with settleWait := none } s) :=
        h.congr ⟨rfl, rfl, rfl, rfl, rfl, rfl, rfl, rfl, fun _ => id⟩
      simp only
      split
      · exact h1
      · exact commandPass_sound h1 hg.1
    · exact h
  case calibrationComplete codes =>
    split
    · have h1 : ∀ o, RunSound (setSampler { s.sampler with job := .free, offset := o } s) := fun o =>
        setSampler_sound h fun _ _ k => by cases k
      have h2 : ∀ (p : Prop) [Decidable p] u, RunSound u → RunSound (if p then u else raise .offsetLimit u) :=
          fun p _ u hu => by
        split
        · exact hu
        · exact hu.congr (raise_run _ u)
      have h3 : ∀ u, RunSound u → RunSound (if u.run.state = .prepare then batch .prepare (targetsBy u (prepareTarget u)) u
          else u) := fun u hu => by
        split
        · exact batch_sound hu _ _
        · exact hu
      exact h3 _ (h2 _ _ (h1 _))
    · exact h
  case samplingPassComplete =>
    split
    · rename_i n d hj
      have hg := h.job n d hj
      exact afterPass_sound (setSampler_sound h fun _ _ k => by cases k) (h.sweep (by rw [hg]; decide))
        (h.haltClear (by rw [hg]; decide)) fun _ _ k => by cases k
    · exact h
  case busIntegration => exact hframe ⟨rfl, rfl, rfl, rfl, rfl⟩

/-- Every command keeps the run sound. -/
theorem exec_sound (c : Instr) (s t : State) (h : RunSound s) (hx : exec c s = .next t) : RunSound t := by
  cases hr : requestOf c with
  | some q => exact exec_request_sound (by simp [hr]) h hx
  | none =>
      cases hf : frameKind c with
      | some k => exact exec_frame_sound (by simp [hf]) hr h hx
      | none =>
          cases he : ofEngine c
          · exact exec_event_sound hf he h hx
          · exact exec_engine_sound he h hx

/-- A millisecond with no command keeps the run sound (R77, R181). -/
theorem tick_sound {s : State} (h : RunSound s) : RunSound (tick s) := by
  refine h.congr ⟨rfl, rfl, rfl, rfl, rfl, by simp [tick], rfl, rfl, fun _ k => ?_⟩
  simp [tick, k]

end Sys2Proof.Machine
end

section
/-! The laws of the switch matrix in HELD, and with them over every step (O55). -/

namespace Sys2Proof.Machine

theorem sameMatrix.refl (s : State) : sameMatrix s s := ⟨rfl, rfl, rfl, rfl⟩

/-- A step timer that goes on leaves the matrix alone (R77). -/
theorem timerResume_matrix (s : State) : sameMatrix s (timerResume s) := by
  unfold timerResume
  split
  · exact ⟨rfl, rfl, rfl, rfl⟩
  · exact .refl s

/-- A frame end in HELD, no RESET, leaves the matrix alone (R58). -/
theorem frameEnd_held_matrix (f : Frame) (act : Bool → State → State) {s : State} (hh : s.bus.held = true) :
    sameMatrix s (frameEnd f act s) := by
  rcases frameEnd_cases f act s with h | ⟨-, h⟩ | ⟨h, -⟩
  · rw [h]; exact .refl s
  · rw [h]; exact ⟨rfl, rfl, rfl, rfl⟩
  · rw [h] at hh; cases hh

/-- The HOLD barrier means nothing outside a run (R54). -/
theorem barrierEnd_idle (busy : Bool) {s : State} (h : s.run.state = .idle) : barrierEnd busy s = s := by
  simp [barrierEnd, h]

/-- The end of a bid phase means nothing outside a run (R92, R115). -/
theorem phaseEnd_idle {s : State} (h : s.run.state = .idle) : phaseEnd s = s := by
  simp [phaseEnd, h]

/-- The end of break times keeps a sound matrix (R25). -/
theorem breakTimeEnd_matrix {s : State} (h : MatrixSound s) (points : List Nat) (live : Bool) (settle : Nat) :
    MatrixSound (reportAll (dropReached (mapPoints
      (fun i p => if points.contains i then breakEnds live settle p else p) s))) := by
  refine timesEnd_matrix h _ (fun j p k => ?_) fun j p k => ?_ <;> split
  · exact breakEnds_lawful _ _ _ k
  · exact k
  · rwa [breakEnds_floats _ _ _ k]
  · exact k

/-- The end of settle times keeps a sound matrix (R25). -/
theorem settleTimeEnd_matrix {s : State} (h : MatrixSound s) (points : List Nat) (live : Bool) :
    MatrixSound (reportAll (dropReached (mapPoints
      (fun i p => if points.contains i then settleEnds live p else p) s))) := by
  refine timesEnd_matrix h _ (fun j p k => ?_) fun j p k => ?_ <;> split
  · exact settleEnds_lawful _ _ k
  · exact k
  · rwa [settleEnds_floats _ _ k]
  · exact k

/-- A leakage sample leaves the matrix alone where what its stage makes of it does (R124). -/
theorem takeSample_sameMatrix (x : HvSettings) (sample : Nat) (monitor : Code12) {rest : State → State}
    (hr : ∀ u, sameMatrix u (rest u)) (s : State) : sameMatrix s (takeSample x sample monitor rest s) := by
  unfold takeSample
  simp only
  split
  · simp [sameMatrix, breakdown, dropWith]
  · exact hr (setHv _ s)

/-- A check reading leaves the matrix alone (R125). -/
theorem checkMonitor_sameMatrix (x : HvSettings) (monitor : Code12) (s : State) :
    sameMatrix s (checkMonitor x monitor s) := by
  unfold checkMonitor
  simp only
  split <;> exact ⟨rfl, rfl, rfl, rfl⟩

/-- Every command of the Insulation Engine leaves the matrix alone. -/
theorem exec_engine_matrix {c : Instr} {s t : State} (hc : ofEngine c = true) (hx : exec c s = .next t) :
    sameMatrix s t := by
  have hq : ∀ v u, sameMatrix u (queueResult v u) := fun v u => by
    unfold queueResult
    split
    · simp [sameMatrix]
    · exact .refl u
  have hd : ∀ r, sameMatrix s (dropWith r s) := fun r => ⟨rfl, rfl, rfl, rfl⟩
  cases c <;> cases hc <;> cases hx
  case rampMillisecond =>
    split
    · split
      · exact takeSample_sameMatrix _ _ _ (rest := moveSetpoint _) (fun u => ⟨rfl, rfl, rfl, rfl⟩) s
      · exact .refl s
    · exact .refl s
  case checkReading =>
    split
    · split
      · exact .refl s
      · split
        · exact checkMonitor_sameMatrix _ _ s
        · exact takeSample_sameMatrix _ _ _ (checkMonitor_sameMatrix _ _) s
    · exact .refl s
  case dwellMillisecond =>
    split
    · split
      · exact takeSample_sameMatrix _ _ _ (rest := dwellSample _ _) (fun u => ⟨rfl, rfl, rfl, rfl⟩) s
      · exact .refl s
    · exact .refl s
  case dischargeReading =>
    split
    · split
      · simpa [sameMatrix] using hq none (setHv _ (releaseLive s))
      · exact ⟨rfl, rfl, rfl, rfl⟩
    · exact .refl s
  case dischargeFault =>
    split
    · exact hq _ (setHv _ s)
    · exact .refl s
  case rampEnd =>
    split
    · split
      · exact ⟨rfl, rfl, rfl, rfl⟩
      · exact .refl s
    · exact .refl s
  case undervolt =>
    split
    · split
      · exact hd _
      · exact .refl s
    · exact .refl s
  case dwellEnd =>
    split
    · split
      · exact hd _
      · exact .refl s
    · exact .refl s
  case followingReading =>
    split
    · split
      · split
        · simp [sameMatrix]
        · exact .refl s
      · simp [sameMatrix]
    · exact .refl s

/-- In HELD every command that is no frame, POWER_UP and the Insulation Engine's apart, keeps a sound matrix: no run is active,
and an ESTOP only adds to the hold at FLOAT (R33, R58). -/
theorem exec_held_event_matrix {c : Instr} {s t : State} (hc : frameKind c = none) (hp : isPowerUp c = false)
    (he : ofEngine c = false) (hr : RunSound s) (hh : s.bus.held = true) (h : MatrixSound s) (hx : exec c s = .next t) :
    MatrixSound t := by
  have hi : s.run.state = .idle := hr.held hh
  have ha : runActive s = false := by simp [runActive, hi]
  have hlines : ∀ l, MatrixSound { s with lines := l } := fun l =>
    h.ofPoints rfl rfl (fun _ => .refl _) fun _ => by simp [mustFloat, hh]
  cases c <;> cases hc <;> cases hp <;> cases he <;> cases hx
  case estopAsserted =>
    split
    · exact h
    · rw [if_pos (by exact hh)]; exact hlines _
  case estopReleased => exact hlines _
  case holdSeenAsserted =>
    split
    · exact h
    · exact h.congr (by simp [sameMatrix])
  case holdSeenReleased =>
    split
    · rw [barrierEnd_idle _ (by exact hi)]; exact hlines _
    · exact h
  case liveSeenAsserted =>
    split
    · exact h
    · exact h.congr (by simp [sameMatrix])
  case liveSeenReleased =>
    split
    · exact mapPoints_matrix ((hlines _).congr (timerResume_matrix _)) _ fun _ p => liveFreed_kept _ p
    · exact h
  case beginFrame =>
    refine h.congr ?_
    unfold beginOffered
    split
    · simp [sameMatrix]
    · split <;> simp [sameMatrix]
  case frameErr seen =>
    rcases frameErrEnd_cases seen s with e | ⟨e, -⟩
    · rw [e]; exact h
    · rw [e] at hh; cases hh
  case bidWindowExpired =>
    split
    · rw [phaseEnd_idle (by simpa using hi)]; exact h.congr (by simp [sameMatrix])
    · exact h
  case delayedRequestService =>
    refine h.congr ?_
    unfold serve
    split
    · exact .refl s
    · split
      · exact .refl s
      · split
        · simp [sameMatrix, setContext]
        · split <;> simp [sameMatrix, queueEnd]
  case stepTimeout => rw [endActiveRun_inactive _ ha, ite_self]; exact h
  case stallTimerExpiry =>
    split
    · split
      · exact h.congr (by simp [sameMatrix, endPass, setPrint])
      · exact h.congr ⟨rfl, rfl, rfl, rfl⟩
    · exact h
  case summaryTimerExpiry => rw [ha]; exact h
  case breakTimeEnd => exact breakTimeEnd_matrix h _ _ _
  case settleTimeEnd => exact settleTimeEnd_matrix h _ _
  case settleWaitEnd =>
    rw [if_neg]
    · exact h
    · simp [hr.sweepStageNone (by rw [hi]; decide)]
  case calibrationComplete codes =>
    split
    · have h2 : ∀ (p : Prop) [Decidable p] u, u.run.state = .idle → MatrixSound u →
          (if p then u else raise .offsetLimit u).run.state = .idle ∧ MatrixSound (if p then u else raise .offsetLimit u) :=
        fun p _ u hu k => by
          split
          · exact ⟨hu, k⟩
          · exact ⟨by simpa using hu, k.congr (by simp [sameMatrix])⟩
      have h3 : ∀ u, u.run.state = .idle ∧ MatrixSound u → MatrixSound (if u.run.state = .prepare then
          batch .prepare (targetsBy u (prepareTarget u)) u else u) := fun u hu => by
        rw [if_neg (by simp [hu.1])]; exact hu.2
      exact h3 _ (h2 _ _ hi (h.congr ⟨rfl, rfl, rfl, rfl⟩))
    · exact h
  case samplingPassComplete =>
    refine h.congr ?_
    split <;> simp [sameMatrix, finishPass]
  case busIntegration => exact h.congr (by simp [sameMatrix])

/-- In HELD every frame that cannot be a RESET leaves the matrix alone (R58). -/
theorem exec_held_frame_matrix {c : Instr} {s t : State} (hc : (frameKind c).isSome = true) (hr : mayReset c = false)
    (hh : s.bus.held = true) (hx : exec c s = .next t) : sameMatrix s t := by
  cases c <;> cases hc <;> cases hr <;> cases hx <;> exact frameEnd_held_matrix _ _ hh

/-- Every command keeps a sound matrix under a sound run. -/
theorem exec_matrix {c : Instr} {s t : State} (hr : RunSound s) (h : MatrixSound s) (hx : exec c s = .next t) :
    MatrixSound t := by
  by_cases hc : mayReset c = true ∨ isPowerUp c = true
  · exact (exec_reset_laws c s t hc hx).2 h
  obtain ⟨hm, hp⟩ : mayReset c = false ∧ isPowerUp c = false := by simpa using hc
  cases hh : s.bus.held
  · exact (exec_laws c s t hm hp hx).matrix hh h
  cases hf : frameKind c with
  | some k => exact h.congr (exec_held_frame_matrix (by simp [hf]) hm hh hx)
  | none =>
      cases he : ofEngine c
      · exact exec_held_event_matrix hf hp he hr hh h hx
      · exact h.congr (exec_engine_matrix he hx)

/-- Settles O55: every command keeps both the matrix and the run sound, and so does a millisecond; in HELD the matrix needs the
run's laws, which leave no run to end there. -/
theorem matrixLawsKept : Obligations.MatrixLawsKept := by
  intro s t hp hb hf hl h
  have hm : MatrixSound s := ⟨hp, hb, hf⟩
  have hr : RunSound s := (runLawful_iff s).1 hl
  have ht : MatrixSound t ∧ RunSound t := by
    rcases step_cases h with rfl | ⟨c, rest, -, hx⟩
    · exact ⟨hm.congr (by simp [sameMatrix, tick]), tick_sound hr⟩
    · have hm' : MatrixSound { s with pending := rest } := hm.congr ⟨rfl, rfl, rfl, rfl⟩
      have hr' : RunSound { s with pending := rest } := hr.congr (.ofFrame ⟨rfl, rfl, rfl, rfl, rfl⟩)
      exact ⟨exec_matrix hr' hm' hx, exec_sound c _ t hr' hx⟩
  exact ⟨ht.1.points, ht.1.batches, ht.1.hold, (runLawful_iff t).2 ht.2⟩

end Sys2Proof.Machine
end

section
/-! The requests on the netlist slice and on the blocks (R7 to R9, R15), point by point (O3, O4, O5). -/

namespace Sys2Proof.Machine

/-! ## Answers -/

/-- An answer to an addressed request taken stands in the slot beside what the frame end left there (R43, R168). -/
theorem queue_answers {h : Header} {s : State} (ht : takesAddressed h s = true) (p : Payload) {u : State}
    (hb : u.bus = heard s) (hs : u.straps = s.straps) : queue h.src p u = { u with bus := answered h p s } := by
  have hq : (s.bus.held || s.bus.silent) = false := by
    simp only [takesAddressed, takesFrames, listening, Bool.and_eq_true, Bool.not_eq_true'] at ht
    simp [ht]
  rw [queue_puts h.src p u (by rw [hb]; exact hq), setSlot, ownFrame, hb, hs]
  rfl

/-- A refusal answers (R170). -/
theorem refuse_answers {h : Header} {s : State} (ht : takesAddressed h s = true) (code : Nat) (why : RefusalCode) (sel : Nat) :
    refuse h code why sel { s with bus := heard s } =
      { s with bus := answered h (refusal h code why (half sel)) s } :=
  queue_answers ht _ rfl rfl

/-- A number read from a two-byte field spells the field. -/
theorem half_toNat (x : Half) : half x.toNat = x := BitVec.ofNat_toNat 16 x

/-! ## The admission check -/

/-- A record listed with its local index is the one that the index reads. -/
theorem pointAt_of_mem_zipIdx {s : State} {q : Point × Nat} (h : q ∈ s.points.zipIdx) :
    q.2 < s.points.length ∧ q.1 = pointAt s q.2 := by
  have hq := List.mem_zipIdx_iff_getElem?.1 h
  obtain ⟨hl, he⟩ := List.getElem?_eq_some_iff.1 hq
  exact ⟨hl, by rw [pointAt, List.getD_eq_getElem _ _ hl, he]⟩

theorem mem_zipIdx_of_lt {s : State} {j : Nat} (h : j < s.points.length) : (pointAt s j, j) ∈ s.points.zipIdx := by
  refine List.mem_zipIdx_iff_getElem?.2 ?_
  simp [pointAt, h]

/-- The admission check names the points that the manual row shuts out, to FLOAT (R6). -/
theorem mem_notAdmitted_iff {s : State} {x : Nat × Switch} : x ∈ notAdmitted s ↔ x.1 < s.points.length ∧ x.2 = .float ∧
    admitsPoint s x.1 (pointAt s x.1) ((pointAt s x.1).pending.getD (pointAt s x.1).switch) = false := by
  rw [notAdmitted, List.mem_filterMap]
  constructor
  · rintro ⟨q, hq, hx⟩
    obtain ⟨hl, he⟩ := pointAt_of_mem_zipIdx hq
    split at hx <;> cases hx
    rename_i ha
    exact ⟨hl, rfl, by rw [← he]; simpa using ha⟩
  · obtain ⟨j, t⟩ := x
    rintro ⟨hl, rfl, ha⟩
    refine ⟨_, mem_zipIdx_of_lt hl, ?_⟩
    simp only at ha
    simp [ha]

/-- The admission check has FLOAT for an index where its point is not admitted, and else nothing. -/
theorem targetOf_notAdmitted {s : State} {j : Nat} (hj : j < s.points.length) : targetOf (notAdmitted s) j =
    if admitsPoint s j (pointAt s j) ((pointAt s j).pending.getD (pointAt s j).switch) then none else some .float := by
  split
  · rename_i ha
    refine targetOf_eq_none fun hm => ?_
    obtain ⟨x, hx, rfl⟩ := List.mem_map.1 hm
    rw [(mem_notAdmitted_iff.1 hx).2.2] at ha
    cases ha
  · rename_i ha
    have hm : (j, Switch.float) ∈ notAdmitted s := mem_notAdmitted_iff.2 ⟨hj, rfl, by simpa using ha⟩
    cases hf : (notAdmitted s).find? fun q => q.1 == j with
    | none => exact absurd (List.find?_eq_none.1 hf _ hm) (by simp)
    | some x =>
        rw [targetOf, hf]
        exact congrArg some (mem_notAdmitted_iff.1 (List.mem_of_find?_eq_some hf)).2.1

/-- A batch request neither adds nor drops a record. -/
theorem requestBatch_length (why : Purpose) (targets : List (Nat × Switch)) (s : State) :
    (requestBatch why targets s).points.length = s.points.length := by
  cases hs : heldAtFloat s
  · rw [requestBatch_maps why targets s hs]; simp
  · rw [requestBatch_held why targets s hs]

/-- Where no stage awaits its report the admission check changes points and batches alone, each record as R6 says. -/
theorem admissionCheck_records {s : State} (h : awaitsNone s) :
    admissionCheck s = { s with
      points := (admissionCheck s).points, matrix := { s.matrix with batches := (admissionCheck s).matrix.batches } } ∧
    (admissionCheck s).points.length = s.points.length ∧
    ∀ j < s.points.length, pointAt (admissionCheck s) j = afterAdmission s j (pointAt s j) := by
  have he := batch_unawaited .admission (notAdmitted s) h
  have hp : (admissionCheck s).points = (requestBatch .admission (notAdmitted s) s).points := by
    rw [admissionCheck, he]; rfl
  refine ⟨?_, by rw [hp, requestBatch_length], fun j hj => ?_⟩
  · conv => lhs; rw [admissionCheck, he]
    rw [hp]
    rfl
  · rw [pointAt_congr hp, afterAdmission]
    cases hf : heldAtFloat s
    · rw [requestBatch_point _ _ _ _ hj hf, requestedPoint, targetOf_notAdmitted hj]
      cases admitsPoint s j (pointAt s j) ((pointAt s j).pending.getD (pointAt s j).switch) <;> rfl
    · rw [pointAt_congr (requestBatch_held _ _ _ hf)]
      rfl

/-- A sound run that is not active awaits no report. -/
theorem awaitsNone_of_inactive {s : State} (h : runLawful s = true) (ha : ¬ runActive s = true) : awaitsNone s :=
  ((runLawful_iff s).1 h).stagesNone (by simpa using ha)

/-! ## ASSIGN NET -/

section
variable {h : Header} {gp net : Nat} {role : Byte} {s : State}

theorem assignNet_foreign (ho : gp / 256 ≠ addr s) : assignNet h gp net role s = refuse h 1 .range gp s :=
  if_pos (by simp [owns, Config.pointCount, ho])

theorem assignNet_active (ho : gp / 256 = addr s) (ha : runActive s = true) :
    assignNet h gp net role s = refuse h 1 .runActive gp s := by
  have hw : owns s gp = true := decide_eq_true ho
  simp [assignNet, hw, ha]

theorem assignNet_busy (ho : gp / 256 = addr s) (ha : ¬ runActive s = true)
    (hb : s.matrix.override ≠ .none ∨ busy s (pointAt s (gp % 256)) = true) :
    assignNet h gp net role s = refuse h 1 .busy gp s := by
  have hw : owns s gp = true := decide_eq_true ho
  rw [assignNet, if_neg (by simp [hw]), if_neg ha]
  exact if_pos hb

/-- ASSIGN NET past the checks of owner, run and point (R7). -/
theorem assignNet_judged (ho : gp / 256 = addr s) (ha : ¬ runActive s = true)
    (hb : ¬ (s.matrix.override ≠ .none ∨ busy s (pointAt s (gp % 256)) = true)) :
    (roleOfCode role = none ∨ 4095 < net → assignNet h gp net role s = refuse h 1 .range gp s) ∧
    (∀ ro, roleOfCode role = some ro → ¬ 4095 < net → assignNet h gp net role s =
      admissionCheck (reply h 1 (halfBytes (half gp) ++ halfBytes (half net) ++ [role])
        (updatePoint (gp % 256) (assign net ro) s))) := by
  have hw : owns s gp = true := decide_eq_true ho
  have hb' : ¬ (s.matrix.override ≠ .none ∨ busy s (pointAt s (localOf gp)) = true) := hb
  rw [assignNet, if_neg (by simp [hw]), if_neg ha, if_neg hb']
  refine ⟨fun hn => ?_, fun ro hro hn => ?_⟩
  · rcases hn with hn | hn
    · simp only [hn, ite_self]
    · simp only [if_neg (show ¬ net ≤ Config.maxNet by simpa [Config.maxNet] using hn)]
  · simp only [if_pos (show net ≤ Config.maxNet by simpa [Config.maxNet] using hn), hro]
    rfl

end

/-- ASSIGN NET taken (R168). -/
theorem exec_assignNet {h : Header} {s : State} (gp net : Half) (role : Byte) (ht : takesAddressed h s = true)
    (hw : noFirstFrame s = true) : exec (.assignNet h gp net role) s =
      .next (assignNet h gp.toNat net.toNat role { s with bus := heard s }) :=
  congrArg Host.Outcome.next (request_addressed h 1 _ s ht hw)

/-- The write and the answer of ASSIGN NET accepted. -/
theorem reply_assign {h : Header} {s : State} (ht : takesAddressed h s = true) (i : Nat) (gp net : Half) (role : Byte)
    (ro : Role) :
    reply h 1 (halfBytes (half gp.toNat) ++ halfBytes (half net.toNat) ++ [role])
        (updatePoint i (assign net.toNat ro) { s with bus := heard s }) =
      { updatePoint i (assign net.toNat ro) s with
        bus := answered h (replyTo h 1 (halfBytes gp ++ halfBytes net ++ [role])) s } := by
  rw [half_toNat, half_toNat]
  exact queue_answers ht _ rfl rfl

/-- Settles O3: ASSIGN NET refuses by the first check that fails; accepted it writes one record, answers, and the admission check
moves what the new role shuts out. -/
theorem assignNetJudgesInOrder : Obligations.AssignNetJudgesInOrder := by
  intro h gp net role s ht hw hl
  refine ⟨_, exec_assignNet gp net role ht hw, ?_⟩
  have hr : ∀ why, refuse h 1 why gp.toNat { s with bus := heard s } =
      { s with bus := answered h (refusal h 1 why gp) s } := fun why => by
    rw [refuse_answers ht, half_toNat]
  by_cases ho : gp.toNat / 256 = addr s
  swap
  · rw [if_pos ho, ← hr]; exact assignNet_foreign ho
  rw [if_neg (not_not.2 ho)]
  by_cases ha : runActive s = true
  · rw [if_pos ha, ← hr]; exact assignNet_active ho ha
  rw [if_neg ha]
  by_cases hb : s.matrix.override ≠ .none ∨ busy s (pointAt s (gp.toNat % 256)) = true
  · rw [if_pos hb, ← hr]; exact assignNet_busy ho ha hb
  rw [if_neg hb]
  obtain ⟨hbad, hgood⟩ := assignNet_judged (h := h) (net := net.toNat) (role := role) (s := { s with bus := heard s })
    ho ha hb
  cases hro : roleOfCode role with
  | none => exact (hbad (.inl hro)).trans (hr .range)
  | some ro =>
      by_cases hn : 4095 < net.toNat
      · simp only [hn, if_true]; exact (hbad (.inr hn)).trans (hr .range)
      · simp only [hn, if_false]
        rw [hgood ro hro hn, reply_assign ht]
        obtain ⟨hrest, hlen, hpoint⟩ := admissionCheck_records (s := {
          updatePoint (gp.toNat % 256) (assign net.toNat ro) s with
          bus := answered h (replyTo h 1 (halfBytes gp ++ halfBytes net ++ [role])) s }) (awaitsNone_of_inactive hl ha)
        refine ⟨hrest, hlen.trans (by simp), fun j hj => (hpoint j (by simpa using hj)).trans (congrArg _ ?_)⟩
        refine (pointAt_updatePoint (gp.toNat % 256) j (assign net.toNat ro) s hj).trans ?_
        simp only [eq_comm, assign]

end Sys2Proof.Machine
end

section
/-! The general calls on the netlist slice (O4). -/

namespace Sys2Proof.Machine

/-! ## ASSIGN RANGE -/

/-- The cases in which R8 disregards an ASSIGN RANGE: the arguments out of order, a run active, no owned gp in range. -/
theorem disregarded_iff (first last net : Half) (stp : Byte) (active unowned : Prop) :
    (last.toNat < first.toNat ∨ 6143 < first.toNat ∨ 6143 < last.toNat ∨ 4095 < net.toNat ∨ 1 < stp.toNat
        ∨ (stp = 1 ∧ (net = 0 ∨ 4095 < net.toNat + (last.toNat - first.toNat))) ∨ active ∨ unowned) ↔
      (¬ rangeInOrder first.toNat last.toNat net.toNat stp.toNat = true ∨ active ∨ unowned) := by
  have hs : stp = 1 ↔ stp.toNat = 1 := BitVec.toNat_inj.symm
  have hn : net = 0 ↔ net.toNat = 0 := BitVec.toNat_inj.symm
  have hr : ¬ rangeInOrder first.toNat last.toNat net.toNat stp.toNat = true ↔
      (last.toNat < first.toNat ∨ 6143 < first.toNat ∨ 6143 < last.toNat ∨ 4095 < net.toNat ∨ 1 < stp.toNat
        ∨ (stp = 1 ∧ (net = 0 ∨ 4095 < net.toNat + (last.toNat - first.toNat)))) := by
    simp only [rangeInOrder, Bool.and_eq_true, Bool.or_eq_true, decide_eq_true_eq, beq_iff_eq, bne_iff_ne, ne_eq, hs, hn]
    simp only [Config.maxGp, Config.maxNet]
    omega
  rw [hr]
  simp only [or_assoc]

/-- Whether a range holds a gp of the station. -/
theorem range_owned_iff (first last : Nat) (s : State) :
    (s.points.zipIdx.any fun q => decide (first ≤ gpOf s q.2 ∧ gpOf s q.2 ≤ last)) = true ↔
      ¬ ∀ j < s.points.length, gpOf s j < first ∨ last < gpOf s j := by
  simp only [List.any_eq_true, decide_eq_true_eq, not_forall, not_or, Nat.not_lt]
  constructor
  · rintro ⟨q, hq, hr⟩; exact ⟨q.2, (pointAt_of_mem_zipIdx hq).1, hr⟩
  · rintro ⟨j, hj, hr⟩; exact ⟨_, mem_zipIdx_of_lt hj, hr⟩

/-- ASSIGN RANGE where the station owns a gp in range: each record in range written, then the admission check (R8). -/
theorem assignRange_records {first last : Nat} (net stp : Nat) (ro : Role) {s : State} (hs : awaitsNone s)
    (h : ¬ ∀ j < s.points.length, gpOf s j < first ∨ last < gpOf s j) :
    assignRange first last net stp ro s = { s with
      points := (assignRange first last net stp ro s).points
      matrix := { s.matrix with batches := (assignRange first last net stp ro s).matrix.batches } } ∧
    (assignRange first last net stp ro s).points.length = s.points.length ∧
    ∀ j < s.points.length, pointAt (assignRange first last net stp ro s) j =
      afterAdmission s j (rangePoint first last net stp ro s j (pointAt s j)) := by
  have he : assignRange first last net stp ro s = admissionCheck (mapPoints (rangePoint first last net stp ro s) s) :=
    if_pos ((range_owned_iff first last s).2 h)
  obtain ⟨hrest, hlen, hpoint⟩ := admissionCheck_records (s := mapPoints (rangePoint first last net stp ro s) s) hs
  rw [he]
  refine ⟨hrest, hlen.trans (by simp), fun j hj => (hpoint j (by simpa using hj)).trans (congrArg _ ?_)⟩
  exact pointAt_mapPoints _ s j hj

theorem assignRange_unowned {first last : Nat} (net stp : Nat) (ro : Role) {s : State}
    (h : ∀ j < s.points.length, gpOf s j < first ∨ last < gpOf s j) : assignRange first last net stp ro s = s :=
  if_neg fun k => (range_owned_iff first last s).1 k h

/-- ASSIGN RANGE taken as a general call: disregarded where the role is unknown, the arguments are out of order or a run is
active (R8). -/
theorem exec_assignRange {h : Header} {s : State} (first last net : Half) (stp role : Byte) (ht : takesGeneral h s = true)
    (hw : noFirstFrame s = true) : ∃ t, exec (.assignRange h first last net stp role) s = .next t ∧
      (roleOfCode role = none → t = { s with bus := heard s }) ∧
      ∀ ro, roleOfCode role = some ro →
        (rangeInOrder first.toNat last.toNat net.toNat stp.toNat = true ∧ ¬ runActive s = true →
          t = assignRange first.toNat last.toNat net.toNat stp.toNat ro { s with bus := heard s }) ∧
        (¬ (rangeInOrder first.toNat last.toNat net.toNat stp.toNat = true ∧ ¬ runActive s = true) →
          t = { s with bus := heard s }) := by
  refine ⟨_, congrArg Host.Outcome.next (request_general h 2 _ s ht hw), fun hn => ?_,
    fun ro hro => ⟨fun hg => ?_, fun hg => ?_⟩⟩
  · simp only [hn]
  · have hb : runActive { s with bus := heard s } = false := Bool.eq_false_of_not_eq_true hg.2
    simp only [hro, hg.1, hb, Bool.not_false, Bool.and_self, if_true]
  · simp only [hro]
    rw [if_neg]
    intro k
    simp only [Bool.and_eq_true, Bool.not_eq_true'] at k
    exact hg ⟨k.1, fun m => Bool.false_ne_true (k.2.symm.trans m)⟩

/-- The record of ASSIGN RANGE, written or left (R8). -/
theorem rangePoint_eq (first last net : Half) (stp : Byte) (ro : Role) (s : State) (j : Nat) (p : Point) :
    rangePoint first.toNat last.toNat net.toNat stp.toNat ro s j p =
      if first.toNat ≤ gpOf s j ∧ gpOf s j ≤ last.toNat ∧ s.matrix.override = .none ∧ busy s p = false then
        { p with net := if stp = 1 then net.toNat + (gpOf s j - first.toNat) else net.toNat, role := ro }
      else p := by
  have hs : stp.toNat = 1 ↔ stp = 1 := BitVec.toNat_inj (y := 1)
  simp only [rangePoint, rangeNet, assign, hs]

/-! ## CLEAR TABLE -/

/-- CLEAR TABLE writes the net and the role of every record alone (R9). -/
theorem clearTable_records (s : State) : clearTable s = { s with points := (clearTable s).points } ∧
    (clearTable s).points.length = s.points.length ∧
    ∀ j < s.points.length, pointAt (clearTable s) j = { pointAt s j with net := 0, role := .signal } :=
  ⟨rfl, by simp [clearTable], fun j hj => pointAt_mapPoints _ s j hj⟩

/-- Settles O4: what R8 lists is what the argument check refuses; the records written are those of the range, and the admission
check follows. CLEAR TABLE writes every record unless a run is active. -/
theorem netlistCallsWriteOwnedPoints : Obligations.NetlistCallsWriteOwnedPoints := by
  refine ⟨fun h first last net stp role s ht hw hl => ?_, fun h s hw => ⟨fun ht => ?_, fun ht => ?_⟩⟩
  · obtain ⟨t, hx, hnone, hsome⟩ := exec_assignRange first last net stp role ht hw
    refine ⟨t, hx, ?_⟩
    cases hro : roleOfCode role with
    | none => exact hnone hro
    | some ro =>
        obtain ⟨htaken, hleft⟩ := hsome ro hro
        simp only
        split
        · rename_i hc
          by_cases hg : rangeInOrder first.toNat last.toNat net.toNat stp.toNat = true ∧ ¬ runActive s = true
          · obtain hc | hc | hc := (disregarded_iff first last net stp _ _).1 hc
            · exact absurd hg.1 hc
            · exact absurd hc hg.2
            · rw [htaken hg]; exact assignRange_unowned _ _ _ hc
          · exact hleft hg
        · rename_i hc
          rw [disregarded_iff, not_or, not_or, not_not] at hc
          obtain ⟨hg, ha, ho⟩ := hc
          rw [htaken ⟨hg, ha⟩]
          obtain ⟨hrest, hlen, hpoint⟩ := assignRange_records net.toNat stp.toNat ro (s := { s with bus := heard s })
            (awaitsNone_of_inactive hl ha) ho
          exact ⟨hrest, hlen, fun j hj => (hpoint j hj).trans (congrArg _ (rangePoint_eq _ _ _ _ _ _ _ _))⟩
  · refine ⟨_, congrArg Host.Outcome.next (request_addressed h 3 _ s ht hw), ?_⟩
    simp only
    split
    · rename_i ha; rw [if_pos (by exact ha)]; exact refuse_answers ht 3 .runActive 0
    · rename_i ha
      rw [if_neg (by exact ha)]
      have he : reply h 3 [] (clearTable { s with bus := heard s }) =
          clearTable { s with bus := answered h (replyTo h 3 []) s } := queue_answers ht _ rfl rfl
      rw [he]
      exact clearTable_records { s with bus := answered h (replyTo h 3 []) s }
  · refine ⟨_, congrArg Host.Outcome.next (request_general h 3 _ s ht hw), ?_⟩
    simp only
    split
    · rename_i ha; exact if_pos ha
    · rename_i ha
      rw [if_neg (by exact ha)]
      exact clearTable_records { s with bus := heard s }

end Sys2Proof.Machine
end

section
/-! SET BLOCKS (R15), check by check (O5). -/

namespace Sys2Proof.Machine

/-! ## The arguments -/

/-- A kind number names a kind up to 4 (R14). -/
theorem kindOfNumber_isNone (b : Byte) : (kindOfNumber b).isNone = decide (4 < b.toNat) := by
  unfold kindOfNumber
  generalize b.toNat = n
  match n with
  | 0 | 1 | 2 | 3 | 4 => rfl
  | n + 5 => simp

/-- An allowed set is an argument byte up to 15 (R15). -/
theorem allowedOfCode_eq_none_iff (b : Byte) : allowedOfCode b = none ↔ 15 < b.toNat := by
  simp [allowedOfCode, Nat.succ_le_iff]

/-- A list is mapped throughout unless the mapping fails on one of its entries. -/
theorem mapM_eq_none_iff {α β : Type} (f : α → Option β) (l : List α) : l.mapM f = none ↔ ∃ a ∈ l, f a = none := by
  induction l with
  | nil => simp
  | cons a l ih =>
      rw [List.mapM_cons, List.exists_mem_cons_iff, ← ih]
      cases f a <;> cases l.mapM f <;> simp

/-- The kinds of SET BLOCKS are refused where one of the numbers names none. -/
theorem kinds_eq_none_iff (l : List Byte) : l.mapM kindOfNumber = none ↔ ∃ b ∈ l, 4 < b.toNat := by
  have hk : ∀ b, kindOfNumber b = none ↔ 4 < b.toNat := fun b => by
    rw [← Option.isNone_iff_eq_none, kindOfNumber_isNone, decide_eq_true_eq]
  simp only [mapM_eq_none_iff, hk]

/-- The selector of the refusal: the first block whose number names no kind. -/
theorem firstBadBlock_eq (l : List Byte) : firstBadBlock l = l.findIdx fun b => decide (4 < b.toNat) := by
  simp only [firstBadBlock, kindOfNumber_isNone]

/-- With every kind named the selector is that of the allowed set (R170). -/
theorem firstBadBlock_named {l : List Byte} (h : ¬ ∃ b ∈ l, 4 < b.toNat) : firstBadBlock l = l.length := by
  rw [firstBadBlock_eq, List.findIdx_eq_length]
  intro b hb
  exact decide_eq_false fun k => h ⟨b, hb, k⟩

/-! ## The checks -/

section
variable {h : Header} {kinds : Vector Byte 8} {allowed : Byte} {s : State}

theorem setBlocks_active (ha : runActive s = true) : setBlocks h kinds allowed s = refuse h 4 .runActive 0 s := if_pos ha

theorem setBlocks_busy (ha : ¬ runActive s = true) (hb : s.matrix.override ≠ .none ∨ s.points.any (busy s) = true) :
    setBlocks h kinds allowed s = refuse h 4 .busy 0 s := by
  rw [setBlocks, if_neg ha]
  exact if_pos hb

/-- SET BLOCKS with an argument out of range is refused (R15). -/
theorem setBlocks_range (ha : ¬ runActive s = true) (hb : ¬ (s.matrix.override ≠ .none ∨ s.points.any (busy s) = true))
    (hr : kinds.toList.mapM kindOfNumber = none ∨ allowedOfCode allowed = none) :
    setBlocks h kinds allowed s = refuse h 4 .range (firstBadBlock kinds.toList) s := by
  rw [setBlocks, if_neg ha, if_neg hb]
  split
  · rename_i hk hl; simp [hk, hl] at hr
  · rfl

/-- SET BLOCKS accepted stores its arguments and answers; the admission check follows where the kinds in force change (R14). -/
theorem setBlocks_accepted {manual : List Kind} {a : KindSet} (ha : ¬ runActive s = true)
    (hb : ¬ (s.matrix.override ≠ .none ∨ s.points.any (busy s) = true))
    (hk : kinds.toList.mapM kindOfNumber = some manual) (hl : allowedOfCode allowed = some a) :
    setBlocks h kinds allowed s =
      if (storeBlocks manual a s).blocks.records.map Block.kind = s.blocks.records.map Block.kind then
        reply h 4 (blocksBytes (storeBlocks manual a s)) (storeBlocks manual a s)
      else admissionCheck (reply h 4 (blocksBytes (storeBlocks manual a s)) (storeBlocks manual a s)) := by
  rw [setBlocks, if_neg ha, if_neg hb, hk, hl]

end

/-- What SET BLOCKS stores: both arguments, and with AUTODET low the records (R15). -/
theorem storeBlocks_blocks (manual : List Kind) (a : KindSet) (s : State) :
    (storeBlocks manual a s).blocks.manual = manual ∧ (storeBlocks manual a s).blocks.allowed = a ∧
    (storeBlocks manual a s).blocks.records = (if s.straps.autodet = true then s.blocks.records
      else manual.map fun k => { code := none, band := none, kind := k }) := by
  unfold storeBlocks
  simp only
  split <;> exact ⟨rfl, rfl, rfl⟩

/-- SET BLOCKS stores blocks alone. -/
theorem storeBlocks_only (manual : List Kind) (a : KindSet) (s : State) :
    storeBlocks manual a s = { s with blocks := (storeBlocks manual a s).blocks } := by
  unfold storeBlocks
  simp only
  split <;> rfl

/-- The records after an admission check made on a condition. -/
theorem admissionIf_records {p : Prop} [Decidable p] {u t : State} (h : awaitsNone u)
    (ht : t = if p then u else admissionCheck u) :
    t = { u with points := t.points, matrix := { u.matrix with batches := t.matrix.batches } } ∧
    t.points.length = u.points.length ∧
    ∀ j < u.points.length, pointAt t j = if p then pointAt u j else afterAdmission u j (pointAt u j) := by
  by_cases hp : p
  · rw [if_pos hp] at ht
    subst ht
    exact ⟨rfl, rfl, fun j _ => (if_pos hp).symm⟩
  · rw [if_neg hp] at ht
    subst ht
    obtain ⟨hrest, hlen, hpoint⟩ := admissionCheck_records h
    exact ⟨hrest, hlen, fun j hj => (hpoint j hj).trans (if_neg hp).symm⟩

/-- Settles O5: SET BLOCKS refuses by the first check that fails; accepted it stores the blocks, answers with the records as they
then stand, and the admission check follows where the kinds in force change. -/
theorem setBlocksJudgesInOrder : Obligations.SetBlocksJudgesInOrder := by
  intro h kinds allowed s ht hw hl
  let u : State := { s with bus := heard s }
  refine ⟨setBlocks h kinds allowed u, congrArg Host.Outcome.next (request_addressed h 4 _ s ht hw), ?_⟩
  have hr : ∀ why sel, refuse h 4 why sel u = { s with bus := answered h (refusal h 4 why (half sel)) s } := fun why sel =>
    refuse_answers ht 4 why sel
  by_cases ha : runActive s = true
  · rw [if_pos ha]; exact (setBlocks_active (s := u) ha).trans (hr _ _)
  rw [if_neg ha]
  by_cases hb : s.matrix.override ≠ .none ∨ s.points.any (busy s) = true
  · rw [if_pos hb]; exact (setBlocks_busy (s := u) ha hb).trans (hr _ _)
  rw [if_neg hb]
  by_cases hk : ∃ b ∈ kinds.toList, 4 < b.toNat
  · rw [if_pos hk, ← firstBadBlock_eq]
    exact (setBlocks_range (s := u) ha hb (.inl ((kinds_eq_none_iff _).2 hk))).trans (hr _ _)
  rw [if_neg hk]
  by_cases hs : 15 < allowed.toNat
  · rw [if_pos hs]
    refine (setBlocks_range (s := u) ha hb (.inr ((allowedOfCode_eq_none_iff _).2 hs))).trans ((hr _ _).trans ?_)
    rw [firstBadBlock_named hk, Vector.length_toList]
    rfl
  rw [if_neg hs]
  obtain ⟨manual, hm⟩ := Option.ne_none_iff_exists'.1 (mt (kinds_eq_none_iff kinds.toList).1 hk)
  obtain ⟨a, hal⟩ := Option.ne_none_iff_exists'.1 (mt (allowedOfCode_eq_none_iff allowed).1 hs)
  have hu := setBlocks_accepted (h := h) (s := u) ha hb hm hal
  obtain ⟨hman, hall, hrec⟩ := storeBlocks_blocks manual a u
  have hs1 := storeBlocks_only manual a u
  generalize (storeBlocks manual a u).blocks = x at hman hall hrec hs1
  have hs2 : reply h 4 (blocksBytes (storeBlocks manual a u)) (storeBlocks manual a u) =
      { s with blocks := x, bus := answered h (replyTo h 4 ((x.records.map blockBytes).flatten)) s } := by
    rw [hs1]
    exact queue_answers ht _ rfl rfl
  rw [hs2, hs1] at hu
  have hn : awaitsNone { s with blocks := x, bus := answered h (replyTo h 4 ((x.records.map blockBytes).flatten)) s } :=
    awaitsNone_of_inactive hl ha
  obtain ⟨hrest, hlen, hpoint⟩ := admissionIf_records hn hu
  have hx : (setBlocks h kinds allowed u).blocks = x := by rw [hrest]
  rw [hx]
  exact ⟨hman ▸ hm, hall ▸ hal, hman.symm ▸ hrec, hrest, hlen, hpoint⟩

end Sys2Proof.Machine
end

section
/-! SUPPORT. LIVE holds the HV relays (R29): what every shared operation but the forced FLOAT keeps of the relays while LIVE is seen
asserted, as one relation between the state before and the state after, which composes. -/

namespace Sys2Proof.Machine

/-- LIVE holds the HV relays from one state to another (R29): where LIVE is seen asserted it stays so, and no HV relay of a point
with agreeing fields moves. -/
structure HvHeld (s t : State) : Prop where
  live : s.lines.liveSeen = true → t.lines.liveSeen = true
  points : pointsLawful s = true → pointsLawful t = true
  relays : s.lines.liveSeen = true → pointsLawful s = true →
    ∀ j, (relayClosed (pointAt t j) = .hv ↔ relayClosed (pointAt s j) = .hv)

namespace HvHeld

theorem trans {s u t : State} (h : HvHeld s u) (k : HvHeld u t) : HvHeld s t where
  live := k.live ∘ h.live
  points := k.points ∘ h.points
  relays hl hp j := (k.relays (h.live hl) (h.points hp) j).trans (h.relays hl hp j)

/-- An operation that moves no point and does not release LIVE. -/
theorem ofLive {s t : State} (hp : t.points = s.points) (hl : s.lines.liveSeen = true → t.lines.liveSeen = true) :
    HvHeld s t :=
  ⟨hl, fun k => by simpa [pointsLawful, hp] using k, fun _ _ j => by rw [pointAt_congr hp]⟩

/-- An operation that leaves points and LIVE alone. -/
theorem ofSame {s t : State} (h : t.points = s.points ∧ t.lines.liveSeen = s.lines.liveSeen) : HvHeld s t :=
  .ofLive h.1 fun k => h.2.trans k

theorem refl (s : State) : HvHeld s s := .ofSame ⟨rfl, rfl⟩

/-- An operation that changes each record by itself: the agreement of its fields stays, and under LIVE so does its HV relay. -/
theorem ofEach {s t : State} (hn : t.points.length = s.points.length) (hl : t.lines.liveSeen = s.lines.liveSeen)
    (hp : ∀ j, pointLawful (pointAt s j) = true → pointLawful (pointAt t j) = true ∧
      (s.lines.liveSeen = true → (relayClosed (pointAt t j) = .hv ↔ relayClosed (pointAt s j) = .hv))) : HvHeld s t :=
  ⟨fun k => hl.trans k,
    fun k => have ⟨k1, k2⟩ := (pointsLawful_iff s).1 k
      (pointsLawful_iff t).2 ⟨hn.trans k1, fun j => (hp j (k2 j)).1⟩,
    fun k k' j => (hp j (((pointsLawful_iff s).1 k').2 j)).2 k⟩

/-- An operation that keeps switch, pending and stage of every record. -/
theorem ofSwitching {s t : State} (hn : t.points.length = s.points.length) (hl : t.lines.liveSeen = s.lines.liveSeen)
    (hp : ∀ j, (pointAt t j).switch = (pointAt s j).switch ∧ (pointAt t j).pending = (pointAt s j).pending ∧
      (pointAt t j).stage = (pointAt s j).stage) : HvHeld s t :=
  .ofEach hn hl fun j hj => by
    obtain ⟨h1, h2, h3⟩ := hp j
    exact ⟨by simpa [pointLawful, h1, h2, h3] using hj, fun _ => by simp [relayClosed, h1, h3]⟩

end HvHeld

/-! ## Points and batches -/

/-- An update of every record, by its local index. -/
theorem mapPoints_hv {s : State} (f : Nat → Point → Point) (hf : ∀ j p, pointLawful p = true →
    pointLawful (f j p) = true ∧ (s.lines.liveSeen = true → (relayClosed (f j p) = .hv ↔ relayClosed p = .hv))) :
    HvHeld s (mapPoints f s) :=
  .ofEach (by simp) rfl (pointAt_mapPoints_keeps (fun _ p q => pointLawful p = true → pointLawful q = true ∧
    (s.lines.liveSeen = true → (relayClosed q = .hv ↔ relayClosed p = .hv))) f s (fun _ k => ⟨k, fun _ => .rfl⟩) hf)

/-- An update of every record that keeps its switching moves no relay. -/
theorem mapPoints_switching_hv (f : Nat → Point → Point)
    (hf : ∀ j p, (f j p).switch = p.switch ∧ (f j p).pending = p.pending ∧ (f j p).stage = p.stage) (s : State) :
    HvHeld s (mapPoints f s) :=
  .ofSwitching (by simp) rfl (pointAt_mapPoints_keeps (fun _ p q => q.switch = p.switch ∧ q.pending = p.pending ∧
    q.stage = p.stage) f s (fun _ => ⟨rfl, rfl, rfl⟩) hf)

/-- An update of one record that keeps its switching moves no relay. -/
theorem updatePoint_hv (i : Nat) (f : Point → Point)
    (hf : ∀ p, (f p).switch = p.switch ∧ (f p).pending = p.pending ∧ (f p).stage = p.stage) (s : State) :
    HvHeld s (updatePoint i f s) := by
  refine .ofSwitching (by simp) rfl fun j => ?_
  rcases Nat.lt_or_ge j s.points.length with hj | hj
  · rw [pointAt_updatePoint i j f s hj]
    split
    · exact hf _
    · exact ⟨rfl, rfl, rfl⟩
  · rw [pointAt_beyond s j hj, pointAt_beyond _ j (by simpa using hj)]; exact ⟨rfl, rfl, rfl⟩

/-- A batch request moves no HV relay under LIVE (R25, R27, R29). -/
theorem requestBatch_hv (why : Purpose) (targets : List (Nat × Switch)) (s : State) :
    HvHeld s (requestBatch why targets s) := by
  cases hs : heldAtFloat s
  · refine .trans (u := mapPoints (requestedPoint targets s) s) (mapPoints_hv _ fun j p hp => ?_)
      (.ofSame ⟨requestBatch_maps why targets s hs, by simp⟩)
    unfold requestedPoint
    split
    · exact ⟨requestPoint_lawful _ _ _ _ hp, fun hl => by rw [hl]; exact requestPoint_keeps_hv _ _ _ hp⟩
    · exact ⟨hp, fun _ => .rfl⟩
  · exact .ofSame ⟨requestBatch_held why targets s hs, by simp⟩

/-- A batch moves no HV relay under LIVE. -/
theorem batch_hv (why : Purpose) (targets : List (Nat × Switch)) (s : State) : HvHeld s (batch why targets s) :=
  (requestBatch_hv why targets s).trans (.ofSame (by simp [batch]))

/-- A FLOAT batch moves no HV relay under LIVE. -/
theorem floatAll_hv (why : Purpose) (s : State) : HvHeld s (floatAll why s) := batch_hv why _ s

/-- The admission check moves no HV relay under LIVE (R6). -/
theorem admissionCheck_hv (s : State) : HvHeld s (admissionCheck s) := batch_hv _ _ s

/-- The end of break or settle times moves no HV relay under LIVE where that of each point does not. -/
theorem timesEnd_hv {s : State} (f : Nat → Point → Point) (hf : ∀ j p, pointLawful p = true →
    pointLawful (f j p) = true ∧ (s.lines.liveSeen = true → (relayClosed (f j p) = .hv ↔ relayClosed p = .hv))) :
    HvHeld s (reportAll (dropReached (mapPoints f s))) :=
  (mapPoints_hv f hf).trans (.ofSame (by simp [dropReached]))

/-! ## Phases and run ends -/

/-- Entering COMPLETE (R82). -/
theorem enterComplete_hv (s : State) : HvHeld s (enterComplete s) :=
  .trans (.ofSame (by simp [setRun])) (floatAll_hv _ _)

/-- The insulation entry (R81, R113). -/
theorem insulationEntry_hv (fromPrepare inProgress : Bool) (s : State) :
    HvHeld s (insulationEntry fromPrepare inProgress s) := by
  unfold insulationEntry
  simp only
  split
  · exact .trans (.ofSame (by simp)) (enterComplete_hv _)
  · split
    · exact .trans (.ofSame (by simp)) (enterComplete_hv _)
    · refine .ofSame ?_
      split <;> simp [markStep]

/-- The end work of the sweep (R107, R108). -/
theorem sweepEnd_hv (s : State) : HvHeld s (sweepEnd s) := by
  have h1 : ∀ u, HvHeld u (assertHold (setSweepStage .ending (withdraw 2 u))) := fun u => .ofSame (by simp)
  have h2 : ∀ ds u, HvHeld u (offerAll ds u) := fun ds u => .ofSame (by simp)
  have h3 : ∀ u, HvHeld u (reportAll (if checkWillRun u then offerAll (notTestedOffers u) u else u)) := fun u =>
    .ofSame (by split <;> simp)
  exact (h1 s).trans ((h2 _ _).trans ((requestBatch_hv .endFloat _ _).trans (h3 _)))

/-- The outcome "first frame" (R92, R115). -/
theorem phaseEnd_hv (s : State) : HvHeld s (phaseEnd s) := by
  unfold phaseEnd
  split
  · exact sweepEnd_hv s
  · split
    · exact .trans (.ofSame (by simp)) (enterComplete_hv _)
    · exact .refl s

/-- A run end (R83). -/
theorem runEnd_hv (cause : Cause) (loc : Where) (s : State) : HvHeld s (runEnd cause loc s) := by
  have h1 : HvHeld s (abandonJob (timerStop (setWindow .off (withdrawClassOne (offer (.runEnd cause loc) s))))) :=
    .ofSame (by simp)
  have h2 : ∀ u, HvHeld u (if inInterval u then enterFollowing u else u) := fun u => .ofSame (by split <;> simp)
  have h3 : ∀ r u, HvHeld u (stopSummary (raise .runEnded (floatAll .runEnd (releaseHold (setRun r u))))) := fun r u =>
    .trans (.ofSame (by simp)) ((floatAll_hv .runEnd (releaseHold (setRun r u))).trans (.ofSame (by simp)))
  exact h1.trans ((h2 _).trans (h3 _ _))

/-- The end of an active run. -/
theorem endActiveRun_hv (cause : Cause) (s : State) : HvHeld s (endActiveRun cause s) := by
  unfold endActiveRun
  split
  · exact runEnd_hv _ _ _
  · exact .refl s

/-! ## Frames, barriers and requests -/

/-- A frame end moves no HV relay under LIVE where the effect of the frame does not (R42). -/
theorem frameEnd_hv (f : Frame) {act : Bool → State → State} (ha : ∀ own u, HvHeld u (act own u)) (s : State) :
    HvHeld s (frameEnd f act s) := by
  rcases frameEnd_cases f act s with h | ⟨-, h⟩ | ⟨-, t, ht, h⟩
  · rw [h]; exact .refl s
  · rw [h]; exact .ofSame ⟨rfl, rfl⟩
  · have hk : HvHeld s t := ht ▸ HvHeld.trans (u := { s with bus := frameSeen f s }) (.ofSame ⟨rfl, rfl⟩) (ha _ _)
    have hf : HvHeld t (firstFrame (kindCode f.payload) t) := by
      unfold firstFrame
      split
      · exact .refl t
      · exact phaseEnd_hv t
    rcases h with h | h <;> rw [h]
    · exact hk
    · exact hk.trans hf

/-- A run-protocol frame, where its effect moves none. -/
theorem runFrame_hv (r : Route) (p : Payload) {act : Bool → State → State} (ha : ∀ own u, HvHeld u (act own u))
    (s : State) : HvHeld s (runFrame r p act s) :=
  frameEnd_hv _ (fun own u => by split <;> [exact ha own u; exact .refl u]) s

/-- A request, where its effect moves none in any form. -/
theorem request_hv (h : Header) (code : Nat) {act : Form → State → State} (ha : ∀ form u, HvHeld u (act form u))
    (s : State) : HvHeld s (request h code act s) :=
  frameEnd_hv _ (fun _ u => ha _ u) s

/-- A refusal (R170). -/
theorem refuse_hv (h : Header) (code : Nat) (why : RefusalCode) (sel : Nat) (s : State) :
    HvHeld s (refuse h code why sel s) := .ofSame (by simp)

/-- A reply (R168). -/
theorem reply_hv (h : Header) (code : Nat) (d : List Byte) (s : State) : HvHeld s (reply h code d s) := .ofSame (by simp)

/-- The assertion of LIVE moves no point (R55). -/
theorem assertLive_hv (s : State) : HvHeld s (assertLive s) := by
  refine .ofLive (by simp) fun h => ?_
  unfold assertLive
  split
  · exact h
  · exact (congrArg (fun u : State => u.lines.liveSeen) (if_pos h)).trans h

/-- The end of PREPARE (R79, R80). -/
theorem prepareEnd_hv (inProgress : Bool) (s : State) : HvHeld s (prepareEnd inProgress s) := by
  have h1 : HvHeld s (if s.straps.hvsrc && s.run.elected == some (addr s) then setHv { s.hv with elected := true } s
      else s) := .ofSame (by split <;> simp)
  have h2 : ∀ u, HvHeld u (if u.run.sweepOn then sweepEntry inProgress u else insulationEntry true inProgress u) :=
    fun u => by
      split
      · exact .ofSame (by simp [sweepEntry, markStep])
      · exact insulationEntry_hv _ _ _
  exact h1.trans (h2 _)

/-- The end of the drive barrier (R101). -/
theorem driveBarrierEnd_hv (s : State) : HvHeld s (driveBarrierEnd s) := by
  have h1 : HvHeld s (setSweepStage .awaitingRef s) := .ofSame (by simp)
  unfold driveBarrierEnd
  simp only
  split
  · exact h1
  · rename_i gp _
    have h2 : ∀ u, HvHeld u (batch .toSense [(localOf gp, .sense)]
        (updatePoint (localOf gp) (fun p => { p with driven := true, leader := some gp }) u)) := fun u =>
      (updatePoint_hv _ (fun p => { p with driven := true, leader := some gp }) (fun _ => ⟨rfl, rfl, rfl⟩) u).trans
        (batch_hv _ _ _)
    split
    · exact h1.trans ((h2 _).trans (.ofSame (by simp)))
    · exact h1.trans (h2 _)

/-- The end of the switching barrier (R118): LIVE is asserted at the source. -/
theorem hvIntervalStart_hv (s : State) : HvHeld s (hvIntervalStart s) := by
  unfold hvIntervalStart
  split
  · exact .trans (.ofSame (by simp [startEngine])) (assertLive_hv _)
  · exact .ofSame (by simp)

/-- What HOLD seen released completes (R77, R80, R81, R101, R104, R118, R132, R133). -/
theorem barrierEnd_hv (inProgress : Bool) (s : State) : HvHeld s (barrierEnd inProgress s) := by
  have hc : ∀ u, HvHeld u (bidNet (setInsStage .bidding (markStep inProgress (timerStop u)))) := fun u =>
    .ofSame (by simp [markStep])
  have hstop : HvHeld s (timerStop s) := .ofSame (by simp)
  have hgo : HvHeld s (timerRestart .running s) := .ofSame (by simp)
  unfold barrierEnd
  split
  · exact hstop.trans (prepareEnd_hv _ _)
  · split
    · exact hgo.trans (driveBarrierEnd_hv _)
    · exact .ofSame (by simp [stepCompletion, markStep])
    · exact hstop.trans (insulationEntry_hv _ _ _)
    · exact hstop
  · split
    · exact hgo.trans (hvIntervalStart_hv _)
    · exact (floatAll_hv _ s).trans (hc _)
    · exact hc s
    · exact hstop
  · exact .refl s

/-! ## Run frames -/

/-- The opening of a sweep step (R93, R94). -/
theorem openSweepStep_hv (src gp net : Nat) (s : State) : HvHeld s (openSweepStep src gp net s) := by
  unfold openSweepStep
  simp only
  split
  · exact .trans (.ofSame (by simp)) (batch_hv _ _ _)
  · exact .ofSame (by simp)

/-- The classification of a step writes run fields alone (R70, R105, R106). -/
theorem classifyStep_hv (d : Drive) (ref : Nat) (s : State) : HvHeld s (classifyStep d ref s) := by
  have hu : ∀ i (f : Point → Point) u, (∀ p, (f p).switch = p.switch ∧ (f p).pending = p.pending ∧ (f p).stage = p.stage) →
      HvHeld u (updatePoint i f u) := fun i f u hf => updatePoint_hv i f hf u
  have hl : ∀ i l u, HvHeld u (updatePoint i (fun p => { p with last := l }) u) := fun i l u =>
    hu i _ u fun _ => ⟨rfl, rfl, rfl⟩
  have hd : ∀ i u, HvHeld u (updatePoint i (fun p => { p with leader := some d.gp }) u) := fun i u =>
    hu i _ u fun _ => ⟨rfl, rfl, rfl⟩
  have hs : ∀ i c r u, HvHeld u (readSameNet d i c r u) := fun i c r u => by
    unfold readSameNet
    split
    · exact .refl u
    · exact hd i u
    · exact (hd i u).trans (.ofSame (by simp))
    · refine .ofSame ?_
      split <;> simp
  have ho : ∀ n c r u, HvHeld u (readOtherNet d n c r u) := fun n c r u => by
    refine .ofSame ?_
    unfold readOtherNet
    simp only
    split <;> simp [updateNet]
  have hp : ∀ limits i u, HvHeld u (classifyPoint d ref limits i u) := fun limits i u => by
    unfold classifyPoint
    simp only
    split
    · split
      · exact (hl _ _ u).trans (hs _ _ _ _)
      · exact (hl _ _ u).trans (ho _ _ _ _)
    · exact .refl u
  unfold classifyStep
  generalize List.range s.points.length = l
  generalize (s.params.l, effectiveH s.params) = limits
  induction l generalizing s with
  | nil => exact .refl s
  | cons i l ih => exact (hp limits i s).trans (ih _)

/-- The step's REF (R102, R103). -/
theorem takeRef_hv (gp code : Nat) (weak : Bool) (s : State) : HvHeld s (takeRef gp code weak s) := by
  have h1 : HvHeld s (assertHold (timerStop (setSweepStage .classifying s))) := .ofSame (by simp)
  have h2 : ∀ u, HvHeld u (if weak then (if drivenHere u = some gp then offer (.driveFault gp code) u else u)
      else classifyStep { gp := gp, net := u.run.driveNet } code (updateNet u.run.driveNet (leadNet gp) u)) := fun u => by
    split
    · refine .ofSame ?_
      split <;> simp
    · exact .trans (.ofSame (by simp [updateNet])) (classifyStep_hv _ _ _)
  have h3 : ∀ u, HvHeld u (setSweepStage .stepReleased (releaseHold u)) := fun u => .ofSame (by simp)
  exact h1.trans ((h2 _).trans (h3 _))

/-- The opening of an insulation step (R116, R117). -/
theorem openInsStep_hv (n : Nat) (vetoed : Bool) (s : State) : HvHeld s (openInsStep n vetoed s) := by
  unfold openInsStep
  simp only
  split
  · exact .ofSame (by simp [markStep, updateNet])
  · exact .trans (.ofSame (by simp)) (batch_hv _ _ _)

/-- The step's RESULT (R132, R87). -/
theorem takeResult_hv (n : Nat) (verdict : Byte) (s : State) : HvHeld s (takeResult n verdict s) := by
  unfold takeResult
  simp only
  split
  · exact .trans (.ofSame (by simp [updateNet])) (runEnd_hv _ _ _)
  · exact .trans (.ofSame (by simp [updateNet])) (floatAll_hv _ _)

/-- The source's own RESULT (R131). -/
theorem takeOwnResult_hv (n : Nat) (verdict : Byte) (s : State) : HvHeld s (takeOwnResult n verdict s) := by
  have h1 : HvHeld s (recordVerdict n s) := by
    refine .ofSame ?_
    unfold recordVerdict
    split
    · exact ⟨rfl, rfl⟩
    · split <;> simp
  refine h1.trans (.trans ?_ (takeResult_hv _ _ _))
  exact .ofSame (by split <;> simp [quietEngine])

/-! ## Requests -/

/-- ASSIGN NET (R7). -/
theorem assignNet_hv (h : Header) (gp net : Nat) (role : Byte) (s : State) : HvHeld s (assignNet h gp net role s) := by
  unfold assignNet
  split
  · exact refuse_hv _ _ _ _ s
  split
  · exact refuse_hv _ _ _ _ s
  split
  · exact refuse_hv _ _ _ _ s
  split
  · exact refuse_hv _ _ _ _ s
  · exact (updatePoint_hv _ (assign net _) (fun _ => ⟨rfl, rfl, rfl⟩) s).trans
      ((reply_hv _ _ _ _).trans (admissionCheck_hv _))

/-- ASSIGN RANGE (R8). -/
theorem assignRange_hv (first last net stp : Nat) (role : Role) (s : State) :
    HvHeld s (assignRange first last net stp role s) := by
  unfold assignRange
  split
  · exact (mapPoints_switching_hv _ (fun j p => rangePoint_switching first last net stp role s j p) s).trans
      (admissionCheck_hv _)
  · exact .refl s

/-- CLEAR TABLE (R9). -/
theorem clearTable_hv (s : State) : HvHeld s (clearTable s) :=
  mapPoints_switching_hv (fun _ p => assign 0 .signal p) (fun _ _ => ⟨rfl, rfl, rfl⟩) s

/-- SET BLOCKS (R15). -/
theorem setBlocks_hv (h : Header) (kinds : Vector Byte 8) (allowed : Byte) (s : State) :
    HvHeld s (setBlocks h kinds allowed s) := by
  have hs : ∀ manual a, HvHeld s (storeBlocks manual a s) := fun manual a => .ofSame (by
    unfold storeBlocks
    simp only
    split <;> simp)
  unfold setBlocks
  split
  · exact refuse_hv _ _ _ _ s
  split
  · exact refuse_hv _ _ _ _ s
  split
  · simp only
    split
    · exact (hs _ _).trans (reply_hv _ _ _ _)
    · exact (hs _ _).trans ((reply_hv _ _ _ _).trans (admissionCheck_hv _))
  · exact refuse_hv _ _ _ _ s

/-- An accepted START RUN (R76, R78): the PREPARE batch follows the calibration. -/
theorem startRun_hv (number : Nat) (ids : IdCodes) (s : State) : HvHeld s (prepareWork ids (acceptRun number s)) := by
  have h1 : ∀ u, HvHeld u (if u.print.pass then endPass .cut u else u) := fun u => .ofSame (by
    split <;> simp [endPass])
  have h2 : ∀ u, HvHeld u (endDump u) := fun u => .ofSame (by
    unfold endDump
    split
    · split <;> simp [cancelContext, queueEnd]
    · exact ⟨rfl, rfl⟩)
  have h3 : ∀ u : State, HvHeld u (setDefects Defects.empty { u with
      bus := { u.bus with silent := false, errors := 0 }, matrix := { u.matrix with override := .none } }) := fun u =>
    .ofSame ⟨rfl, rfl⟩
  have h4 : ∀ (r : Run) u, HvHeld u (assertHold (timerRestart .running
      { setHv { u.hv with elected := false } (setRun r u) with
        decoder := { (setHv { u.hv with elected := false } (setRun r u)).decoder with summary := some 0 } })) := fun r u =>
    .ofSame (by simp)
  have ha : HvHeld s (acceptRun number s) := ((h1 s).trans (h3 _)).trans ((h2 _).trans (h4 _ _))
  have hc : ∀ u, HvHeld u (mapPoints (fun _ p => clearRunFields p) u) :=
    mapPoints_switching_hv _ fun _ _ => ⟨rfl, rfl, rfl⟩
  exact ha.trans ((hc _).trans (.ofSame (by simp [prepareWork])))

/-- SET SWITCH (R39). -/
theorem setSwitch_hv (h : Header) (gp : Nat) (target : Byte) (s : State) : HvHeld s (setSwitch h gp target s) := by
  unfold setSwitch
  simp only
  split
  · exact refuse_hv _ _ _ _ s
  split
  · exact refuse_hv _ _ _ _ s
  split
  · exact refuse_hv _ _ _ _ s
  split
  · exact refuse_hv _ _ _ _ s
  split
  · exact refuse_hv _ _ _ _ s
  split
  · exact refuse_hv _ _ _ _ s
  split
  · exact refuse_hv _ _ _ _ s
  · exact (reply_hv _ _ _ s).trans (batch_hv _ _ _)

/-- MATRIX OVERRIDE RETURN (R37). -/
theorem overrideReturn_hv (s : State) : HvHeld s (overrideReturn s) := by
  unfold overrideReturn
  split
  · exact .ofSame (by simp)
  · split
    · exact .refl s
    · exact .trans (u := setOverride .ret s) (.ofSame ⟨rfl, rfl⟩) (batch_hv _ _ _)

/-- MATRIX OVERRIDE OFF (R38). -/
theorem overrideOff_hv (s : State) : HvHeld s (overrideOff s) := by
  unfold overrideOff
  split
  · exact .refl s
  · exact .ofSame ⟨rfl, rfl⟩
  · exact .trans (u := setOverride .none s) (.ofSame ⟨rfl, rfl⟩) (floatAll_hv _ _)

end Sys2Proof.Machine
end

section
/-! While LIVE is seen asserted no command moves an HV relay, but for a forced FLOAT (R29), command by command (O59). -/

namespace Sys2Proof.Machine

/-- The commands that force FLOAT by what they are (R31), and the one that ends the hold (R30). -/
def movesUnderLive : Instr → Bool
  | .estopAsserted => true
  | .matrixOverrideFloat _ => true
  | .liveSeenReleased => true
  | c => mayReset c || isPowerUp c

/-- Every other request moves no HV relay under LIVE. -/
theorem exec_request_hv {c : Instr} {s t : State} (hc : (requestOf c).isSome = true) (hm : movesUnderLive c = false)
    (hx : exec c s = .next t) : HvHeld s t := by
  cases c <;> cases hc <;> cases hm <;> cases hx
  case assignNet =>
    refine request_hv _ _ (fun form u => ?_) s
    split
    · exact assignNet_hv _ _ _ _ u
    · exact .refl u
  case assignRange =>
    refine request_hv _ _ (fun form u => ?_) s
    cases form
    · exact .refl u
    · exact refuse_hv _ _ _ _ u
    · simp only
      split
      · exact .refl u
      · split
        · exact assignRange_hv _ _ _ _ _ u
        · exact .refl u
  case clearTable =>
    refine request_hv _ _ (fun form u => ?_) s
    cases form
    · exact .refl u
    · simp only
      split
      · exact refuse_hv _ _ _ _ u
      · exact (clearTable_hv u).trans (reply_hv _ _ _ _)
    · simp only
      split
      · exact .refl u
      · exact clearTable_hv u
  case setBlocks =>
    refine request_hv _ _ (fun form u => ?_) s
    split
    · exact setBlocks_hv _ _ _ u
    · exact .refl u
  case startRun =>
    refine request_hv _ _ (fun form u => ?_) s
    split
    · exact .refl u
    · exact .ofSame (by simp)
    · exact startRun_hv _ _ u
    · exact .ofSame (by simp)
    · exact (reply_hv _ _ _ u).trans (startRun_hv _ _ _)
  case setSwitch =>
    refine request_hv _ _ (fun form u => ?_) s
    split
    · exact setSwitch_hv _ _ _ u
    · exact .refl u
  case matrixOverrideReturn =>
    refine request_hv _ _ (fun form u => ?_) s
    cases form
    · exact .refl u
    · exact refuse_hv _ _ _ _ u
    · exact overrideReturn_hv u
  case matrixOverrideOff =>
    refine request_hv _ _ (fun form u => ?_) s
    cases form
    · exact .refl u
    · exact refuse_hv _ _ _ _ u
    · exact overrideOff_hv u
  -- the remaining requests move no point
  all_goals refine request_hv _ _ (fun form u => .ofSame ?_) s
  case profileSegment | profileLength | stopPrint =>
    cases form
    · exact ⟨rfl, rfl⟩
    · simp
    · simp only
      split <;> simp [storeSegment, endPass]
  case runParameters | setWatch => cases form <;> simp
  case print =>
    cases form
    · exact ⟨rfl, rfl⟩
    · simp
    · simp only
      split
      · unfold rebid
        split <;> simp [startPass, clearMarks]
      · simp
  case continueRun => split <;> simp [resumeHalt]
  case queryPoint =>
    split
    · unfold queryPoint
      split
      · simp
      split <;> simp [openContext]
    · exact ⟨rfl, rfl⟩
  case dumpPoints =>
    split
    · unfold dumpPoints
      split
      · simp
      split
      · simp
      split
      · simp
      split <;> simp [openContext]
    · exact ⟨rfl, rfl⟩
  case dumpDefects =>
    split
    · split <;> simp [openContext]
    · exact ⟨rfl, rfl⟩
  case queryStatus => split <;> (try split) <;> simp
  case clearEvents | setNoticeMask | unknownRequest => split <;> simp
  case cancel => split <;> (try split) <;> simp [cancelContext, queueEnd]

/-- Every other frame moves no HV relay under LIVE. -/
theorem exec_frame_hv {c : Instr} {s t : State} (hf : (frameKind c).isSome = true) (hr : requestOf c = none)
    (hm : movesUnderLive c = false) (hx : exec c s = .next t) : HvHeld s t := by
  cases c <;> cases hf <;> cases hr <;> cases hm <;> cases hx
  case otherCleanFrame => exact frameEnd_hv _ (fun _ u => .refl u) s
  case abort =>
    refine frameEnd_hv _ (fun _ u => ?_) s
    split
    · exact endActiveRun_hv _ _
    · exact .refl u
  case driveFrame =>
    refine runFrame_hv _ _ (fun _ u => ?_) s
    split
    · exact openSweepStep_hv _ _ _ _
    · exact .refl u
  case refFrame =>
    refine runFrame_hv _ _ (fun _ u => ?_) s
    split
    · exact takeRef_hv _ _ _ _
    · exact .refl u
  case netFrame =>
    refine runFrame_hv _ _ (fun _ u => ?_) s
    split
    · exact openInsStep_hv _ _ _
    · exact .refl u
  case resultFrame =>
    refine runFrame_hv _ _ (fun own u => ?_) s
    split
    · split
      · exact takeResult_hv _ _ _
      · exact takeOwnResult_hv _ _ _
      · exact .refl u
    · exact .refl u
  case sourceReady =>
    refine runFrame_hv _ _ (fun own u => .ofSame ?_) s
    split
    · simp only
      split <;> simp
    · exact ⟨rfl, rfl⟩
  case halted =>
    refine runFrame_hv _ _ (fun own u => .ofSame ?_) s
    split
    · unfold timerHalt
      simp only
      split <;> split <;> simp
    · exact ⟨rfl, rfl⟩
  case credit =>
    refine frameEnd_hv _ (fun _ u => .ofSame ?_) s
    split
    · unfold takeCredit rebid
      simp only
      split
      · split <;> simp
      · simp
    · exact ⟨rfl, rfl⟩
  case line =>
    refine runFrame_hv _ _ (fun _ u => .ofSame ?_) s
    unfold takeLine rebid
    simp only
    split
    · simp [markLine]
    · split
      · simp [markLine, endPass]
      · split <;> simp [markLine]
  case dataFrame =>
    refine frameEnd_hv _ (fun own u => .ofSame ?_) s
    split
    · unfold dataSent
      split
      · exact ⟨rfl, rfl⟩
      · split <;> simp
    · exact ⟨rfl, rfl⟩
  case endFrame =>
    refine frameEnd_hv _ (fun own u => .ofSame ?_) s
    split <;> simp

/-- Entry to SILENT leaves the station SILENT (R50). -/
theorem enterSilent_silent (s : State) : (enterSilent s).bus.silent = true := by
  unfold enterSilent
  simp only
  split <;> split <;> simp

/-- A SILENT station transmits no frame: its slot is empty (R51). -/
theorem ownBegun_silent (seen : RawFrame) {s : State} (hs : slotLawful s = true) (h : s.bus.silent = true) :
    ownBegun seen s = none := by
  have he : s.bus.slot = [] := by
    simp only [slotLawful, h, Bool.or_true, Bool.not_true, Bool.false_or, Bool.and_eq_true] at hs
    exact List.isEmpty_iff.1 hs.2
  simp [ownBegun, he]

/-- A frame end with ERR by which no station enters SILENT moves no HV relay under LIVE (R50): a SILENT station does not enter it
again. -/
theorem frameErrEnd_hv (seen : RawFrame) {s : State} (hs : slotLawful s = true)
    (hq : (frameErrEnd seen s).bus.silent = s.bus.silent) : HvHeld s (frameErrEnd seen s) := by
  cases h : s.bus.silent
  · rcases frameErrEnd_cases seen s with e | ⟨-, b, -, -, e | e⟩
    · rw [e]; exact .refl s
    · rw [e]; exact .ofSame ⟨rfl, rfl⟩
    · rw [e, enterSilent_silent, h] at hq; cases hq
  · refine .ofSame ?_
    unfold frameErrEnd
    split
    · exact ⟨rfl, rfl⟩
    · simp [ownBegun_silent seen hs h]

/-- Every other event moves no HV relay under LIVE. -/
theorem exec_event_hv {c : Instr} {s t : State} (hf : frameKind c = none) (he : ofEngine c = false)
    (hm : movesUnderLive c = false) (hs : slotLawful s = true) (hq : t.bus.silent = s.bus.silent)
    (hx : exec c s = .next t) : HvHeld s t := by
  cases c <;> cases hf <;> cases he <;> cases hm <;> cases hx
  case estopReleased | busIntegration => exact .ofSame ⟨rfl, rfl⟩
  case holdSeenAsserted => exact .ofSame (by split <;> simp)
  case holdSeenReleased busy =>
    split
    · exact .trans (u := { s with lines := { s.lines with holdSeen := false } }) (.ofSame ⟨rfl, rfl⟩) (barrierEnd_hv busy _)
    · exact .refl s
  case liveSeenAsserted =>
    split
    · exact .refl s
    · rename_i hl; exact .ofLive (by simp) fun k => absurd k hl
  case beginFrame =>
    refine .ofSame ?_
    unfold beginOffered
    split
    · exact ⟨rfl, rfl⟩
    · split <;> simp
  case frameErr seen => exact frameErrEnd_hv seen hs hq
  case bidWindowExpired =>
    split
    · exact .trans (.ofSame (by simp)) (phaseEnd_hv _)
    · exact .refl s
  case delayedRequestService =>
    refine .ofSame ?_
    unfold serve
    split
    · exact ⟨rfl, rfl⟩
    split
    · exact ⟨rfl, rfl⟩
    split
    · simp
    · split <;> simp [queueEnd]
  case stepTimeout =>
    split
    · exact endActiveRun_hv _ _
    · exact .refl s
  case stallTimerExpiry => exact .ofSame (by split <;> (try split) <;> simp [endPass])
  case summaryTimerExpiry =>
    refine .ofSame ?_
    split
    · simp only
      split <;> simp
    · exact ⟨rfl, rfl⟩
  case breakTimeEnd =>
    refine timesEnd_hv _ fun j p hp => ?_
    split
    · exact ⟨breakEnds_lawful _ _ _ hp, fun hl => by rw [hl]; exact breakEnds_keeps_hv _ p⟩
    · exact ⟨hp, fun _ => .rfl⟩
  case settleTimeEnd =>
    refine timesEnd_hv _ fun j p hp => ?_
    split
    · exact ⟨settleEnds_lawful _ _ hp, fun hl => by rw [hl]; exact settleEnds_keeps_hv p⟩
    · exact ⟨hp, fun _ => .rfl⟩
  case settleWaitEnd =>
    refine .ofSame ?_
    split
    · simp only
      split <;> simp
    · exact ⟨rfl, rfl⟩
  case calibrationComplete codes =>
    split
    · have h1 : ∀ (p : Prop) [Decidable p] x, HvHeld s (if p then setSampler x s else raise .offsetLimit (setSampler x s)) :=
        fun p _ x => .ofSame (by split <;> simp)
      have h2 : ∀ u, HvHeld u (if u.run.state = .prepare then batch .prepare (targetsBy u (prepareTarget u)) u else u) :=
        fun u => by
          split
          · exact batch_hv _ _ u
          · exact .refl u
      exact (h1 _ _).trans (h2 _)
    · exact .refl s
  case samplingPassComplete => exact .ofSame (by split <;> simp [finishPass])

/-- Settles O59: the relation composes over every command that forces no FLOAT. -/
theorem liveHoldsTheHvRelays : Obligations.LiveHoldsTheHvRelays := by
  intro c s t hp hs hl hx h1 h2 h3 h4 h5 hq j _
  have hm : movesUnderLive c = false := by
    unfold movesUnderLive
    split
    · exact absurd rfl h1
    · exact absurd rfl (h2 _)
    · exact absurd rfl h5
    · simp [h3, h4]
  cases hf : frameKind c with
  | some k =>
      cases hr : requestOf c with
      | some r => exact (exec_request_hv (by simp [hr]) hm hx).relays hl hp j
      | none => exact (exec_frame_hv (by simp [hf]) hr hm hx).relays hl hp j
  | none =>
      cases he : ofEngine c
      · exact (exec_event_hv hf he hm hs hq hx).relays hl hp j
      · rw [pointAt_congr (exec_engine_matrix he hx).1]

end Sys2Proof.Machine
end

section
/-! SUPPORT. A batch whose report no stage awaits, record by record (R27, R28, R32), and the targets of the batches that name every
point. -/

namespace Sys2Proof.Machine

/-- A batch of one point has its target at that index alone. -/
theorem targetOf_one (i j : Nat) (t : Switch) : targetOf [(i, t)] j = if j = i then some t else none := by
  by_cases h : i = j
  · simp [targetOf, h]
  · simp [targetOf, h, Ne.symm h]

/-- A batch that names each point once has at an index the target named with it. -/
theorem targetOf_of_mem {targets : List (Nat × Switch)} {x : Nat × Switch} (hx : x ∈ targets)
    (hu : ∀ y ∈ targets, y.1 = x.1 → y.2 = x.2) : targetOf targets x.1 = some x.2 := by
  cases hf : targets.find? fun q => q.1 == x.1 with
  | none => exact absurd (List.find?_eq_none.1 hf x hx) (by simp)
  | some y =>
      rw [targetOf, hf]
      exact congrArg some (hu y (List.mem_of_find?_eq_some hf) (by simpa using List.find?_some hf))

/-- A batch with a target for every record has each at its index. -/
theorem targetOf_targetsBy {s : State} (f : Nat → Point → Switch) {j : Nat} (hj : j < s.points.length) :
    targetOf (targetsBy s f) j = some (f j (pointAt s j)) := by
  refine targetOf_of_mem (x := (j, f j (pointAt s j))) (List.mem_map.2 ⟨_, mem_zipIdx_of_lt hj, rfl⟩) fun y hy hyj => ?_
  obtain ⟨q, hq, rfl⟩ := List.mem_map.1 hy
  have hi : q.2 = j := hyj
  rw [← hi, ← (pointAt_of_mem_zipIdx hq).2]

/-- A batch with one target for every point has it at every index. -/
theorem targetOf_everyPoint {s : State} (t : Switch) {j : Nat} (hj : j < s.points.length) :
    targetOf (everyPoint s t) j = some t := by
  refine targetOf_of_mem (x := (j, t)) (List.mem_map.2 ⟨j, List.mem_range.2 hj, rfl⟩) fun y hy _ => ?_
  obtain ⟨i, -, rfl⟩ := List.mem_map.1 hy
  rfl

/-- One record after a batch, its report awaited or not: held at FLOAT as it was, else as the request makes it (R27, R32). -/
theorem pointAt_batch (why : Purpose) (targets : List (Nat × Switch)) {s : State} {j : Nat} (hj : j < s.points.length) :
    pointAt (batch why targets s) j =
      if heldAtFloat s then pointAt s j else requestedPoint targets s j (pointAt s j) := by
  have hp : (batch why targets s).points = (requestBatch why targets s).points := by simp [batch]
  rw [pointAt_congr hp]
  cases h : heldAtFloat s
  · exact requestBatch_point why targets s j hj h
  · exact pointAt_congr (requestBatch_held why targets s h) j

/-- A batch neither adds nor drops a record. -/
theorem batch_length (why : Purpose) (targets : List (Nat × Switch)) (s : State) :
    (batch why targets s).points.length = s.points.length := by
  simpa [batch] using requestBatch_length why targets s

/-- The batches outstanding once the complete ones are reported (R28). -/
theorem batch_batches (why : Purpose) (targets : List (Nat × Switch)) (s : State) :
    (batch why targets s).matrix.batches = (requestBatch why targets s).matrix.batches.filter fun b => !b.left.isEmpty := by
  simp [batch, reportAll, setBatches]

/-- A batch whose report no stage awaits leaves everything but the points and the batches as it was. -/
theorem batch_only (why : Purpose) (targets : List (Nat × Switch)) {s : State} (h : awaitsNone s) :
    batch why targets s = { s with
      points := (batch why targets s).points, matrix := { s.matrix with batches := (batch why targets s).matrix.batches } } := by
  have hp : (batch why targets s).points = (requestBatch why targets s).points := by simp [batch]
  rw [hp]
  exact batch_unawaited why targets h

/-- A batch of one point where no stage awaits its report and nothing holds the points at FLOAT (R27, R28). -/
theorem batchOne_free (why : Purpose) (i : Nat) (x : Switch) {s : State} (hn : awaitsNone s) (hf : heldAtFloat s = false) :
    let t := batch why [(i, x)] s
    t = { s with points := t.points, matrix := { s.matrix with batches := t.matrix.batches } } ∧
    eachPoint s t (fun j p => if j = i then requestPoint s.lines.liveSeen s.params.s x p else p) ∧
    t.matrix.batches = (s.matrix.batches.map (dropPoints [i]) ++
      [({ purpose := why, left := [i].filter (inTransit t) } : Batch)]).filter fun b => !b.left.isEmpty := by
  have hi : inTransit (batch why [(i, x)] s) = inTransit (requestBatch why [(i, x)] s) := by
    funext j
    rw [inTransit, inTransit, pointAt_congr (s := requestBatch why [(i, x)] s) (by simp [batch])]
  refine ⟨batch_only why _ hn, ⟨batch_length _ _ _, fun j hj => ?_⟩, ?_⟩
  · rw [pointAt_batch _ _ hj, hf, requestedPoint, targetOf_one]
    by_cases h : j = i <;> simp [h]
  · rw [batch_batches, requestBatch_batches _ _ _ hf, hi]; rfl

end Sys2Proof.Machine
end

section
/-! SET SWITCH and the matrix overrides RETURN and OFF (R37 to R39), and the release of LIVE (R30), point by point (O11, O13, O21). -/

namespace Sys2Proof.Machine

/-! ## SET SWITCH -/

/-- The code 3 names HV alone (3.11, Codes). -/
theorem switchOfCode_hv_iff (b : Byte) : switchOfCode b = some .hv ↔ b = 3 := by
  refine ⟨fun h => ?_, fun h => by rw [h]; rfl⟩
  unfold switchOfCode at h
  split at h
  case h_4 hb => exact BitVec.eq_of_toNat_eq hb
  all_goals cases h

/-- SET SWITCH taken (R168). -/
theorem exec_setSwitch {h : Header} {s : State} (gp : Half) (target : Byte) (ht : takesAddressed h s = true)
    (hw : noFirstFrame s = true) : exec (.setSwitch h gp target) s =
      .next (setSwitch h gp.toNat target { s with bus := heard s }) :=
  congrArg Host.Outcome.next (request_addressed h 11 _ s ht hw)

/-- Settles O11: SET SWITCH refuses by the first check that fails; accepted it answers with the switch state as it was and requests
the one point, which is held at FLOAT by nothing then. -/
theorem setSwitchJudgesInOrder : Obligations.SetSwitchJudgesInOrder := by
  intro h gp target s ht hw hl hj
  let u : State := { s with bus := heard s }
  have hr : ∀ why, refuse h 11 why gp.toNat u = { s with bus := answered h (refusal h 11 why gp) s } := fun why => by
    rw [refuse_answers ht, half_toNat]
  obtain ⟨t, e⟩ : ∃ t, t = setSwitch h gp.toNat target u := ⟨_, rfl⟩
  refine ⟨t, e ▸ exec_setSwitch gp target ht hw, ?_⟩
  have hu : addr u = addr s := rfl
  by_cases ho : gp.toNat / 256 ≠ addr s
  · rw [if_pos ho]
    exact (e.trans (if_pos (by simpa [owns, Config.pointCount, hu] using ho))).trans (hr _)
  rw [if_neg ho]
  replace e := e.trans (if_neg (by simpa [owns, Config.pointCount, hu] using ho))
  by_cases ha : runActive s = true
  · rw [if_pos ha]; exact (e.trans (if_pos ha)).trans (hr _)
  rw [if_neg ha]
  replace e := e.trans (if_neg ha)
  by_cases hs : s.lines.estop = true
  · rw [if_pos hs]; exact (e.trans (if_pos hs)).trans (hr _)
  rw [if_neg hs]
  replace e := e.trans (if_neg hs)
  have hfit : fitted u (localOf gp.toNat) = fitted s (gp.toNat % 256) := rfl
  by_cases hf : fitted s (gp.toNat % 256) = false
  · rw [if_pos hf]; exact (e.trans (if_pos (by rw [hfit, hf]; rfl))).trans (hr _)
  rw [if_neg hf]
  replace e := e.trans (if_neg (by rw [hfit]; simpa using hf))
  have hrole : ((switchOfCode target).map fun x => !admitsPoint u (localOf gp.toNat) (pointAt u (localOf gp.toNat)) x).getD
      false = (switchOfCode target).any
        fun x => !admitsPoint s (gp.toNat % 256) (pointAt s (gp.toNat % 256)) x := by
    cases switchOfCode target <;> rfl
  by_cases hro : ((switchOfCode target).any
      fun x => !admitsPoint s (gp.toNat % 256) (pointAt s (gp.toNat % 256)) x) = true
  · rw [if_pos hro]; exact (e.trans (if_pos (hrole.trans hro))).trans (hr _)
  rw [if_neg hro]
  replace e := e.trans (if_neg (hrole ▸ hro))
  by_cases hb : s.matrix.override ≠ .none ∨ busy s (pointAt s (gp.toNat % 256)) = true ∨
      (target = 3 ∧ s.lines.liveSeen = true)
  · rw [if_pos hb]
    rw [← switchOfCode_hv_iff] at hb
    exact (e.trans (if_pos hb)).trans (hr _)
  rw [if_neg hb]
  have hfree : heldAtFloat s = false := by
    simp only [not_or, not_not] at hb
    simp [heldAtFloat, hs, hb.1]
  rw [← switchOfCode_hv_iff] at hb
  replace e := e.trans (if_neg hb)
  cases hx : switchOfCode target with
  | none =>
      simp only [hx] at e
      exact e.trans (hr _)
  | some x =>
      simp only [hx] at e
      have hv : reply h 11 (halfBytes (half gp.toNat) ++
          [target, byte (switchCode (pointAt u (localOf gp.toNat)).switch)]) u =
          { s with bus := answered h (replyTo h 11
            (halfBytes gp ++ [target, byte (switchCode (pointAt s (gp.toNat % 256)).switch)])) s } := by
        rw [half_toNat]; exact queue_answers ht _ rfl rfl
      rw [hv] at e
      rw [e]
      exact batchOne_free .manual (gp.toNat % 256) x (awaitsNone_of_inactive hl ha) hfree

/-! ## MATRIX OVERRIDE RETURN and OFF -/

/-- RETURN taken with no run active and ESTOP released, RETURN not yet in force (R37): every sensable point is requested to RETURN
and every other to FLOAT. -/
theorem overrideReturn_requests {s : State} (h : awaitsNone s) (he : s.lines.estop = false) :
    let t := batch .override (targetsBy (setOverride .ret s) (returnTarget (setOverride .ret s))) (setOverride .ret s)
    t = { s with points := t.points, matrix := { override := .ret, batches := t.matrix.batches } } ∧
    eachPoint s t fun j p => requestPoint s.lines.liveSeen s.params.s (if sensable s j p = true then .ret else .float) p := by
  refine ⟨batch_only (s := setOverride .ret s) .override _ h, batch_length _ _ _, fun j hj => ?_⟩
  have hf : heldAtFloat (setOverride .ret s) = false := by simp [heldAtFloat, he]
  rw [pointAt_batch .override _ (s := setOverride .ret s) hj, hf, requestedPoint,
    targetOf_targetsBy _ (s := setOverride .ret s) hj]
  rfl

/-- OFF taken with RETURN in force (R38): every point is requested to FLOAT, unless ESTOP holds it there. -/
theorem overrideOff_requests {s : State} (h : awaitsNone s) :
    let t := floatAll .override (setOverride .none s)
    t = { s with points := t.points, matrix := { override := .none, batches := t.matrix.batches } } ∧
    eachPoint s t fun _ p =>
      if s.lines.estop = true then p else requestPoint s.lines.liveSeen s.params.s .float p := by
  refine ⟨batch_only (s := setOverride .none s) .override _ h, batch_length _ _ _, fun j hj => ?_⟩
  have hf : heldAtFloat (setOverride .none s) = s.lines.estop := Bool.or_false _
  rw [floatAll, pointAt_batch .override _ (s := setOverride .none s) hj, hf, requestedPoint,
    targetOf_everyPoint .float (s := setOverride .none s) hj]
  rfl

/-- Settles O13: RETURN and OFF take each case of the run, of ESTOP and of the override in force apart; where they request a batch no
run is active, so no stage awaits its report. -/
theorem overrideReturnAndOff : Obligations.OverrideReturnAndOff := by
  refine ⟨fun h s ht hw hl => ?_, fun h s ht hw hl hret => ?_⟩
  · have hact : runActive { s with bus := heard s } = runActive s := rfl
    refine ⟨overrideReturn { s with bus := heard s }, congrArg Host.Outcome.next (request_general h 12 _ s ht hw), ?_⟩
    by_cases ha : runActive s = true ∨ s.lines.estop = true
    · rw [if_pos ha]; exact if_pos (by simpa [hact] using ha)
    rw [if_neg ha]
    have hr : overrideReturn { s with bus := heard s } = _ := if_neg (by simpa [hact] using ha)
    rw [hr]
    by_cases ho : s.matrix.override = .ret
    · rw [if_pos ho]; exact if_pos ho
    rw [if_neg ho, if_neg ho]
    exact overrideReturn_requests (s := { s with bus := heard s }) (awaitsNone_of_inactive hl fun k => ha (.inl k))
      (by simpa using fun k => ha (.inr k))
  · refine ⟨overrideOff { s with bus := heard s }, congrArg Host.Outcome.next (request_general h 12 _ s ht hw), ?_⟩
    unfold overrideOff
    cases ho : s.matrix.override with
    | none => rfl
    | float => rfl
    | ret =>
        exact overrideOff_requests (s := { s with bus := heard s }) ((runLawful_iff s).1 hl |>.stagesNone (hret ho))

/-! ## LIVE seen released -/

/-- The timer that LIVE suspended runs on, from the elapsed time kept (R77). -/
theorem timerResume_eq (s : State) : timerResume s = { s with run := { s.run with timer := { s.run.timer with
    mode := if s.run.timer.mode = .suspended false then .running else s.run.timer.mode } } } := by
  unfold timerResume
  split
  · rename_i hm; rw [if_pos hm]; rfl
  · rename_i hm; rw [if_neg hm]

/-- A change freed of LIVE, stage by stage: one waiting for LIVE has the target HV (R30). -/
theorem liveFreed_stages (settle : Nat) {p : Point} (h : pointLawful p = true) : liveFreed settle p =
    match p.stage with
    | .deferred => { p with stage := .brk }
    | .waitLive => { p with stage := .settle .hv settle }
    | .settle closed _ => if p.pending = some closed then p else { p with stage := .brk }
    | _ => p := by
  obtain ⟨net, role, sw, pe, st, d, l, r⟩ := p
  cases st with
  | rest => rfl
  | brk => rfl
  | deferred =>
      obtain ⟨t, rfl⟩ : ∃ t, pe = some t := Option.isSome_iff_exists.1 (by simp_all [pointLawful])
      rfl
  | waitLive =>
      obtain rfl : pe = some .hv := by simpa [pointLawful] using h
      rfl
  | settle closed ms =>
      obtain ⟨t, rfl⟩ : ∃ t, pe = some t := Option.isSome_iff_exists.1 (by simp_all [pointLawful])
      simp only [liveFreed, Option.some.injEq, eq_comm]

/-- Settles O21: the release of LIVE frees each record by itself. -/
theorem liveReleasedFreesHeldChanges : Obligations.LiveReleasedFreesHeldChanges := by
  intro s hp hl ho
  have hx : exec .liveSeenReleased s = .next (mapPoints (fun _ p => liveFreed s.params.s p)
      (timerResume { s with lines := { s.lines with liveSeen := false } })) :=
    congrArg Host.Outcome.next (if_pos (by simp [hl, ho]))
  refine ⟨_, hx, ?_, ?_⟩
  · rw [timerResume_eq]; rfl
  · have hpts : (timerResume { s with lines := { s.lines with liveSeen := false } }).points = s.points := by
      rw [timerResume_eq]
    refine ⟨by rw [mapPoints_length, hpts], fun j hj => ?_⟩
    refine (pointAt_mapPoints _ _ _ (by rwa [hpts])).trans ?_
    rw [pointAt_congr hpts]
    exact liveFreed_stages _ (((pointsLawful_iff s).1 hp).2 j)

end Sys2Proof.Machine
end

section
/-! SUPPORT. What a frame queued, an event and a run end leave of the transmit slot (R43, R83, R178, R179, R181), and a run end as one
change of the state (R83). -/

namespace Sys2Proof.Machine

/-! ## The slot but for one kind -/

/-- Two slots hold the same entries but for those of one kind. -/
def sameBut (k : Nat) (a b : List TxEntry) : Prop := ∀ e, entryKind e ≠ k → (e ∈ a ↔ e ∈ b)

theorem sameBut.refl (k : Nat) (a : List TxEntry) : sameBut k a a := fun _ _ => .rfl

theorem sameBut.trans {k : Nat} {a b c : List TxEntry} (h : sameBut k a b) (h' : sameBut k b c) : sameBut k a c :=
  fun e he => (h e he).trans (h' e he)

/-- A frame queued changes entries of its own kind alone, and stands in the slot: not begun, or beside the begun one (R43). -/
theorem putFrame_stands (f : Frame) (slot : List TxEntry) :
    ∃ e ∈ putFrame f slot, entryKind e = kindCode f.payload ∧
      ((e.begun = false ∧ e.frame = f) ∨ (e.begun = true ∧ e.beside = some f)) := by
  rcases putFrame_cases f slot with ⟨e, -, hb, hk, h⟩ | h
  · exact ⟨{ e with beside := some f }, by rw [h, mem_insertEntry]; exact .inl rfl, hk, .inr ⟨hb, rfl⟩⟩
  · exact ⟨_, by rw [h, mem_insertEntry]; exact .inl rfl, rfl, .inl ⟨rfl, rfl⟩⟩

theorem putFrame_sameBut {f : Frame} {k : Nat} (hk : kindCode f.payload = k) (slot : List TxEntry) :
    sameBut k (putFrame f slot) slot := by
  intro x hx
  rcases putFrame_cases f slot with ⟨e, -, -, he, h⟩ | h
  · have hne : entryKind x ≠ entryKind { e with beside := some f } := fun c => hx (c.trans (he.trans hk))
    rw [h, mem_insertEntry, or_iff_right fun c => hne (congrArg entryKind c), and_iff_left hne]
  · have hne : entryKind x ≠ entryKind { frame := f, begun := false, doomed := false, beside := none } := fun c =>
      hx (c.trans hk)
    rw [h, mem_insertEntry, or_iff_right fun c => hne (congrArg entryKind c), and_iff_left hne]

/-- A rewriting of the slot entry by entry that keeps the kind of each. -/
def keepsKind (g : TxEntry → Option TxEntry) : Prop := ∀ e e', g e = some e' → entryKind e' = entryKind e

theorem sameBut.filterMap {k : Nat} {a b : List TxEntry} (h : sameBut k a b) {g : TxEntry → Option TxEntry}
    (hg : keepsKind g) : sameBut k (a.filterMap g) (b.filterMap g) := by
  intro x hx
  simp only [List.mem_filterMap]
  refine exists_congr fun e => and_congr_left fun he => h e ?_
  rwa [← hg e x he]

/-- What a withdrawal of the class 1 frames makes of an entry (R83). -/
def withdrawnClassOne (e : TxEntry) : Option TxEntry := if 2 ≤ entryKind e ∧ entryKind e ≤ 7 then withdrawn e else some e

/-- A withdrawn entry has begun, its withdrawal called for, and keeps its kind (R43). -/
theorem withdrawn_eq_some {e e' : TxEntry} (h : withdrawn e = some e') :
    entryKind e' = entryKind e ∧ e'.begun = true ∧ e'.doomed = true := by
  unfold withdrawn at h
  split at h
  · rename_i hb; cases h; exact ⟨rfl, hb, rfl⟩
  · cases h

theorem withdrawnClassOne_keepsKind : keepsKind withdrawnClassOne := fun e e' h => by
  unfold withdrawnClassOne at h
  split at h
  · exact (withdrawn_eq_some h).1
  · cases h; rfl

/-- What a withdrawal of the frames of one kind not begun makes of an entry (R181). -/
def unbegunDropped (k : Nat) (e : TxEntry) : Option TxEntry :=
  if !(entryKind e == k) then some e
  else if e.begun then
    some { e with recalled := true, beside := e.beside.filter fun f => !(entryKind { e with frame := f } == k) }
  else none

theorem unbegunDropped_keepsKind (k : Nat) : keepsKind (unbegunDropped k) := fun e e' h => by
  unfold unbegunDropped at h
  split at h
  · cases h; rfl
  · split at h <;> cases h
    rfl

/-- A frame that stands in the slot stands there still after a withdrawal that leaves entries of its kind alone. -/
theorem stands_filterMap {f : Frame} {slot : List TxEntry} {g : TxEntry → Option TxEntry}
    (hg : ∀ e, entryKind e = kindCode f.payload → g e = some e)
    (h : ∃ e ∈ slot, entryKind e = kindCode f.payload ∧
      ((e.begun = false ∧ e.frame = f) ∨ (e.begun = true ∧ e.beside = some f))) :
    ∃ e ∈ slot.filterMap g, entryKind e = kindCode f.payload ∧
      ((e.begun = false ∧ e.frame = f) ∨ (e.begun = true ∧ e.beside = some f)) := by
  obtain ⟨e, he, hk, hs⟩ := h
  exact ⟨e, List.mem_filterMap.2 ⟨e, he, hg e hk⟩, hk, hs⟩

/-! ## Events -/

/-- The slot after an event (R178, R179): a NOTICE queued where the event is not masked and the station may queue. -/
theorem raise_slot (e : Event) (s : State) :
    (raise e s).bus.slot =
      if s.decoder.mask.getLsbD (eventBit e) = true ∨ s.bus.held = true ∨ s.bus.silent = true then s.bus.slot
      else putFrame (ownFrame s 28 (.notice ((s.decoder.status ||| eventMask e).setWidth 16)
        (byte (runStateCode s.run.state)))) s.bus.slot := by
  cases hm : s.decoder.mask.getLsbD (eventBit e)
  · simp only [raise, hm, Bool.false_eq_true, if_false, false_or, queue]
    cases hh : s.bus.held <;> cases hs : s.bus.silent <;> (simp [hh, hs]; try rfl)
  · simp [raise, hm]

/-- An event changes no entry but the NOTICE. -/
theorem raise_sameBut (e : Event) (s : State) : sameBut 13 (raise e s).bus.slot s.bus.slot := by
  rw [raise_slot]
  split
  · exact .refl _ _
  · exact putFrame_sameBut (f := ownFrame s 28 _) (k := 13) rfl _

/-! ## The RUN_END offer -/

/-- Whether an offer of a run end is lost: no record of its identity is held, and 512 records are (R141, R143). -/
abbrev runEndLost (cause : Cause) (loc : Where) (s : State) : Prop :=
  holdsIdent s (identOf (.runEnd cause loc)) = false ∧ 512 ≤ s.defects.records.length

/-- An offer changes the list, and for LIST_FULL the status and the slot (R141). -/
theorem offer_only (d : Defect) (s : State) : offer d s = { s with
    bus := { s.bus with slot := (offer d s).bus.slot }, defects := (offer d s).defects
    decoder := { s.decoder with status := (offer d s).decoder.status } } := by
  have hst : ∀ d, storeOffer d s = { s with
      bus := { s.bus with slot := (storeOffer d s).bus.slot }, defects := (storeOffer d s).defects
      decoder := { s.decoder with status := (storeOffer d s).decoder.status } } := fun d => by
    unfold storeOffer
    split
    · rfl
    · rw [raise_only]; rfl
  rcases offer_outcomes d s with h | ⟨lo, hi, -, -, -, h⟩ | ⟨-, h⟩ <;> rw [h]
  · rfl
  · exact hst d

/-- A run end offered is held already, or stored or lost (R141). -/
theorem offer_runEnd (cause : Cause) (loc : Where) (s : State) : offer (.runEnd cause loc) s =
    if holdsIdent s (identOf (.runEnd cause loc)) then s else storeOffer (.runEnd cause loc) s := rfl

/-- The slot after the offer of a run end: a lost one may queue the NOTICE of LIST_FULL (R141, R143). -/
theorem offer_runEnd_slot (cause : Cause) (loc : Where) (s : State) :
    (offer (.runEnd cause loc) s).bus.slot =
      if runEndLost cause loc s ∧ ¬ (s.decoder.mask.getLsbD 6 = true ∨ s.bus.held = true ∨ s.bus.silent = true) then
        putFrame (ownFrame s 28 (.notice ((s.decoder.status ||| 64).setWidth 16) (byte (runStateCode s.run.state))))
          s.bus.slot
      else s.bus.slot := by
  rw [offer_runEnd]
  by_cases hi : holdsIdent s (identOf (.runEnd cause loc)) = true
  · rw [if_pos hi, if_neg fun k => Bool.noConfusion (hi.symm.trans k.1.1)]
  rw [if_neg hi, storeOffer]
  by_cases hn : s.defects.records.length < Config.defectCapacity
  · rw [if_pos hn, if_neg fun k => absurd hn (Nat.not_lt.2 k.1.2)]; rfl
  have hl : runEndLost cause loc s := ⟨by simpa using hi, Nat.not_lt.1 hn⟩
  rw [if_neg hn]
  refine (raise_slot _ _).trans ?_
  by_cases hq : s.decoder.mask.getLsbD 6 = true ∨ s.bus.held = true ∨ s.bus.silent = true
  · exact (if_pos hq).trans (if_neg fun k => k.2 hq).symm
  · exact (if_neg hq).trans (if_pos ⟨hl, hq⟩).symm

/-- The list and the status that an offer of a run end leaves hang on the list and the status alone. -/
theorem offer_runEnd_congr (cause : Cause) (loc : Where) {s u : State} (hd : u.defects = s.defects)
    (hs : u.decoder = s.decoder) :
    (offer (.runEnd cause loc) u).defects = (offer (.runEnd cause loc) s).defects ∧
    (offer (.runEnd cause loc) u).decoder.status = (offer (.runEnd cause loc) s).decoder.status := by
  have hi : holdsIdent u = holdsIdent s := by funext x; simp [holdsIdent, hd]
  rw [offer_runEnd, offer_runEnd, hi]
  split
  · exact ⟨hd, by rw [hs]⟩
  · unfold storeOffer
    rw [hd]
    split <;> simp [hs]

end Sys2Proof.Machine
end

section
/-! SUPPORT. A run end (R83) as one change of the state. -/

namespace Sys2Proof.Machine

/-- The station at a run end before its last batch (R83): the run ENDED, HOLD released, no job, the engine following. -/
def runStopped (cause : Cause) (loc : Where) (s : State) : State :=
  { offer (.runEnd cause loc) s with
    bus := { s.bus with slot := (offer (.runEnd cause loc) s).bus.slot.filterMap withdrawnClassOne, window := .off }
    lines := { s.lines with holdOut := false }
    sampler := if passCut s then { job := .free, offset := s.sampler.offset, buffer := List.replicate 256 none, ref := none }
      else { s.sampler with job := .free }
    run := endedRun s
    hv := if inInterval s ∧ s.straps.hvsrc then { s.hv with stage := .following, setpoint := 0, hven := false } else s.hv }

/-- A run end changes of the Sampling Engine what R62, R65 and R110 say. -/
theorem abandonJob_only (s : State) : abandonJob s = { s with sampler := (abandonJob s).sampler } := by
  unfold abandonJob
  split
  · split <;> rfl
  · rfl
  · rfl

/-- A run end within an HV interval leaves the engine following (R129). -/
theorem following_eq (s : State) : (if inInterval s then enterFollowing s else s) = { s with
    hv := if inInterval s ∧ s.straps.hvsrc then { s.hv with stage := .following, setpoint := 0, hven := false } else s.hv } := by
  unfold enterFollowing
  cases inInterval s <;> cases s.straps.hvsrc <;> rfl

/-- A run end: the station stopped, every point requested to FLOAT, RUN_ENDED and the SUMMARY withdrawn (R83). -/
theorem runEnd_eq_stopped (cause : Cause) (loc : Where) (s : State) :
    runEnd cause loc s = stopSummary (raise .runEnded (floatAll .runEnd (runStopped cause loc s))) := by
  refine congrArg (fun u => stopSummary (raise .runEnded (floatAll .runEnd u))) ?_
  obtain ⟨sl, df, st, ho⟩ : ∃ sl df st, offer (.runEnd cause loc) s = { s with
      bus := { s.bus with slot := sl }, defects := df, decoder := { s.decoder with status := st } } :=
    ⟨_, _, _, offer_only _ s⟩
  rw [runStopped, ho, following_eq, abandonJob_only, abandonJob_sampler]
  rfl

/-- The last batch of a run end awaits no report: of the station stopped it changes points and batches alone (R83, R28). -/
theorem runEnd_batch (cause : Cause) (loc : Where) (s : State) : ∃ points batches,
    floatAll .runEnd (runStopped cause loc s) =
      { runStopped cause loc s with points := points, matrix := { s.matrix with batches := batches } } := by
  have h : (runStopped cause loc s).matrix = s.matrix := by simp only [runStopped, offer_frame]
  have hb := batch_only .runEnd (everyPoint (runStopped cause loc s) .float) (s := runStopped cause loc s)
    ⟨rfl, rfl, fun h => by cases h⟩
  rw [h] at hb
  exact ⟨_, _, hb⟩

/-- A run end as one change of the state, its points and batches and its slot apart (R83). -/
theorem runEnd_only (cause : Cause) (loc : Where) (s : State) : ∃ points batches,
    runEnd cause loc s = { s with
      bus := { s.bus with slot := (runEnd cause loc s).bus.slot, window := .off }
      lines := { s.lines with holdOut := false }
      points := points, matrix := { s.matrix with batches := batches }
      sampler := (runStopped cause loc s).sampler, run := endedRun s, hv := (runStopped cause loc s).hv
      defects := (offer (.runEnd cause loc) s).defects
      decoder := { s.decoder with status := (offer (.runEnd cause loc) s).decoder.status ||| 1, summary := none } } := by
  obtain ⟨points, batches, hb⟩ := runEnd_batch cause loc s
  refine ⟨points, batches, ?_⟩
  rw [runEnd_eq_stopped, hb, raise_only]
  rw [runStopped, offer_only]
  rfl

/-- The slot after a run end (R43, R83, R179, R181): the offer's, the class 1 frames withdrawn, the NOTICE of RUN_ENDED with the
state ENDED queued where it may be, and the SUMMARY withdrawn. -/
theorem runEnd_slot (cause : Cause) (loc : Where) (s : State) : (runEnd cause loc s).bus.slot =
    (if s.decoder.mask.getLsbD 0 = true ∨ s.bus.held = true ∨ s.bus.silent = true then
      (offer (.runEnd cause loc) s).bus.slot.filterMap withdrawnClassOne
    else putFrame (ownFrame s 28 (.notice (((offer (.runEnd cause loc) s).decoder.status ||| 1).setWidth 16) 5))
      ((offer (.runEnd cause loc) s).bus.slot.filterMap withdrawnClassOne)).filterMap (unbegunDropped 16) := by
  obtain ⟨points, batches, hb⟩ := runEnd_batch cause loc s
  rw [runEnd_eq_stopped, hb]
  refine (congrArg (List.filterMap (unbegunDropped 16)) (raise_slot _ _)).trans ?_
  rw [runStopped, offer_only]
  rfl

/-- The entries that a run end keeps: no class 1 frame and no SUMMARY that had not begun (R83, R181). -/
def runEndKept (slot : List TxEntry) : List TxEntry := (slot.filterMap withdrawnClassOne).filterMap (unbegunDropped 16)

/-- A class 1 frame that a run end keeps has begun, its withdrawal called for, and a SUMMARY it keeps has begun. -/
theorem mem_runEndKept {slot : List TxEntry} {e : TxEntry} (h : e ∈ runEndKept slot) :
    (2 ≤ entryKind e → entryKind e ≤ 7 → e.begun = true ∧ e.doomed = true) ∧ (entryKind e = 16 → e.begun = true) := by
  obtain ⟨x, hx, hk, -, hb, hd, hc⟩ := mem_dropUnbegun (fun e => entryKind e == 16) _ e h
  obtain ⟨y, -, hy⟩ := List.mem_filterMap.1 hx
  refine ⟨fun h2 h7 => ?_, fun h16 => ?_⟩
  · have hyk := withdrawnClassOne_keepsKind y x hy
    rw [withdrawnClassOne, if_pos (by omega)] at hy
    obtain ⟨-, hyb, hyd⟩ := withdrawn_eq_some hy
    exact ⟨hb.trans hyb, hd.trans hyd⟩
  · rcases hc with ⟨hw, rfl⟩ | ⟨hxb, -⟩
    · simp [h16] at hw
    · exact hb.trans hxb

/-- But for the NOTICE a run end leaves in the slot what it keeps. -/
theorem runEnd_sameBut (cause : Cause) (loc : Where) (s : State) :
    sameBut 13 (runEnd cause loc s).bus.slot (runEndKept s.bus.slot) := by
  have ho : sameBut 13 (offer (.runEnd cause loc) s).bus.slot s.bus.slot := by
    rw [offer_runEnd_slot]
    split
    · exact putFrame_sameBut (f := ownFrame s 28 _) (k := 13) rfl _
    · exact .refl _ _
  rw [runEnd_slot]
  refine sameBut.filterMap (.trans ?_ (ho.filterMap withdrawnClassOne_keepsKind)) (unbegunDropped_keepsKind 16)
  split
  · exact .refl _ _
  · exact putFrame_sameBut (f := ownFrame s 28 _) (k := 13) rfl _

/-- A run end that queues no NOTICE leaves in the slot what it keeps. -/
theorem runEnd_slot_quiet (cause : Cause) (loc : Where) (s : State)
    (h : s.bus.held = true ∨ s.bus.silent = true ∨
      (s.decoder.mask.getLsbD 0 = true ∧ (s.decoder.mask.getLsbD 6 = true ∨ ¬ runEndLost cause loc s))) :
    (runEnd cause loc s).bus.slot = runEndKept s.bus.slot := by
  rw [runEnd_slot, if_pos (by tauto), offer_runEnd_slot, if_neg (by tauto)]
  rfl

/-- The withdrawals of a run end leave a NOTICE as it stands. -/
theorem withdrawals_notice {e : TxEntry} (h : entryKind e = 13) :
    withdrawnClassOne e = some e ∧ unbegunDropped 16 e = some e := by
  simp [withdrawnClassOne, unbegunDropped, h]

/-- Everything a run end leaves but the points and their batches (R83). -/
theorem runEnd_runEnds (cause : Cause) (loc : Where) (s : State) : runEnds cause loc s.bus s (runEnd cause loc s) := by
  have hsame := runEnd_sameBut cause loc s
  have hslot := runEnd_slot cause loc s
  have hquiet := runEnd_slot_quiet cause loc s
  obtain ⟨points, batches, ht⟩ := runEnd_only cause loc s
  generalize runEnd cause loc s = t at *
  have hrun : t.run = endedRun s := by rw [ht]
  have hline : t.lines.holdOut = false := by rw [ht]
  have hbus : t.bus = { s.bus with slot := t.bus.slot, window := .off } := by rw [ht]
  have hst : t.decoder.status = (offer (.runEnd cause loc) s).decoder.status ||| 1 := by rw [ht]
  refine ⟨hrun, hline, hbus, fun e he h2 h7 => ?_, fun e he h16 => ?_, fun e he hk => (hsame e hk).2 he,
    fun e he hk => (hsame e hk).1 he, hquiet, fun hh hs => ⟨fun h0 => ?_, fun h0 h6 hl => ?_⟩, ?_⟩
  · exact (mem_runEndKept ((hsame e (by omega)).1 he)).1 h2 h7
  · exact (mem_runEndKept ((hsame e (by omega)).1 he)).2 h16
  · have hn := stands_filterMap (fun e he => (withdrawals_notice he).2) (putFrame_stands (ownFrame s 28 (.notice
      (((offer (.runEnd cause loc) s).decoder.status ||| 1).setWidth 16) 5))
      ((offer (.runEnd cause loc) s).bus.slot.filterMap withdrawnClassOne))
    rw [if_neg (by simp only [h0, hh, hs]; decide)] at hslot
    obtain ⟨e, he, -, hs⟩ := hn
    rw [hst]
    exact ⟨e, hslot ▸ he, hs⟩
  · have hn := stands_filterMap (fun e he => (withdrawals_notice he).2) (stands_filterMap
      (fun e he => (withdrawals_notice he).1) (putFrame_stands (ownFrame s 28 (.notice
        ((s.decoder.status ||| 64).setWidth 16) (byte (runStateCode s.run.state)))) s.bus.slot))
    rw [if_pos (.inl h0), offer_runEnd_slot, if_pos ⟨hl, by simp only [h6, hh, hs]; decide⟩] at hslot
    obtain ⟨e, he, -, hs⟩ := hn
    exact ⟨e, hslot ▸ he, hs⟩
  · rw [ht]
    exact ⟨rfl, rfl, rfl, rfl, rfl, rfl, rfl, rfl, rfl, rfl⟩

/-- What a run end leaves hangs on nothing of the points, the matrix and the lines: a station that differs from another in them and
in its bus fields ends its run alike. -/
theorem runEnds_congr {cause : Cause} {loc : Where} {b : Bus} {s u t : State} (h : runEnds cause loc b u t)
    (hs : ∃ bus points matrix lines, u = { s with bus := bus, points := points, matrix := matrix, lines := lines }) :
    runEnds cause loc b s t := by
  obtain ⟨bus, points, matrix, lines, rfl⟩ := hs
  obtain ⟨hd, hst⟩ := offer_runEnd_congr cause loc (s := s)
    (u := { s with bus := bus, points := points, matrix := matrix, lines := lines }) rfl rfl
  obtain ⟨h1, h2, h3, h4, h5, h6, h7, h8, h9, h10, h11, h12, h13, h14⟩ := h
  rw [hd] at h12
  rw [hst] at h13
  exact ⟨h1, h2, h3, h4, h5, h6, h7, h8, h9, h10, h11, h12, h13, h14⟩

end Sys2Proof.Machine
end

section
/-! The forced FLOAT of MATRIX OVERRIDE FLOAT and of ESTOP, with the end of an active run (R31, R33, R36, R83) (O12, O20). -/

namespace Sys2Proof.Machine

/-- While every point is held at FLOAT the last batch of a run end moves none and is complete at once (R32, R83). -/
theorem runEnd_held (cause : Cause) (loc : Where) {s : State} (h : heldAtFloat s = true) (hb : s.matrix.batches = []) :
    (runEnd cause loc s).points = s.points ∧ (runEnd cause loc s).matrix = s.matrix := by
  let w := runStopped cause loc s
  have hpts : w.points = s.points := by simp only [w, runStopped, offer_frame]
  have hmat : w.matrix = s.matrix := by simp only [w, runStopped, offer_frame]
  have hheld : heldAtFloat w = true := by rw [heldAtFloat, hmat]; exact h
  have hreq : requestBatch .runEnd (everyPoint w .float) w = setBatches (w.matrix.batches ++ [{ purpose := .runEnd, left := [] }]) w :=
    if_pos hheld
  have hend : (runEnd cause loc s).points = (floatAll .runEnd w).points ∧
      (runEnd cause loc s).matrix = (floatAll .runEnd w).matrix := by
    rw [runEnd_eq_stopped]
    simp [w]
  have hover : (floatAll .runEnd w).matrix.override = s.matrix.override := by simp [hmat]
  have hbatches : (floatAll .runEnd w).matrix.batches = s.matrix.batches := by
    rw [floatAll, batch_batches, hreq, hmat, hb]; rfl
  refine ⟨?_, ?_⟩
  · rw [hend.1, ← hpts]
    simp [floatAll, batch, hreq]
  · rw [hend.2]
    generalize (floatAll .runEnd w).matrix = m at hover hbatches
    cases m
    cases hs : s.matrix
    simp_all

/-- After a forced FLOAT every point is at FLOAT and at rest (R31). -/
theorem forcedFloat_allForced {s t : State} (h : t.points = (forcedFloat s).points) : allForced s t := by
  refine ⟨by rw [h]; exact mapPoints_length (fun _ p => forceFloat p) s, fun j hj => ?_⟩
  rw [pointAt_congr h]
  exact pointAt_mapPoints (fun _ p => forceFloat p) s j hj

/-- A run that ends while the points are held at FLOAT, its batches abandoned: what it leaves, the points as they were. -/
theorem endActiveRun_held (cause : Cause) {s : State} (ha : runActive s = true) (h : heldAtFloat s = true)
    (hb : s.matrix.batches = []) : runEnds cause (currentWhere s) s.bus s (endActiveRun cause s) ∧
      (endActiveRun cause s).points = s.points ∧ (endActiveRun cause s).matrix = s.matrix ∧
      (endActiveRun cause s).lines = { s.lines with holdOut := false } := by
  have he : endActiveRun cause s = runEnd cause (currentWhere s) s := if_pos ha
  obtain ⟨hp, hm⟩ := runEnd_held cause (currentWhere s) h hb
  obtain ⟨points, batches, ht⟩ := runEnd_only cause (currentWhere s) s
  rw [he]
  exact ⟨runEnd_runEnds _ _ s, hp, hm, by rw [ht]⟩

/-- Settles O12: the override and the forced FLOAT are in force before the run ends, so its last batch moves nothing. -/
theorem overrideFloatForcesFloat : Obligations.OverrideFloatForcesFloat := by
  intro h s ht hw _
  let u : State := { s with bus := heard s }
  let v : State := setOverride .float (forcedFloat u)
  refine ⟨endActiveRun .aborted v, congrArg Host.Outcome.next (request_general h 12 _ s ht hw), ?_⟩
  by_cases ha : runActive s = true
  · obtain ⟨hends, hp, hm, hl⟩ := endActiveRun_held .aborted (s := v) ha (by simp [heldAtFloat, v]) rfl
    rw [if_pos ha]
    exact ⟨forcedFloat_allForced (s := s) hp, hm, runEnds_congr hends ⟨_, _, _, _, rfl⟩, hl⟩
  · rw [endActiveRun_inactive _ (show runActive v = false from Bool.eq_false_iff.2 ha), if_neg ha]
    exact ⟨forcedFloat_allForced (s := s) rfl, rfl, rfl⟩

/-- What ESTOP leaves of a station before it ends the run (R33, R38, R129). -/
theorem estopWork_floats (s : State) : dropReturn (enterFollowing (forcedFloat s)) = { s with
    points := (forcedFloat s).points
    matrix := { batches := [], override := if s.matrix.override = .float then .float else .none }
    hv := if s.straps.hvsrc = true then { s.hv with stage := .following, setpoint := 0, hven := false } else s.hv } := by
  have hf : enterFollowing (forcedFloat s) = { s with
      points := (forcedFloat s).points, matrix := { s.matrix with batches := [] }
      hv := if s.straps.hvsrc = true then { s.hv with stage := .following, setpoint := 0, hven := false } else s.hv } := by
    unfold enterFollowing
    cases hs : s.straps.hvsrc
    · exact if_neg (by simp [hs])
    · exact if_pos hs
  rw [hf]
  unfold dropReturn
  cases ho : s.matrix.override <;> simp [ho]

/-- Settles O20: out of HELD the points are forced to FLOAT and, with ESTOP seen asserted, held there before the run ends. -/
theorem estopForcesFloat : Obligations.EstopForcesFloat := by
  intro s _ he
  let u : State := { s with lines := { s.lines with estop := true } }
  have hx : exec .estopAsserted s = .next (if s.bus.held = true then u else estopWork u) :=
    congrArg Host.Outcome.next (if_neg (by simp [he]))
  refine ⟨_, hx, ?_⟩
  by_cases hh : s.bus.held = true
  · rw [if_pos hh, if_pos hh]
  rw [if_neg hh, if_neg hh, estopWork_eq, estopWork_floats u]
  let h := if s.straps.hvsrc = true then { s.hv with stage := .following, setpoint := 0, hven := false } else s.hv
  let v : State := { u with
    points := (forcedFloat u).points
    matrix := { batches := [], override := if s.matrix.override = .float then .float else .none }, hv := h }
  change allForced s (endActiveRun .estop v) ∧ _
  by_cases ha : runActive s = true
  · obtain ⟨hends, hp, hm, hl⟩ := endActiveRun_held .estop (s := v) ha (by simp [heldAtFloat, v, u]) rfl
    rw [if_pos ha]
    exact ⟨forcedFloat_allForced (s := s) hp, hm, runEnds_congr (s := { s with hv := h }) hends ⟨_, _, _, _, rfl⟩, hl⟩
  · rw [if_neg ha]
    change allForced s (endActiveRun .estop v) ∧ (endActiveRun .estop v).matrix = _ ∧ endActiveRun .estop v = _
    rw [endActiveRun_inactive _ (show runActive v = false from Bool.eq_false_iff.2 ha)]
    exact ⟨forcedFloat_allForced (s := s) rfl, rfl, rfl⟩

end Sys2Proof.Machine
end

section
/-! SUPPORT. The watch events and the end of a sampling pass (R96, R98) as one change of the state. -/

namespace Sys2Proof.Machine

/-! ## The watch events -/

/-- The status bits of the watch events of a pass (R98). -/
def watchFound (a b : Bool) : BitVec 12 := (if a = true then 2 else 0) ||| (if b = true then 4 else 0)

/-- The watch events of a pass, WATCH1 before WATCH2 (R98). -/
def watchRaised (a b : Bool) (s : State) : State :=
  let s1 := if a then raise .watch1 s else s
  if b then raise .watch2 s1 else s1

/-- WATCH1 is bit 1 and WATCH2 bit 2 (3.11, Codes). -/
theorem watchFound_getLsbD (a b : Bool) {i : Nat} (hi : i < 12) :
    (watchFound a b).getLsbD i = (a && i == 1 || b && i == 2) := by
  have h : ∀ a b : Bool, ∀ j : Fin 12, (watchFound a b).getLsbD j = (a && j.val == 1 || b && j.val == 2) := by decide
  exact h a b ⟨i, hi⟩

/-- The unmasked watch events, event by event. -/
theorem watchFound_unmasked (a b : Bool) (m : BitVec 12) :
    watchFound a b &&& ~~~ m = watchFound (a && !m.getLsbD 1) (b && !m.getLsbD 2) := by
  refine BitVec.eq_of_getLsbD_eq fun i hi => ?_
  rw [BitVec.getLsbD_and, BitVec.getLsbD_not, watchFound_getLsbD _ _ hi, watchFound_getLsbD _ _ hi]
  by_cases h1 : i = 1
  · subst h1; simp
  · by_cases h2 : i = 2
    · subst h2; simp
    · have e1 : (i == 1) = false := by simpa using h1
      have e2 : (i == 2) = false := by simpa using h2
      simp [e1, e2]

theorem watchFound_eq_zero_iff (a b : Bool) : watchFound a b = 0 ↔ a = false ∧ b = false := by
  cases a <;> cases b <;> decide

/-- The watch events set their status bits and may change the slot (R98, R178, R179). -/
theorem watchRaised_only (a b : Bool) (s : State) : watchRaised a b s = { s with
    bus := { s.bus with slot := (watchRaised a b s).bus.slot }
    decoder := { s.decoder with status := s.decoder.status ||| watchFound a b } } := by
  have h1 : ∀ e u, raise e u = { u with
      bus := { u.bus with slot := (raise e u).bus.slot }
      decoder := { u.decoder with status := u.decoder.status ||| eventMask e } } := fun e u => raise_only e u
  cases a <;> cases b
  · rw [show watchFound false false = 0 from rfl, show s.decoder.status ||| 0 = s.decoder.status from BitVec.or_zero]; rfl
  · exact h1 .watch2 s
  · exact h1 .watch1 s
  · obtain ⟨slot, h⟩ : ∃ slot, raise .watch1 s = { s with
        bus := { s.bus with slot := slot }
        decoder := { s.decoder with status := s.decoder.status ||| eventMask .watch1 } } := ⟨_, h1 .watch1 s⟩
    have ho : s.decoder.status ||| watchFound true true = s.decoder.status ||| eventMask .watch1 ||| eventMask .watch2 :=
      (BitVec.or_assoc _ _ _).symm
    rw [ho, watchRaised, if_pos rfl, if_pos rfl, h]
    exact h1 .watch2 _

/-- Watch events that are all masked, or of a station in HELD or SILENT, leave the slot as it was. -/
theorem watchRaised_quiet {a b : Bool} {s : State} (h : watchFound a b &&& ~~~ s.decoder.mask = 0 ∨ s.bus.held = true ∨
    s.bus.silent = true) : (watchRaised a b s).bus.slot = s.bus.slot := by
  rw [watchFound_unmasked, watchFound_eq_zero_iff] at h
  have h1 : a = true → (raise .watch1 s).bus.slot = s.bus.slot := fun ha =>
    (raise_slot _ s).trans (if_pos (h.imp_left fun k => by simpa [ha, eventBit] using k.1))
  have h2 : b = true → ∀ u, u.decoder.mask = s.decoder.mask → u.bus.held = s.bus.held → u.bus.silent = s.bus.silent →
      (raise .watch2 u).bus.slot = u.bus.slot := fun hb u e1 e2 e3 =>
    (raise_slot _ u).trans (if_pos (by rw [e1, e2, e3]; exact h.imp_left fun k => by simpa [hb, eventBit] using k.2))
  cases a <;> cases b
  · rfl
  · exact h2 rfl s rfl rfl rfl
  · exact h1 rfl
  · exact (h2 rfl (raise .watch1 s) (by simp) (by simp) (by simp)).trans (h1 rfl)

/-- The watch events change no entry but the NOTICE. -/
theorem watchRaised_sameBut (a b : Bool) (s : State) : sameBut 13 (watchRaised a b s).bus.slot s.bus.slot := by
  cases a <;> cases b
  · exact .refl _ _
  · exact raise_sameBut .watch2 s
  · exact raise_sameBut .watch1 s
  · exact (raise_sameBut .watch2 _).trans (raise_sameBut .watch1 s)

/-- The NOTICE of the watch events (R98, R179): of the last one unmasked, with the status as it stood then. -/
theorem watchRaised_notice {a b : Bool} {s : State} (hm : watchFound a b &&& ~~~ s.decoder.mask ≠ 0)
    (hh : s.bus.held = false) (hs : s.bus.silent = false) :
    ∃ y ∈ [watchFound a b &&& 2, watchFound a b &&& 4, watchFound a b],
      watchFound a b &&& ~~~ s.decoder.mask &&& ~~~ y = 0 ∧
      ∃ slot, (watchRaised a b s).bus.slot = putFrame (ownFrame s 28
        (.notice ((s.decoder.status ||| y).setWidth 16) (byte (runStateCode s.run.state)))) slot := by
  rw [watchFound_unmasked] at hm ⊢
  cases h2 : b && !s.decoder.mask.getLsbD 2
  · obtain ⟨ha, hm1⟩ : a = true ∧ s.decoder.mask.getLsbD 1 = false := by
      cases h1 : a && !s.decoder.mask.getLsbD 1
      · rw [h1, h2] at hm; exact absurd rfl hm
      · simpa using h1
    subst ha
    have hslot : (raise .watch1 s).bus.slot = putFrame (ownFrame s 28
        (.notice ((s.decoder.status ||| 2).setWidth 16) (byte (runStateCode s.run.state)))) s.bus.slot :=
      (raise_slot _ s).trans (if_neg (by simp only [eventBit, hm1, hh, hs]; decide))
    refine ⟨2, by cases b <;> simp [watchFound], by rw [hm1]; rfl, s.bus.slot, ?_⟩
    cases b
    · exact hslot
    · exact ((raise_slot .watch2 (raise .watch1 s)).trans (if_pos (.inl (by simpa [eventBit] using h2)))).trans hslot
  · obtain ⟨rfl, hm2⟩ : b = true ∧ s.decoder.mask.getLsbD 2 = false := by simpa using h2
    have hv : watchRaised a true s = raise .watch2 (watchRaised a false s) := by cases a <;> rfl
    have ho : s.decoder.status ||| watchFound a false ||| eventMask .watch2 = s.decoder.status ||| watchFound a true := by
      rw [BitVec.or_assoc]
      cases a <;> rfl
    refine ⟨watchFound a true, by simp, ?_, (watchRaised a false s).bus.slot, ?_⟩
    · have hsub : ∀ x y : Bool, watchFound (x && y) true &&& ~~~ watchFound x true = 0 := by decide
      exact hsub a _
    · rw [hv, raise_slot, watchRaised_only, if_neg]
      · simp only [ho]; rfl
      · simp only [eventBit, hm2, hh, hs]; decide

/-! ## The end of a pass -/

/-- An armed watch slot matches the driven gp where the gp is the slot's (R98). -/
theorem watchMatches_eq {s : State} {gp : Nat} (h : drivenHere s = some gp) (w : Option Watch) :
    watchMatches s gp w = watchHit s w ∧ watchHalts s gp w = (watchHit s w && w.any Watch.halt) := by
  have ho : owns s gp = true := by
    unfold drivenHere at h
    split at h
    · split at h
      · rename_i hd; cases h; exact hd.2
      · cases h
    · cases h
  have hm : watchMatches s gp w = watchHit s w := by
    cases w with
    | none => simp [watchMatches, watchHit]
    | some x =>
        simp only [watchMatches, watchHit, h]
        by_cases hx : x.gp = gp <;> simp [hx, ho]
  refine ⟨hm, ?_⟩
  rw [watchHalts, hm]
  cases w <;> rfl

/-- Whether a watch slot matches the driven gp and halts (R98). -/
def watchStops (s : State) (w : Option Watch) : Bool := watchHit s w && w.any Watch.halt

/-- Whether a watch halts the station at the end of its pass (R98). -/
def passStops (s : State) : Bool := watchStops s s.run.watch1 || watchStops s s.run.watch2

/-- The watch events that a pass of the station ends with, as status bits (R98). -/
abbrev passFound (s : State) : BitVec 12 := watchFound (watchHit s s.run.watch1) (watchHit s s.run.watch2)

/-- The HALTED of a station whose watch halts it (R98). -/
def haltedFrame (s : State) : Payload :=
  .halted (half ((drivenHere s).getD 0)) (if watchStops s s.run.watch1 = true then 1 else 2)

/-- A watch that halts is a watch that matches. -/
theorem passFound_of_stops {s : State} (h : passStops s = true) : passFound s ≠ 0 := fun c => by
  obtain ⟨h1, h2⟩ := (watchFound_eq_zero_iff _ _).1 c
  simp [passStops, watchStops, h1, h2] at h

/-- The end of a pass (R96, R98): the watch events, then HALTED queued in the halted stage with HOLD kept, or the release. -/
theorem afterPass_eq (s : State) : afterPass s =
    let u := watchRaised (watchHit s s.run.watch1) (watchHit s s.run.watch2) s
    if passStops s = true then queue 31 (haltedFrame s) (setSweepStage .halted u) else releaseAfterPass u := by
  cases hd : drivenHere s with
  | none => simp [afterPass, passStops, watchStops, watchHit, hd, watchRaised]
  | some gp =>
      obtain ⟨m1, h1⟩ := watchMatches_eq hd s.run.watch1
      obtain ⟨m2, h2⟩ := watchMatches_eq hd s.run.watch2
      have e1 : watchHalts s gp s.run.watch1 = watchStops s s.run.watch1 := h1
      have e2 : watchHalts s gp s.run.watch2 = watchStops s s.run.watch2 := h2
      simp only [afterPass, hd, m1, m2, e1, e2, passStops, haltedFrame, Option.getD_some, Bool.or_eq_true]
      by_cases k1 : watchStops s s.run.watch1 = true
      · simp only [k1, if_true, true_or]; rfl
      · by_cases k2 : watchStops s s.run.watch2 = true
        · simp only [k1, k2, if_true, or_true]; rfl
        · simp only [k1, k2, or_self]; rfl

/-- The end of a pass changes the stage, HOLD, the status and the slot (R96, R98). -/
theorem afterPass_only (s : State) : afterPass s = { s with
    run := { s.run with sweepStage := if passStops s = true then .halted else .driveReleased }
    lines := { s.lines with holdOut := s.lines.holdOut && passStops s }
    bus := { s.bus with slot := (afterPass s).bus.slot }
    decoder := { s.decoder with status := s.decoder.status ||| passFound s } } := by
  rw [afterPass_eq]
  by_cases h : passStops s = true
  · simp only [h, if_true, Bool.and_true]
    rw [queue_only, watchRaised_only]
    rfl
  · simp only [h, Bool.false_eq_true, if_false, Bool.and_false]
    rw [watchRaised_only]
    rfl

/-- The slot after a pass: HALTED put in it where a watch halts a station that may queue. -/
theorem afterPass_slot (s : State) : (afterPass s).bus.slot =
    let slot := (watchRaised (watchHit s s.run.watch1) (watchHit s s.run.watch2) s).bus.slot
    if passStops s = true ∧ (s.bus.held || s.bus.silent) = false then putFrame (ownFrame s 31 (haltedFrame s)) slot
    else slot := by
  rw [afterPass_eq]
  by_cases h : passStops s = true
  · simp only [h, if_true, true_and]
    have hu := watchRaised_only (watchHit s s.run.watch1) (watchHit s s.run.watch2) s
    by_cases hq : (s.bus.held || s.bus.silent) = false
    · rw [if_pos hq, queue_puts _ _ _ (by rw [hu]; exact hq), hu]
      rfl
    · rw [if_neg hq, queue_quiet _ _ _ (by rw [hu]; exact Bool.not_eq_false _ ▸ hq)]
      rfl
  · simp only [h]
    rfl

/-- An entry that neither a NOTICE nor HALTED of the end of a pass replaces stays, and none but those joins it. -/
theorem afterPass_kept {s : State} {e : TxEntry} (h7 : entryKind e = 7 → passStops s = false)
    (h13 : entryKind e = 13 → passFound s &&& ~~~ s.decoder.mask = 0) : e ∈ (afterPass s).bus.slot ↔ e ∈ s.bus.slot := by
  have hw : e ∈ (watchRaised (watchHit s s.run.watch1) (watchHit s s.run.watch2) s).bus.slot ↔ e ∈ s.bus.slot := by
    by_cases hk : entryKind e = 13
    · rw [watchRaised_quiet (.inl (h13 hk))]
    · exact watchRaised_sameBut _ _ s e hk
  rw [← hw, afterPass_slot]
  by_cases hc : passStops s = true ∧ (s.bus.held || s.bus.silent) = false
  · simp only [hc, and_self, if_true]
    exact putFrame_sameBut (k := 7) rfl _ e fun hk => by rw [h7 hk] at hc; exact absurd hc.1 Bool.false_ne_true
  · simp only [hc, if_false]

/-- A slot that no watch event, or a station in HELD or SILENT, leaves as it was. -/
theorem afterPass_quiet {s : State} (h : passFound s = 0 ∨ s.bus.held = true ∨ s.bus.silent = true) :
    (afterPass s).bus.slot = s.bus.slot := by
  rw [afterPass_slot]
  simp only
  rw [if_neg, watchRaised_quiet (h.imp_left fun k => by rw [show watchFound _ _ = 0 from k]; exact BitVec.zero_and)]
  rintro ⟨hs, hq⟩
  rcases h with h | h | h
  · exact passFound_of_stops hs h
  · simp [h] at hq
  · simp [h] at hq

/-- The NOTICE of a pass with unmasked watch events stands in the slot (R98, R179), also where HALTED is queued after it. -/
theorem afterPass_notice {s : State} (hm : passFound s &&& ~~~ s.decoder.mask ≠ 0) (hh : s.bus.held = false)
    (hs : s.bus.silent = false) :
    ∃ y ∈ [passFound s &&& 2, passFound s &&& 4, passFound s], passFound s &&& ~~~ s.decoder.mask &&& ~~~ y = 0 ∧
      standsQueued (ownFrame s 28 (.notice ((s.decoder.status ||| y).setWidth 16) (byte (runStateCode s.run.state))))
        (afterPass s) := by
  obtain ⟨y, hy, hc, slot, hslot⟩ := watchRaised_notice hm hh hs
  refine ⟨y, hy, hc, ?_⟩
  obtain ⟨e, he, hk, hst⟩ := putFrame_stands (ownFrame s 28 (.notice ((s.decoder.status ||| y).setWidth 16)
    (byte (runStateCode s.run.state)))) slot
  refine ⟨e, ?_, hst⟩
  rw [afterPass_slot]
  have hw : e ∈ (watchRaised (watchHit s s.run.watch1) (watchHit s s.run.watch2) s).bus.slot := by rw [hslot]; exact he
  by_cases hp : passStops s = true ∧ (s.bus.held || s.bus.silent) = false
  · simp only [hp, and_self, if_true]
    have h7 : entryKind e ≠ 7 := fun c => absurd (hk.symm.trans c) (by decide : ¬ (13 : Nat) = 7)
    exact (putFrame_sameBut (k := 7) rfl _ e h7).2 hw
  · simp only [hp, if_false]
    exact hw

/-- The HALTED of a station whose watch halts it stands in the slot (R98). -/
theorem afterPass_halted {s : State} (hp : passStops s = true) (hh : s.bus.held = false) (hs : s.bus.silent = false) :
    standsQueued (ownFrame s 31 (haltedFrame s)) (afterPass s) := by
  obtain ⟨e, he, -, hst⟩ := putFrame_stands (ownFrame s 31 (haltedFrame s))
    (watchRaised (watchHit s s.run.watch1) (watchHit s s.run.watch2) s).bus.slot
  refine ⟨e, ?_, hst⟩
  rw [afterPass_slot]
  simp only [hp, hh, hs, Bool.or_self, and_self, if_true]
  exact he

/-- The end of a pass as R96 and R98 give it. -/
theorem afterPass_passEnds (s : State) : passEnds s.sampler s (afterPass s) :=
  ⟨afterPass_only s, afterPass_quiet, fun _ he hk => (afterPass_kept hk.1 hk.2).2 he,
    fun _ he hk => (afterPass_kept hk.1 hk.2).1 he,
    fun hh hs => ⟨fun hm => afterPass_notice hm hh hs, fun hp => afterPass_halted hp hh hs⟩⟩

end Sys2Proof.Machine
end

section
/-! SUPPORT. The reports of complete batches (R28): the one that the run awaits does its part once, every other nothing. -/

namespace Sys2Proof.Machine

/-! ## A frame queued twice -/

/-- An entry put in its place twice stands as put there once. -/
theorem insertEntry_twice (e : TxEntry) (slot : List TxEntry) : insertEntry e (insertEntry e slot) = insertEntry e slot := by
  have lt : ∀ x : TxEntry, (decide (entryKind x < entryKind e) && decide (entryKind e < entryKind x)) = false := fun x => by
    simp only [Bool.and_eq_false_imp, decide_eq_true_eq, decide_eq_false_iff_not]
    omega
  have gt : ∀ x : TxEntry, (decide (entryKind e < entryKind x) && decide (entryKind x < entryKind e)) = false := fun x => by
    rw [Bool.and_comm, lt]
  simp [insertEntry, List.filter_append, List.filter_filter, lt, gt]

/-- The entry of a kind just put in its place is the one found there. -/
theorem find_insertEntry (e : TxEntry) (slot : List TxEntry) :
    ((insertEntry e slot).find? fun x => entryKind x == entryKind e) = some e := by
  have h : ((slot.filter fun x => decide (entryKind x < entryKind e)).find? fun x => entryKind x == entryKind e) = none := by
    refine List.find?_eq_none.2 fun x hx => ?_
    have hlt : entryKind x < entryKind e := by simpa using (List.mem_filter.1 hx).2
    simp [Nat.ne_of_lt hlt]
  rw [insertEntry, List.find?_append, h]
  simp

/-- A frame queued again changes nothing (R43). -/
theorem putFrame_twice (f : Frame) (slot : List TxEntry) : putFrame f (putFrame f slot) = putFrame f slot := by
  rcases putFrame_cases f slot with ⟨e, -, hb, hk, h⟩ | h
  · have hf := find_insertEntry { e with beside := some f } slot
    rw [show entryKind { e with beside := some f } = kindCode f.payload from hk] at hf
    rw [h, putFrame, hf]
    simp only [hb, if_true]
    exact insertEntry_twice _ slot
  · have hf : ((insertEntry { frame := f, begun := false, doomed := false, beside := none } slot).find? fun x =>
        entryKind x == kindCode f.payload) = some { frame := f, begun := false, doomed := false, beside := none } :=
      find_insertEntry { frame := f, begun := false, doomed := false, beside := none } slot
    rw [h, putFrame, hf]
    simp only [Bool.false_eq_true, if_false]
    exact insertEntry_twice _ slot

/-! ## The report awaited -/

/-- The batch whose report the run awaits (R78, R95, R108, R117, R132). -/
def awaited (s : State) : Option Purpose :=
  if s.run.state = .prepare then some .prepare
  else if s.run.sweepStage = .settling then some .toDrive
  else if s.run.sweepStage = .ending then some .endFloat
  else if s.run.insStage = .switching then some .switching
  else if s.run.insStage = .restoring then some .restoring
  else none

/-- In SWEEP the settling and the ending stage await a report, and no other stage does. -/
theorem awaited_sweep {s : State} (h : RunSound s) (hs : s.run.sweepStage ≠ .none) :
    awaited s = if s.run.sweepStage = .settling then some .toDrive
      else if s.run.sweepStage = .ending then some .endFloat else none := by
  have hw : s.run.state = .sweep := h.sweep hs
  have hi : s.run.insStage = .none := h.insStageNone (by rw [hw]; decide)
  simp [awaited, hw, hi]

/-- In INSULATE the switching and the restoring stage await a report, and no other stage does. -/
theorem awaited_insulate {s : State} (h : RunSound s) (hs : s.run.insStage ≠ .none) :
    awaited s = if s.run.insStage = .switching then some .switching
      else if s.run.insStage = .restoring then some .restoring else none := by
  have hw : s.run.state = .insulate := h.ins hs
  have hi : s.run.sweepStage = .none := h.sweepStageNone (by rw [hw]; decide)
  simp [awaited, hw, hi]

/-- A report that the run does not await changes nothing (R28). -/
theorem report_not_awaited {s : State} (h : RunSound s) : ∀ {p : Purpose}, awaited s ≠ some p → report s p = s
  | .prepare, hp => if_neg fun k => hp (if_pos k)
  | .toDrive, hp => if_neg fun k => hp (by rw [awaited_sweep h (by rw [k]; decide), if_pos k])
  | .endFloat, hp => if_neg fun k => hp (by rw [awaited_sweep h (by rw [k]; decide), k]; rfl)
  | .switching, hp => if_neg fun k => hp (by rw [awaited_insulate h (by rw [k]; decide), if_pos k])
  | .restoring, hp => if_neg fun k => hp (by rw [awaited_insulate h (by rw [k]; decide), k]; rfl)
  | .toSense, _ | .noResult, _ | .complete, _ | .runEnd, _ | .manual, _ | .admission, _ | .override, _ => rfl

/-- A report made, made again where the run still awaits it, changes nothing more. -/
def reportedOnce (s : State) (q : Purpose) : Prop :=
  ∀ p, awaited (report s q) = some p → report (report s q) p = report s q

/-! ## The five reports, each made once -/

/-- The report of the PREPARE batch (R78): the source bids SOURCE_READY, any other station releases HOLD. -/
theorem report_prepare {s : State} (h : RunSound s) (hs : s.run.state = .prepare) : report s .prepare =
    if s.straps.hvsrc = true ∧ s.run.insOn = true then withFrame 31 (.sourceReady (half s.run.number)) s
    else releaseHold s := by
  obtain ⟨hh, hq⟩ := h.activeFree (by simp [runActive, hs])
  have hd : report s .prepare = prepareDone s := if_pos hs
  rw [hd, prepareDone, queue_puts _ _ _ (by rw [hh, hq]; rfl)]
  simp only [Bool.and_eq_true]
  rfl

/-- PREPARE stays awaited, and its report changes nothing more: the SOURCE_READY stands as queued, HOLD stays released. -/
theorem prepare_reportedOnce {s : State} (h : RunSound s) (hs : s.run.state = .prepare) : reportedOnce s .prepare := by
  intro p hp
  have hsound := report_sound h .prepare
  have hst : (report s .prepare).run.state = .prepare := by simp [hs]
  obtain rfl : Purpose.prepare = p := Option.some.inj ((if_pos hst).symm.trans hp)
  rw [report_prepare h hs] at hsound ⊢
  by_cases hb : s.straps.hvsrc = true ∧ s.run.insOn = true
  · rw [if_pos hb] at hsound ⊢
    refine (report_prepare hsound hs).trans ((if_pos hb).trans ?_)
    exact congrArg (fun x => setSlot x s) (putFrame_twice _ s.bus.slot)
  · rw [if_neg hb] at hsound ⊢
    exact (report_prepare hsound hs).trans (if_neg hb)

/-- The stage after a pass commanded: the pass runs, or has ended (R95, R96, R98). -/
theorem commandPass_stage (s : State) : (commandPass s).run.sweepStage = .sampling ∨
    (commandPass s).run.sweepStage = .halted ∨ (commandPass s).run.sweepStage = .driveReleased := by
  unfold commandPass
  simp only
  split
  · exact .inl rfl
  · rw [afterPass_only]
    simp only
    split
    · exact .inr (.inl rfl)
    · exact .inr (.inr rfl)

/-- A pass commanded is awaited no more. -/
theorem awaited_commandPass {s : State} (h : RunSound s) (hs : s.run.sweepStage = .settling) :
    awaited (commandPass s) = none := by
  have hst := commandPass_stage s
  have hne : (commandPass s).run.sweepStage ≠ .none := by rcases hst with k | k | k <;> rw [k] <;> decide
  rw [awaited_sweep (commandPass_sound h hs) hne]
  rcases hst with k | k | k <;> rw [k] <;> rfl

/-- The report of the batch to DRIVE (R95): where the settle wait runs, the driver's batch done alone; else the pass too. -/
theorem report_toDrive {s : State} (hs : s.run.sweepStage = .settling) : report s .toDrive =
    if s.run.settleWait = none then commandPass (setRun { s.run with driveDone := true } s)
    else setRun { s.run with driveDone := true } s := if_pos hs

/-- The batch to DRIVE once done stays done, and a pass once commanded is not commanded again. -/
theorem toDrive_reportedOnce {s : State} (h : RunSound s) (hs : s.run.sweepStage = .settling) : reportedOnce s .toDrive := by
  intro p hp
  have hd : RunSound (setRun { s.run with driveDone := true } s) :=
    h.congr ⟨rfl, rfl, rfl, rfl, rfl, rfl, rfl, rfl, fun _ => id⟩
  rw [report_toDrive hs] at hp ⊢
  by_cases hw : s.run.settleWait = none
  · rw [if_pos hw, awaited_commandPass hd hs] at hp
    cases hp
  · rw [if_neg hw] at hp ⊢
    have ha : awaited (setRun { s.run with driveDone := true } s) = some .toDrive := by
      rw [awaited_sweep hd (by simp [setRun, hs])]
      exact if_pos hs
    obtain rfl : Purpose.toDrive = p := Option.some.inj (ha.symm.trans hp)
    exact (report_toDrive (s := setRun { s.run with driveDone := true } s) hs).trans (if_neg hw)

/-- The ending stage left on its report awaits none. -/
theorem endFloat_reportedOnce {s : State} (h : RunSound s) (hs : s.run.sweepStage = .ending) : reportedOnce s .endFloat := by
  intro p hp
  have hr : report s .endFloat = setSweepStage .endReleased (releaseHold s) := if_pos hs
  have ha : awaited (report s .endFloat) = none := by
    rw [awaited_sweep (report_sound h _) (by rw [hr]; exact SweepStage.noConfusion), hr]
    rfl
  rw [ha] at hp
  cases hp

/-- The switching and the restoring stage left on their report await none. -/
theorem insulate_reportedOnce {s : State} (h : RunSound s) {q : Purpose} {g : InsStage}
    (hr : report s q = setInsStage g (releaseHold s)) (hg : g = .switched ∨ g = .restored) : reportedOnce s q := by
  intro p hp
  have ha : awaited (report s q) = none := by
    have hi : (report s q).run.insStage = g := by rw [hr]; rfl
    rw [awaited_insulate (report_sound h q) (by rw [hi]; rcases hg with rfl | rfl <;> decide), hi]
    rcases hg with rfl | rfl <;> rfl
  rw [ha] at hp
  cases hp

/-- A report that a sound run awaits does its part once. -/
theorem awaited_reportedOnce {s : State} (h : RunSound s) {q : Purpose} (ha : awaited s = some q) : reportedOnce s q := by
  unfold awaited at ha
  split at ha
  next k => cases ha; exact prepare_reportedOnce h k
  split at ha
  next k => cases ha; exact toDrive_reportedOnce h k
  split at ha
  next k => cases ha; exact endFloat_reportedOnce h k
  split at ha
  next k => cases ha; exact insulate_reportedOnce h (if_pos k) (.inl rfl)
  split at ha
  next k => cases ha; exact insulate_reportedOnce h (if_pos k) (.inr rfl)
  cases ha

/-! ## All reports -/

/-- The reports to a sound run that awaits one: that one, once, where it is among them. -/
theorem reports_awaited {s : State} (h : RunSound s) {q : Purpose} (hq : awaited s = some q)
    (ps : List Purpose) : ps.foldl report s = if q ∈ ps then report s q else s := by
  have hkeep : ∀ ps : List Purpose, ps.foldl report (report s q) = report s q := fun ps => by
    induction ps with
    | nil => rfl
    | cons p ps ih =>
        have hp : report (report s q) p = report s q := by
          by_cases ha : awaited (report s q) = some p
          · exact awaited_reportedOnce h hq p ha
          · exact report_not_awaited (report_sound h q) ha
        rw [List.foldl_cons, hp, ih]
  induction ps with
  | nil => simp
  | cons p ps ih =>
      by_cases hp : q = p
      · subst hp
        rw [List.foldl_cons, hkeep, if_pos (by simp)]
      · have hother : report s p = s := report_not_awaited h fun k => hp (Option.some.inj (hq.symm.trans k))
        rw [List.foldl_cons, hother, ih]
        simp [hp]

/-- The reports to a sound run that awaits none change nothing. -/
theorem reports_none {s : State} (h : RunSound s) (hn : awaited s = none) (ps : List Purpose) : ps.foldl report s = s := by
  induction ps with
  | nil => rfl
  | cons p ps ih => rw [List.foldl_cons, report_not_awaited h (by rw [hn]; simp), ih]

end Sys2Proof.Machine
end

section
/-! SUPPORT. The reports of the batches that complete where points come to rest, as one change of the state (R28). -/

namespace Sys2Proof.Machine

/-! ## The batches that complete -/

/-- A batch is complete once its points have come to rest (R28). -/
theorem mem_takeComplete {s : State} (q : Purpose) :
    q ∈ (takeComplete (dropReached s)).1 ↔ batchDone q s s = true := by
  have hrest : ∀ b : Batch, (b.left.filter (inTransit s)).isEmpty = b.left.all fun i => !inTransit s i := fun b => by
    rw [Bool.eq_iff_iff]
    simp
  simp only [takeComplete, dropReached, setBatches, batchDone, List.filter_map, List.map_map, List.mem_map, List.mem_filter,
    Function.comp_apply, hrest, List.any_eq_true, Bool.and_eq_true, beq_iff_eq]
  exact ⟨fun ⟨b, ⟨hb, hl⟩, hq⟩ => ⟨b, hb, hq, hl⟩, fun ⟨b, hb, hq, hl⟩ => ⟨b, ⟨hb, hl⟩, hq⟩⟩

/-- Whether a station has a sensable point is in its netlist and its blocks (R5). -/
theorem anySensable_congr {s t : State} (hp : t.points.map netlistOf = s.points.map netlistOf) (hb : t.blocks = s.blocks) :
    anySensable t = anySensable s := by
  have h : ∀ u : State, anySensable u =
      (u.points.map netlistOf).zipIdx.any fun q => fitted u q.2 && q.1.2 != .excluded := fun u => by
    rw [List.zipIdx_map, List.any_map]; rfl
  have hf : fitted t = fitted s := by funext i; simp [fitted, blockKind, hb]
  rw [h, h, hp, hf]

/-- A pass commanded where no point is sensable ends at the command (R95, R96, R98). -/
theorem commandPass_ends {v : State} (hn : anySensable v = false) :
    passEnds { v.sampler with job := .free, buffer := List.replicate 256 none, ref := none } v (commandPass v) := by
  have hc : commandPass v = afterPass { v with
      run := { v.run with sweepStage := .sampling }
      sampler := { v.sampler with job := .free, buffer := List.replicate 256 none, ref := none } } :=
    if_neg (Bool.eq_false_iff.1 hn)
  rw [hc]
  exact afterPass_passEnds _

/-- What the report of the PREPARE batch leads to (R78): the source's SOURCE_READY stands queued, any other station released
HOLD. -/
theorem prepare_leads {s : State} (h : RunSound s) (hs : s.run.state = .prepare) :
    if s.straps.hvsrc = true ∧ s.run.insOn = true then
      report s .prepare = withFrame 31 (.sourceReady (half s.run.number)) s ∧
      standsQueued (ownFrame s 31 (.sourceReady (half s.run.number))) (report s .prepare)
    else report s .prepare = { s with lines := { s.lines with holdOut := false } } := by
  rw [report_prepare h hs]
  by_cases hb : s.straps.hvsrc = true ∧ s.run.insOn = true
  · rw [if_pos hb, if_pos hb]
    obtain ⟨e, he, -, hst⟩ := putFrame_stands (ownFrame s 31 (.sourceReady (half s.run.number))) s.bus.slot
    exact ⟨rfl, e, he, hst⟩
  · rw [if_neg hb, if_neg hb]
    rfl

/-- What the report of the batch to DRIVE leads to (R95, R96, R98): the batch done, while the settle wait runs; else the pass
commanded too, which ends at the command where no point is sensable. -/
theorem toDrive_leads {s : State} (hs : s.run.sweepStage = .settling) :
    let v : State := { s with run := { s.run with driveDone := true } }
    let emptied : Sampler := { s.sampler with job := .free, buffer := List.replicate 256 none, ref := none }
    if s.run.settleWait.isSome = true then report s .toDrive = v
    else if anySensable s = true then report s .toDrive = { v with
      run := { v.run with sweepStage := .sampling }
      sampler := { emptied with job := .sampling s.params.n (drivenHere s) } }
    else passEnds emptied v (report s .toDrive) := by
  intro v emptied
  rw [report_toDrive hs]
  cases s.run.settleWait with
  | some w => rfl
  | none =>
      simp only [Option.isSome_none, Bool.false_eq_true, if_false, if_true]
      by_cases hn : anySensable s = true
      · rw [if_pos hn]
        exact if_pos hn
      · rw [if_neg hn]
        exact commandPass_ends (v := v) (Bool.not_eq_true _ ▸ hn)

/-- The reports of the batches that complete where the points of `m` come to rest, as R28 and the stages give them. -/
theorem reportAll_batchReports {s m : State} (h : RunSound s) (hm : m = { s with points := m.points })
    (hn : m.points.map netlistOf = s.points.map netlistOf) : batchReports s (reportAll (dropReached m)) := by
  obtain ⟨ps, hps⟩ : ∃ ps, ps = (takeComplete (dropReached m)).1 := ⟨_, rfl⟩
  obtain ⟨u, hu⟩ : ∃ u, u = (takeComplete (dropReached m)).2 := ⟨_, rfl⟩
  have ht : reportAll (dropReached m) = ps.foldl report u := by rw [hps, hu]; rfl
  have hpts : (reportAll (dropReached m)).points = m.points := by simp [dropReached, setBatches]
  have htr : inTransit (reportAll (dropReached m)) = inTransit m := funext fun i => by simp only [inTransit, pointAt_congr hpts]
  have hdone : ∀ q, batchDone q s (reportAll (dropReached m)) = true ↔ q ∈ ps := fun q => by
    rw [hps, mem_takeComplete, batchDone, htr, hm]
    rfl
  unfold batchReports
  intro batches u'
  have hu' : u' = u := by
    rw [hu]
    simp only [u', batches, htr, hpts]
    rw [hm]
    rfl
  clear_value u'
  subst hu'
  simp only [hdone]
  have hr : RunSound u' := by rw [hu, hm]; exact h.congr ⟨rfl, rfl, rfl, rfl, rfl, rfl, rfl, rfl, fun _ => id⟩
  have hn' : anySensable u' = anySensable s := by
    rw [hu]
    exact anySensable_congr hn (by rw [hm]; rfl)
  obtain ⟨bs, rfl⟩ : ∃ bs, u' = { s with points := m.points, matrix := { s.matrix with batches := bs } } :=
    ⟨u'.matrix.batches, by rw [hu, hm]; rfl⟩
  rw [ht]
  clear ht hdone htr hpts hps batches hu
  by_cases h1 : s.run.state = .prepare
  · have h2 : s.run.sweepStage = .none := h.sweepStageNone (by rw [h1]; decide)
    have h3 : s.run.insStage = .none := h.insStageNone (by rw [h1]; decide)
    rw [reports_awaited hr (if_pos h1)]
    by_cases hq : Purpose.prepare ∈ ps
    · rw [if_pos hq, if_pos ⟨h1, hq⟩]
      exact prepare_leads hr h1
    · simp only [h1, h2, h3, hq, and_false, false_and, if_false, reduceCtorEq]
  by_cases h2 : s.run.sweepStage = .settling
  · have h3 : s.run.insStage = .none := h.insStageNone (by rw [h.sweep (by rw [h2]; decide)]; decide)
    rw [← hn', reports_awaited hr ((if_neg h1).trans (if_pos h2))]
    by_cases hq : Purpose.toDrive ∈ ps
    · rw [if_pos hq, if_neg (fun k => h1 k.1), if_pos ⟨h2, hq⟩]
      exact toDrive_leads (s := { s with points := m.points, matrix := { s.matrix with batches := bs } }) h2
    · simp only [h1, h2, h3, hq, and_false, false_and, if_false, reduceCtorEq]
  by_cases h3 : s.run.sweepStage = .ending
  · have h4 : s.run.insStage = .none := h.insStageNone (by rw [h.sweep (by rw [h3]; decide)]; decide)
    rw [reports_awaited hr ((if_neg h1).trans ((if_neg h2).trans (if_pos h3)))]
    by_cases hq : Purpose.endFloat ∈ ps
    · rw [if_pos hq, if_neg (fun k => h1 k.1), if_neg (fun k => h2 k.1), if_pos ⟨h3, hq⟩]
      exact if_pos h3
    · simp only [h1, h2, h4, hq, and_false, false_and, if_false, reduceCtorEq]
  have hs {q : Purpose} (h5 : (if s.run.insStage = .switching then some .switching
      else if s.run.insStage = .restoring then some .restoring else none) = some q) :
      awaited { s with points := m.points, matrix := { s.matrix with batches := bs } } = some q :=
    (if_neg h1).trans ((if_neg h2).trans ((if_neg h3).trans h5))
  rw [if_neg (fun k => h1 k.1), if_neg (fun k => h2 k.1), if_neg (fun k => h3 k.1)]
  by_cases h4 : s.run.insStage = .switching
  · rw [reports_awaited hr (hs (if_pos h4))]
    by_cases hq : Purpose.switching ∈ ps
    · rw [if_pos hq, if_pos ⟨h4, hq⟩]
      exact if_pos h4
    · simp only [h4, hq, and_false, false_and, if_false, reduceCtorEq]
  by_cases h5 : s.run.insStage = .restoring
  · have ha := hs ((if_neg h4).trans (if_pos h5))
    rw [reports_awaited hr ha]
    by_cases hq : Purpose.restoring ∈ ps
    · rw [if_pos hq, if_neg (fun k => h4 k.1), if_pos ⟨h5, hq⟩]
      exact if_pos h5
    · simp only [h4, hq, and_false, false_and, if_false]
  · have hnone : awaited { s with points := m.points, matrix := { s.matrix with batches := bs } } = none :=
      (if_neg h1).trans ((if_neg h2).trans ((if_neg h3).trans ((if_neg h4).trans (if_neg h5))))
    rw [reports_none hr hnone, if_neg (fun k => h4 k.1), if_neg (fun k => h5 k.1)]

end Sys2Proof.Machine
end

section
/-! SUPPORT. Break and settle times and the request for one point, stage by stage (R24, R25, R29), and the statement of the family
that they settle. -/

namespace Sys2Proof.Machine

/-! ## One point, stage by stage -/

/-- The end of a break time, by the target pending (R24, R29). -/
theorem breakEnds_stages {live : Bool} {settle : Nat} {p : Point} :
    breakEnds live settle p =
      if p.stage = .brk then
        match p.pending with
        | some .float => { p with switch := .float, pending := none, stage := .rest }
        | some .hv => if live = true then { p with stage := .waitLive } else { p with stage := .settle .hv settle }
        | some x => { p with stage := .settle x settle }
        | none => p
      else p := by
  obtain ⟨net, role, sw, pending, stage⟩ := p
  cases stage with
  | brk =>
    cases pending with
    | none => rfl
    | some t => cases t with
      | hv => cases live <;> rfl
      | _ => rfl
  | _ => rfl

/-- The end of a settle time (R24, R29), for a lawful record. -/
theorem settleEnds_stages {live : Bool} {p : Point} (h : pointLawful p = true) :
    settleEnds live p =
      match p.stage with
      | .settle closed _ =>
          if p.pending = some closed then { p with switch := closed, pending := none, stage := .rest }
          else { p with switch := closed, stage := if closed = .hv ∧ live = true then .deferred else .brk }
      | _ => p := by
  obtain ⟨net, role, sw, pending, stage⟩ := p
  cases stage with
  | settle closed _ =>
      cases pending with
      | none => simp [pointLawful] at h
      | some t =>
          by_cases hc : closed = t
          · subst hc; exact (if_pos rfl).trans (if_pos rfl).symm
          · exact (if_neg hc).trans (if_neg fun k => hc (Option.some.inj k).symm).symm
  | _ => rfl

/-- A request for one point (R24, R25, R29), for a lawful record. -/
theorem requestPoint_stages (live : Bool) (settle : Nat) (target : Switch) {p : Point} (h : pointLawful p = true) :
    let held (t : Switch) : Point := { p with pending := some t }
    requestPoint live settle target p =
      match p.stage with
      | .rest =>
          if p.switch = target then p
          else { held target with stage := if p.switch = .hv ∧ live = true then .deferred else .brk }
      | .deferred =>
          if target = .hv then { p with pending := none, stage := .rest }
          else { held target with stage := if live = true then .deferred else .brk }
      | .brk => held target
      | .waitLive =>
          if target = .hv then p
          else if target = .float then { p with switch := .float, pending := none, stage := .rest }
          else { held target with stage := .settle target settle }
      | .settle closed _ =>
          if p.pending = some target then p
          else if target = closed ∨ (closed = .hv ∧ live = true) then held target
          else { held target with stage := .brk } := by
  obtain ⟨net, role, sw, pending, stage⟩ := p
  cases stage with
  | rest => rfl
  | brk => rfl
  | deferred =>
      obtain rfl : sw = .hv := by
        simp only [pointLawful, Bool.and_eq_true, beq_iff_eq] at h
        exact h.1.1
      by_cases ht : target = .hv
      · subst ht; rfl
      · refine (if_neg (Ne.symm ht)).trans (Eq.trans ?_ (if_neg ht).symm)
        simp [startChange]
  | waitLive =>
      obtain rfl : pending = some .hv := by simpa [pointLawful] using h
      by_cases ht : target = .hv
      · subst ht; rfl
      · exact (if_neg ht).trans (if_neg ht).symm
  | settle closed n =>
      by_cases h1 : pending = some target
      · subst h1
        exact (if_pos (.inl rfl)).trans (if_pos rfl).symm
      · refine Eq.trans ?_ (if_neg h1).symm
        by_cases h2 : closed = target
        · subst h2
          exact (if_pos (.inr rfl)).trans (if_pos (.inl rfl)).symm
        · refine (if_neg (not_or.2 ⟨h1, h2⟩)).trans ?_
          by_cases h3 : closed = .hv ∧ live = true
          · exact (if_pos h3).trans (if_pos (.inr h3)).symm
          · exact (if_neg h3).trans (if_neg (not_or.2 ⟨Ne.symm h2, h3⟩)).symm

/-! ## The ends of break and settle times -/

/-- Points moved record by record, each keeping its netlist, and the batches that complete with them reported (R28). -/
theorem timeEnd_reports {f : Nat → Point → Point} (hf : ∀ j p, netlistOf (f j p) = netlistOf p) {s : State}
    (h : runLawful s = true) :
    eachPoint s (reportAll (dropReached (mapPoints f s))) f ∧
      batchReports s (reportAll (dropReached (mapPoints f s))) := by
  have hpts : (reportAll (dropReached (mapPoints f s))).points = (mapPoints f s).points := by simp [dropReached, setBatches]
  refine ⟨⟨?_, fun j hj => ?_⟩, reportAll_batchReports ((runLawful_iff s).1 h) rfl (mapPoints_netlist f hf s)⟩
  · rw [hpts]; simp
  · rw [pointAt_congr hpts, pointAt_mapPoints f s j hj]

/-- Records that two updates move alike, point by point. -/
theorem eachPoint_congr {s t : State} {f g : Nat → Point → Point} (h : eachPoint s t f)
    (hfg : ∀ j, f j (pointAt s j) = g j (pointAt s j)) : eachPoint s t g :=
  ⟨h.1, fun j hj => (h.2 j hj).trans (hfg j)⟩

/-- Settles O44: each record by its stage, the batches by the report that the run awaits. -/
theorem breakAndSettleTimesEnd : Obligations.BreakAndSettleTimesEnd := by
  unfold Obligations.BreakAndSettleTimesEnd
  refine ⟨fun points s hp hr => ?_, fun live settle target p h => requestPoint_stages live settle target h⟩
  have hlaw := ((pointsLawful_iff s).1 hp).2
  constructor
  · obtain ⟨he, hb⟩ := timeEnd_reports (s := s)
      (f := fun i p => if points.contains i then breakEnds s.lines.liveSeen s.params.s p else p)
      (fun j p => by split; exacts [breakEnds_netlist _ _ p, rfl]) hr
    refine ⟨_, rfl, eachPoint_congr he fun j => ?_, hb⟩
    by_cases hj : j ∈ points
    · refine (if_pos (List.contains_iff_mem.2 hj)).trans (breakEnds_stages.trans ?_)
      by_cases hk : (pointAt s j).stage = .brk
      · exact (if_pos hk).trans (if_pos ⟨hj, hk⟩).symm
      · exact (if_neg hk).trans (if_neg fun k => hk k.2).symm
    · exact (if_neg fun k => hj (List.contains_iff_mem.1 k)).trans (if_neg fun k => hj k.1).symm
  · obtain ⟨he, hb⟩ := timeEnd_reports (s := s)
      (f := fun i p => if points.contains i then settleEnds s.lines.liveSeen p else p)
      (fun j p => by split; exacts [settleEnds_netlist _ p, rfl]) hr
    refine ⟨_, rfl, eachPoint_congr he fun j => ?_, hb⟩
    by_cases hj : j ∈ points
    · refine (if_pos (List.contains_iff_mem.2 hj)).trans ((settleEnds_stages (hlaw j)).trans ?_)
      cases (pointAt s j).stage with
      | settle closed n => exact (if_neg (not_not.2 hj)).symm
      | _ => rfl
    · refine (if_neg fun k => hj (List.contains_iff_mem.1 k)).trans ?_
      cases (pointAt s j).stage with
      | settle closed n => exact (if_pos hj).symm
      | _ => rfl

end Sys2Proof.Machine
end

section
/-! SUPPORT. The laws of the transmit slot (R43, R44), of the consecutive-error count (R49, R50), of the lines (R53 to R55) and of the
Insulation Engine (R119, R120, R126), each as a predicate with a name for every law, and what the operations on the slot make of
the first. -/

namespace Sys2Proof.Machine

/-! ## Entries of the slot -/

theorem entryLawful_iff (a : Addr) (e : TxEntry) : entryLawful a e = true ↔
    e.frame.src = a ∧ stationSends (entryKind e) = true ∧
    (e.begun = false → e.doomed = false ∧ e.recalled = false ∧ e.beside = none) ∧
    ∀ f, e.beside = some f → f.src = a ∧ kindCode f.payload = entryKind e := by
  cases hb : e.begun <;> cases hs : e.beside <;> simp [entryLawful, hb, hs, and_assoc]

/-- A frame of the station not begun, of a kind that stations send, is a lawful entry. -/
theorem freshEntry_lawful {a : Addr} {f : Frame} (hs : f.src = a) (hk : stationSends (kindCode f.payload) = true) :
    entryLawful a (freshEntry f) = true :=
  (entryLawful_iff a _).2 ⟨hs, hk, fun _ => ⟨rfl, rfl, rfl⟩, fun _ h => by cases h⟩

/-! ## The slot as a list -/

/-- The entries of a sound slot at a station address: in the order of their kinds, each lawful, at most one begun. -/
structure SlotOrder (a : Addr) (slot : List TxEntry) : Prop where
  sorted : slot.Pairwise fun x y => entryKind x < entryKind y
  entries : ∀ e ∈ slot, entryLawful a e = true
  begun : ∀ x ∈ slot, ∀ y ∈ slot, x.begun = true → y.begun = true → entryKind x = entryKind y

/-- In a slot in the order of kinds, at most one frame has begun where no two of different kinds have. -/
theorem begunOnce_iff {slot : List TxEntry} (h : slot.Pairwise fun x y => entryKind x < entryKind y) :
    (slot.filter TxEntry.begun).length ≤ 1 ↔
      ∀ x ∈ slot, ∀ y ∈ slot, x.begun = true → y.begun = true → entryKind x = entryKind y := by
  have hm : ∀ x, x ∈ slot.filter TxEntry.begun ↔ x ∈ slot ∧ x.begun = true := fun x => List.mem_filter
  have hs := h.filter TxEntry.begun
  generalize slot.filter TxEntry.begun = l at hm hs
  rcases l with _ | ⟨x, _ | ⟨y, l⟩⟩
  · exact ⟨fun _ x hx y _ bx _ => absurd ((hm x).2 ⟨hx, bx⟩) List.not_mem_nil, fun _ => Nat.zero_le 1⟩
  · refine ⟨fun _ u hu v hv bu bv => ?_, fun _ => Nat.le_refl 1⟩
    rw [List.mem_singleton.1 ((hm u).2 ⟨hu, bu⟩), List.mem_singleton.1 ((hm v).2 ⟨hv, bv⟩)]
  · have hxy : entryKind x < entryKind y := (List.pairwise_cons.1 hs).1 y List.mem_cons_self
    obtain ⟨hx, bx⟩ := (hm x).1 List.mem_cons_self
    obtain ⟨hy, yb⟩ := (hm y).1 (List.mem_cons_of_mem _ List.mem_cons_self)
    exact ⟨fun k => absurd k (by simp), fun hk => absurd (hk x hx y hy bx yb) (Nat.ne_of_lt hxy)⟩

theorem SlotOrder.nil (a : Addr) : SlotOrder a [] := ⟨.nil, by simp, by simp⟩

/-- Rewritten entry by entry, each entry kept lawful and of its kind and none begun, a slot stays in order. -/
theorem SlotOrder.filterMap {a : Addr} {slot : List TxEntry} (h : SlotOrder a slot) {g : TxEntry → Option TxEntry}
    (hg : ∀ e e', entryLawful a e = true → g e = some e' →
      entryKind e' = entryKind e ∧ entryLawful a e' = true ∧ (e'.begun = true → e.begun = true)) :
    SlotOrder a (slot.filterMap g) := by
  have hmem : ∀ e' ∈ slot.filterMap g, ∃ e ∈ slot, entryKind e' = entryKind e ∧ entryLawful a e' = true ∧
      (e'.begun = true → e.begun = true) := fun e' he' => by
    obtain ⟨e, he, hx⟩ := List.mem_filterMap.1 he'
    exact ⟨e, he, hg e e' (h.entries e he) hx⟩
  refine ⟨?_, fun e' he' => ?_, fun x hx y hy bx yb => ?_⟩
  · rw [List.pairwise_filterMap]
    refine h.sorted.imp_of_mem fun {x y} hx hy hxy x' hx' y' hy' => ?_
    rw [(hg x x' (h.entries x hx) hx').1, (hg y y' (h.entries y hy) hy').1]
    exact hxy
  · obtain ⟨e, -, -, hl, -⟩ := hmem e' he'; exact hl
  · obtain ⟨x0, hx0, kx, -, b0⟩ := hmem x hx
    obtain ⟨y0, hy0, ky, -, b1⟩ := hmem y hy
    rw [kx, ky]
    exact h.begun x0 hx0 y0 hy0 (b0 bx) (b1 yb)

/-- An entry inserted keeps a slot in order where, begun, it is of the kind of the begun one. -/
theorem SlotOrder.insertEntry {a : Addr} {slot : List TxEntry} (h : SlotOrder a slot) {e : TxEntry}
    (he : entryLawful a e = true) (hb : e.begun = true → ∀ x ∈ slot, x.begun = true → entryKind x = entryKind e) :
    SlotOrder a (insertEntry e slot) := by
  refine ⟨insertEntry_sorted e slot h.sorted, fun x hx => ?_, fun x hx y hy bx yb => ?_⟩
  · rcases (mem_insertEntry e x slot).1 hx with rfl | ⟨hx, -⟩
    · exact he
    · exact h.entries x hx
  · rcases (mem_insertEntry e x slot).1 hx with hx | ⟨hx', -⟩ <;> rcases (mem_insertEntry e y slot).1 hy with hy | ⟨hy', -⟩
    · rw [hx, hy]
    · rw [hx]; exact (hb (hx ▸ bx) y hy' yb).symm
    · rw [hy]; exact hb (hy ▸ yb) x hx' bx
    · exact h.begun x hx' y hy' bx yb

/-- A frame of the station queued keeps the slot in order (R43). -/
theorem SlotOrder.putFrame {a : Addr} {slot : List TxEntry} (h : SlotOrder a slot) {f : Frame} (hs : f.src = a)
    (hk : stationSends (kindCode f.payload) = true) : SlotOrder a (putFrame f slot) := by
  rcases putFrame_cases f slot with ⟨e, he, hb, hf, hp⟩ | hp <;> rw [hp]
  · obtain ⟨hsrc, hsend, -, -⟩ := (entryLawful_iff a e).1 (h.entries e he)
    refine h.insertEntry ((entryLawful_iff a _).2 ⟨hsrc, hsend, fun k => ?_, fun g hg => ?_⟩) fun _ x hx bx =>
      h.begun x hx e he bx hb
    · exact absurd (hb.symm.trans k) Bool.noConfusion
    · cases hg; exact ⟨hs, hf.symm⟩
  · exact h.insertEntry (freshEntry_lawful hs hk) fun k => Bool.noConfusion k

/-- What a withdrawal of frames makes of lawful entries keeps the slot in order (R43). -/
theorem SlotOrder.withdrawn {a : Addr} {slot : List TxEntry} (h : SlotOrder a slot) (p : TxEntry → Prop) [DecidablePred p] :
    SlotOrder a (slot.filterMap fun e => if p e then withdrawn e else some e) := by
  refine h.filterMap fun e e' he hx => ?_
  split at hx
  · unfold Machine.withdrawn at hx
    split at hx
    · rename_i hb
      cases hx
      obtain ⟨hsrc, hsend, -, -⟩ := (entryLawful_iff a e).1 he
      exact ⟨rfl, (entryLawful_iff a _).2 ⟨hsrc, hsend, fun k => absurd (hb.symm.trans k) Bool.noConfusion,
        fun _ k => by cases k⟩, id⟩
    · cases hx
  · cases hx; exact ⟨rfl, he, id⟩

/-- The withdrawal of frames not begun keeps the slot in order (R174, R181). -/
theorem SlotOrder.dropUnbegun {a : Addr} {slot : List TxEntry} (h : SlotOrder a slot) (which : TxEntry → Bool) :
    SlotOrder a (dropUnbegun which slot) := by
  refine h.filterMap fun e e' he hx => ?_
  split at hx
  · cases hx; exact ⟨rfl, he, id⟩
  · split at hx
    · rename_i hb
      cases hx
      obtain ⟨hsrc, hsend, -, hbe⟩ := (entryLawful_iff a e).1 he
      exact ⟨rfl, (entryLawful_iff a _).2 ⟨hsrc, hsend, fun k => absurd (hb.symm.trans k) Bool.noConfusion,
        fun f hf => hbe f (Option.eq_some_of_filter_eq_some hf)⟩, id⟩
    · cases hx

/-- The frame held beside a lawful entry is the station's, of the entry's kind. -/
theorem beside_lawful {a : Addr} {e : TxEntry} {f : Frame} (he : entryLawful a e = true) (hf : e.beside = some f) :
    f.src = a ∧ kindCode f.payload = entryKind e ∧ entryLawful a (freshEntry f) = true := by
  obtain ⟨-, hsend, -, hbe⟩ := (entryLawful_iff a e).1 he
  obtain ⟨hs, hk⟩ := hbe f hf
  exact ⟨hs, hk, freshEntry_lawful hs (hk ▸ hsend)⟩

/-- A NOTICE formed anew is the station's like the one it replaces (R179). -/
theorem besideFrame_src (s : State) (f : Frame) : (besideFrame s f).src = f.src := by
  unfold besideFrame; split <;> rfl

/-- A frame formed anew at its frame end, from beside a lawful entry, is a lawful entry of its kind. -/
theorem besideFrame_lawful (s : State) {a : Addr} {e : TxEntry} {f : Frame} (he : entryLawful a e = true)
    (hf : e.beside = some f) : entryKind (freshEntry (besideFrame s f)) = entryKind e ∧
      entryLawful a (freshEntry (besideFrame s f)) = true := by
  obtain ⟨hs, hk, -⟩ := beside_lawful he hf
  have hkind : kindCode (besideFrame s f).payload = entryKind e := (besideFrame_kind s f).trans hk
  refine ⟨hkind, freshEntry_lawful ((besideFrame_src s f).trans hs) ?_⟩
  rw [hkind]
  exact ((entryLawful_iff a e).1 he).2.1

/-- The frame of a lawful entry, pending again, is a lawful entry. -/
theorem again_lawful {a : Addr} {e : TxEntry} (he : entryLawful a e = true) : entryLawful a (freshEntry e.frame) = true := by
  obtain ⟨hs, hk, -, -⟩ := (entryLawful_iff a e).1 he
  exact freshEntry_lawful hs hk

/-- A clean frame that leaves its slot keeps it in order (R43). -/
theorem SlotOrder.sentClean {a : Addr} {slot : List TxEntry} (h : SlotOrder a slot) (k : Nat) (s : State) :
    SlotOrder a (slot.filterMap fun e => if entryKind e = k then afterClean s e else some e) := by
  refine h.filterMap fun e e' he hx => ?_
  split at hx
  · obtain ⟨f, hf, rfl⟩ := Option.map_eq_some_iff.1 hx
    obtain ⟨hk, hl⟩ := besideFrame_lawful s he hf
    exact ⟨hk, hl, fun k => Bool.noConfusion k⟩
  · cases hx; exact ⟨rfl, he, id⟩

/-- What the frame end of another frame makes of an entry keeps the slot in order (R44). -/
theorem SlotOrder.afterLoss {a : Addr} {slot : List TxEntry} (h : SlotOrder a slot) :
    SlotOrder a (slot.filterMap afterLoss) := by
  refine h.filterMap fun e e' he hx => ?_
  obtain ⟨hk, hb⟩ := afterLoss_kind a e e' he hx
  refine ⟨hk, ?_, fun k => absurd (hb.symm.trans k) Bool.noConfusion⟩
  unfold Machine.afterLoss at hx
  split at hx
  · cases hx; exact he
  · split at hx
    · rename_i f hf; cases hx; exact (beside_lawful he hf).2.2
    · split at hx
      · cases hx
      · cases hx; exact again_lawful he

/-- What a frame end with ERR makes of an entry keeps the slot in order (R43). -/
theorem SlotOrder.afterFailure {a : Addr} {slot : List TxEntry} (h : SlotOrder a slot) (s : State) :
    SlotOrder a (slot.filterMap (afterFailure s)) := by
  refine h.filterMap fun e e' he hx => ?_
  obtain ⟨hk, hb⟩ := afterFailure_kind s a e e' he hx
  refine ⟨hk, ?_, fun k => absurd (hb.symm.trans k) Bool.noConfusion⟩
  unfold Machine.afterFailure at hx
  split at hx
  · cases hx; exact he
  · split at hx
    · rename_i f hf; cases hx; exact (besideFrame_lawful s he hf).2
    · split at hx
      · cases hx
      · cases hx; exact again_lawful he

/-- A frame begun where none has keeps the slot in order (R44). -/
theorem SlotOrder.begin {a : Addr} {slot : List TxEntry} (h : SlotOrder a slot) (hn : slot.any TxEntry.begun = false)
    (k : Nat) : SlotOrder a (slot.map fun e => if entryKind e = k then { e with begun := true } else e) := by
  have hkind : ∀ e : TxEntry, entryKind (if entryKind e = k then { e with begun := true } else e) = entryKind e := fun e => by
    split <;> rfl
  have hbegun : ∀ e ∈ slot, (if entryKind e = k then { e with begun := true } else e).begun = true → entryKind e = k :=
    fun e he hb => by
      split at hb
      · assumption
      · exact absurd hb (List.any_eq_false.1 hn e he)
  refine ⟨?_, fun x hx => ?_, fun x hx y hy bx yb => ?_⟩
  · exact List.pairwise_map.2 (h.sorted.imp fun hab => by rwa [hkind, hkind])
  · obtain ⟨e, he, rfl⟩ := List.mem_map.1 hx
    split
    · obtain ⟨hs, hk, -, hbe⟩ := (entryLawful_iff a e).1 (h.entries e he)
      exact (entryLawful_iff a _).2 ⟨hs, hk, fun k => Bool.noConfusion k, hbe⟩
    · exact h.entries e he
  · obtain ⟨x0, hx0, rfl⟩ := List.mem_map.1 hx
    obtain ⟨y0, hy0, rfl⟩ := List.mem_map.1 hy
    rw [hkind, hkind, hbegun x0 hx0 bx, hbegun y0 hy0 yb]

/-! ## The slot and the error count -/

/-- A sound transmit slot with a sound error count: the slot empty in HELD and SILENT, SILENT at the eighth error alone. -/
structure BusSound (s : State) : Prop where
  slot : SlotOrder s.straps.adr s.bus.slot
  quiet : s.bus.held = true ∨ s.bus.silent = true → s.bus.slot = []
  errors : s.bus.errors ≤ 8
  silent : s.bus.silent = true ↔ s.bus.errors = 8

theorem slotLawful_iff (s : State) : slotLawful s = true ↔
    SlotOrder s.straps.adr s.bus.slot ∧ (s.bus.held = true ∨ s.bus.silent = true → s.bus.slot = []) := by
  have hq : (!(s.bus.held || s.bus.silent) || s.bus.slot.isEmpty) = true ↔
      (s.bus.held = true ∨ s.bus.silent = true → s.bus.slot = []) := by
    cases s.bus.held <;> cases s.bus.silent <;> simp
  simp only [slotLawful, Bool.and_eq_true, hq, decide_eq_true_eq, List.all_eq_true]
  constructor
  · rintro ⟨⟨⟨hp, he⟩, hb⟩, hq⟩
    exact ⟨⟨hp, he, (begunOnce_iff hp).1 hb⟩, hq⟩
  · rintro ⟨h, hq⟩
    exact ⟨⟨⟨h.sorted, h.entries⟩, (begunOnce_iff h.sorted).2 h.begun⟩, hq⟩

theorem errorsLawful_iff (s : State) : errorsLawful s = true ↔
    s.bus.errors ≤ 8 ∧ (s.bus.silent = true ↔ s.bus.errors = 8) := by
  rw [errorsLawful, Bool.and_eq_true, decide_eq_true_eq, beq_iff_eq, Bool.eq_iff_iff, decide_eq_true_eq]
  rfl

theorem busSound_iff (s : State) : BusSound s ↔ slotLawful s = true ∧ errorsLawful s = true := by
  rw [slotLawful_iff, errorsLawful_iff]
  exact ⟨fun h => ⟨⟨h.slot, h.quiet⟩, h.errors, h.silent⟩, fun ⟨⟨h1, h2⟩, h3, h4⟩ => ⟨h1, h2, h3, h4⟩⟩

/-! ## The lines, the parameters and the Insulation Engine -/

/-- The stages in which HVEN is high (R118, R119). -/
def drivesHv (g : HvStage) : Bool := g == .ramp || g == .check || g == .dwell

/-- Sound interval settings: a test voltage, a window and levels in their ranges. -/
def SettingsSound (x : HvSettings) : Prop := x.volt ≤ 1500 ∧ x.w ≤ 32 ∧ ∀ g ∈ x.segments, g.level ≤ 100

/-- A sound Insulation Engine, at a station strapped HVSRC or not (R55, R118, R119, R120, R126). -/
structure HvSound (hvsrc : Bool) (h : Hv) : Prop where
  hven : h.hven = drivesHv h.stage
  low : h.hven = false → h.setpoint = 0
  ceiling : h.setpoint ≤ 1500
  window : h.window.length ≤ 32
  segments : ∀ g ∈ h.segments, g.level ≤ 100
  settings : ∀ x, h.settings = some x → SettingsSound x
  fitted : hvsrc = false → h.elected = false ∧ h.stage = .quiet

/-- Sound lines, parameters and engine (R53, R54, R55, R73, R119). -/
structure EngineSound (s : State) : Prop where
  hold : s.lines.holdOut = true → s.lines.holdSeen = true ∧ runActive s = true
  live : s.lines.liveOut = true → s.lines.liveSeen = true ∧ s.straps.hvsrc = true
  params : paramsLawful s.params = true
  hv : HvSound s.straps.hvsrc s.hv

theorem linesLawful_iff (s : State) : linesLawful s = true ↔
    (s.lines.holdOut = true → s.lines.holdSeen = true ∧ runActive s = true) ∧
    (s.lines.liveOut = true → s.lines.liveSeen = true ∧ s.straps.hvsrc = true) := by
  cases h1 : s.lines.holdOut <;> cases h2 : s.lines.liveOut <;> simp [linesLawful, h1, h2]

theorem hvLawful_iff (s : State) : hvLawful s = true ↔ HvSound s.straps.hvsrc s.hv := by
  have h1 : (s.hv.settings.all fun x => decide (x.volt ≤ 1500) && decide (x.w ≤ 32) && x.segments.all segmentLawful) = true ↔
      ∀ x, s.hv.settings = some x → SettingsSound x := by
    cases s.hv.settings <;> simp [SettingsSound, segmentLawful, and_assoc]
  have h2 : (s.straps.hvsrc || (!s.hv.elected && s.hv.stage == .quiet)) = true ↔
      (s.straps.hvsrc = false → s.hv.elected = false ∧ s.hv.stage = .quiet) := by
    cases s.straps.hvsrc <;> simp
  have h3 : (s.hv.hven || decide (s.hv.setpoint = 0)) = true ↔ (s.hv.hven = false → s.hv.setpoint = 0) := by
    cases s.hv.hven <;> simp
  simp only [hvLawful, Bool.and_eq_true, h1, h2, h3, beq_iff_eq, decide_eq_true_eq, List.all_eq_true, segmentLawful, and_assoc]
  exact ⟨fun ⟨a, b, c, d, e, f, g⟩ => ⟨a, b, c, d, e, f, g⟩,
    fun h => ⟨h.hven, h.low, h.ceiling, h.window, h.segments, h.settings, h.fitted⟩⟩

theorem engineSound_iff (s : State) : EngineSound s ↔
    linesLawful s = true ∧ paramsLawful s.params = true ∧ hvLawful s = true := by
  rw [linesLawful_iff, hvLawful_iff]
  exact ⟨fun h => ⟨⟨h.hold, h.live⟩, h.params, h.hv⟩, fun ⟨⟨h1, h2⟩, h3, h4⟩ => ⟨h1, h2, h3, h4⟩⟩

end Sys2Proof.Machine
end

section
/-! SUPPORT. What every command but POWER_UP keeps of a station (R43, R49, R53 to R55, R57, R73, R119, R178, R184): one relation
between the state before and the state after, which composes, and its lemma for each shared operation. -/

namespace Sys2Proof.Machine

/-- The queue and the straps as they were; every event masked in HELD, and the laws of the transmit slot, the error count, the
lines, the parameters and the Insulation Engine kept. -/
structure StationKept (s t : State) : Prop where
  pending : t.pending = s.pending
  straps : t.straps = s.straps
  mask : maskLawful s = true → maskLawful t = true
  bus : BusSound s → BusSound t
  engine : EngineSound s → EngineSound t

/-- The lines, the parameters and the engine are sound by these fields alone. -/
theorem EngineSound.congr {s t : State} (h : EngineSound s) (k : t.straps = s.straps ∧ t.lines = s.lines ∧
    t.run.state = s.run.state ∧ t.params = s.params ∧ t.hv = s.hv) : EngineSound t := by
  obtain ⟨k1, k2, k3, k4, k5⟩ := k
  have ka := runActive_congr k3
  exact ⟨by rw [k2, ka]; exact h.hold, by rw [k2, k1]; exact h.live, k4 ▸ h.params, by rw [k1, k5]; exact h.hv⟩

namespace StationKept

theorem refl (s : State) : StationKept s s := ⟨rfl, rfl, id, id, id⟩

theorem trans {s u t : State} (h : StationKept s u) (k : StationKept u t) : StationKept s t :=
  ⟨k.pending.trans h.pending, k.straps.trans h.straps, k.mask ∘ h.mask, k.bus ∘ h.bus, k.engine ∘ h.engine⟩

/-- The fields of the queue, the straps, the bus states and the mask, as they were. -/
def sameStation (s t : State) : Prop :=
  t.pending = s.pending ∧ t.straps = s.straps ∧ t.decoder.mask = s.decoder.mask ∧ t.bus.held = s.bus.held ∧
  t.bus.silent = s.bus.silent ∧ t.bus.errors = s.bus.errors

/-- The fields of the lines, the run state, the parameters and the engine, as they were. -/
def sameEngine (s t : State) : Prop :=
  t.lines = s.lines ∧ t.run.state = s.run.state ∧ t.params = s.params ∧ t.hv = s.hv

/-- An operation on the slot and on the lines, the parameters or the engine that keeps the laws of both. -/
theorem ofParts {s t : State} (h : sameStation s t)
    (hs : BusSound s → SlotOrder s.straps.adr t.bus.slot ∧
      (s.bus.held = true ∨ s.bus.silent = true → t.bus.slot = []))
    (he : EngineSound s → EngineSound t) : StationKept s t := by
  obtain ⟨h1, h2, h3, h4, h5, h6⟩ := h
  refine ⟨h1, h2, by simp only [maskLawful, h3, h4]; exact id, fun k => ?_, he⟩
  obtain ⟨ho, hq⟩ := hs k
  exact ⟨h2 ▸ ho, by rw [h4, h5]; exact hq, h6 ▸ k.errors, by rw [h5, h6]; exact k.silent⟩

/-- An operation on the slot alone that keeps it in order, and empty where it must be. -/
theorem ofSlot {s t : State} (h : sameStation s t) (k : sameEngine s t)
    (hs : BusSound s → SlotOrder s.straps.adr t.bus.slot ∧
      (s.bus.held = true ∨ s.bus.silent = true → t.bus.slot = [])) : StationKept s t :=
  ofParts h hs fun he => he.congr ⟨h.2.1, k⟩

/-- An operation that leaves the slot alone and keeps the lines, the parameters and the engine sound. -/
theorem ofEngine {s t : State} (h : sameStation s t ∧ t.bus.slot = s.bus.slot) (he : EngineSound s → EngineSound t) :
    StationKept s t :=
  ofParts h.1 (fun k => by rw [h.2]; exact ⟨k.slot, k.quiet⟩) he

/-- An operation that leaves every field of which the relation speaks alone. -/
theorem ofSame {s t : State} (h : sameStation s t ∧ t.bus.slot = s.bus.slot ∧ sameEngine s t) : StationKept s t :=
  ofEngine ⟨h.1, h.2.1⟩ fun he => he.congr ⟨h.1.2.1, h.2.2⟩

/-- An operation that rewrites the slot entry by entry and changes nothing else. -/
theorem ofRewrite {s t : State} (h : sameStation s t) (k : sameEngine s t) {g : TxEntry → Option TxEntry}
    (ht : t.bus.slot = s.bus.slot.filterMap g)
    (hg : SlotOrder s.straps.adr s.bus.slot → SlotOrder s.straps.adr (s.bus.slot.filterMap g)) : StationKept s t :=
  ofSlot h k fun hb => ht ▸ ⟨hg hb.slot, fun hq => by rw [hb.quiet hq]; rfl⟩

end StationKept

/-! ## The transmit slot -/

/-- A frame queued, of a kind that stations send (R43). -/
theorem queue_kept {p : Payload} (hp : stationSends (kindCode p) = true) (dst : Addr) (s : State) :
    StationKept s (queue dst p s) := by
  cases hq : s.bus.held || s.bus.silent
  · rw [queue_puts dst p s hq]
    refine .ofSlot ⟨rfl, rfl, rfl, rfl, rfl, rfl⟩ ⟨rfl, rfl, rfl, rfl⟩ fun k => ⟨k.slot.putFrame rfl hp, fun h => ?_⟩
    simp_all
  · rw [queue_quiet dst p s hq]; exact .refl s

/-- A withdrawal (R43). -/
theorem withdraw_kept (k : Nat) (s : State) : StationKept s (withdraw k s) :=
  .ofRewrite ⟨rfl, rfl, rfl, rfl, rfl, rfl⟩ ⟨rfl, rfl, rfl, rfl⟩ rfl fun h => h.withdrawn (fun e => entryKind e = k)

/-- The withdrawal of a frame not begun (R181). -/
theorem withdrawUnbegun_kept (k : Nat) (s : State) : StationKept s (withdrawUnbegun k s) :=
  .ofRewrite ⟨rfl, rfl, rfl, rfl, rfl, rfl⟩ ⟨rfl, rfl, rfl, rfl⟩ rfl fun h => h.dropUnbegun _

/-- The withdrawal of the class 1 frames (R83). -/
theorem withdrawClassOne_kept (s : State) : StationKept s (withdrawClassOne s) :=
  .ofRewrite ⟨rfl, rfl, rfl, rfl, rfl, rfl⟩ ⟨rfl, rfl, rfl, rfl⟩ rfl fun h =>
    h.withdrawn (fun e => 2 ≤ entryKind e ∧ entryKind e ≤ 7)

/-- The pause of the delayed-request service (R174). -/
theorem pauseService_kept (s : State) : StationKept s (pauseService s) := by
  unfold pauseService
  split
  · exact .ofRewrite ⟨rfl, rfl, rfl, rfl, rfl, rfl⟩ ⟨rfl, rfl, rfl, rfl⟩ rfl fun h => h.dropUnbegun _
  · exact .refl s

/-- The frame end of another frame (R44). -/
theorem notSent_kept (s : State) : StationKept s (notSent s) := by
  refine .trans (u := setSlot (s.bus.slot.filterMap afterLoss) s) ?_ (pauseService_kept _)
  exact .ofRewrite ⟨rfl, rfl, rfl, rfl, rfl, rfl⟩ ⟨rfl, rfl, rfl, rfl⟩ rfl fun h => h.afterLoss

/-- The frame end of the station's own frame with ERR (R43). -/
theorem erred_kept (s : State) : StationKept s (erred s) := by
  refine .trans (u := setSlot (s.bus.slot.filterMap (afterFailure s)) s) ?_ (pauseService_kept _)
  exact .ofRewrite ⟨rfl, rfl, rfl, rfl, rfl, rfl⟩ ⟨rfl, rfl, rfl, rfl⟩ rfl fun h => h.afterFailure s

/-- An own frame stands in the slot, so the station is neither in HELD nor SILENT (R49, R51, R58). -/
theorem isOwn_listens {f : Frame} {s : State} (h : BusSound s) (ho : isOwn f s = true) : s.bus.silent = false := by
  cases hs : s.bus.silent
  · rfl
  · simp [isOwn, slotEntry, h.quiet (.inr hs)] at ho

/-- The station's own clean frame leaves its slot and clears the error count (R43, R49). -/
theorem sentClean_kept {f : Frame} {s : State} (ho : isOwn f s = true) : StationKept s (sentClean (kindCode f.payload) s) := by
  refine ⟨rfl, rfl, id, fun k => ?_, fun k => k.congr ⟨rfl, rfl, rfl, rfl, rfl⟩⟩
  have hs := isOwn_listens k ho
  refine ⟨k.slot.sentClean _ s, fun hq => ?_, Nat.zero_le 8, ?_⟩
  · have : s.bus.slot = [] := k.quiet hq
    simp [sentClean, this]
  · simp [sentClean, hs]

/-- An event (R178, R179). -/
theorem raise_kept (e : Event) (s : State) : StationKept s (raise e s) := by
  have h1 : StationKept s (setStatus (s.decoder.status ||| eventMask e) s) := .ofSame (by
    simp [StationKept.sameStation, StationKept.sameEngine])
  unfold raise
  simp only
  split
  · exact h1
  · exact h1.trans (queue_kept rfl _ _)

/-- An answer (R168). -/
theorem reply_kept (h : Header) (code : Nat) (d : List Byte) (s : State) : StationKept s (reply h code d s) :=
  queue_kept rfl _ s

/-- A refusal (R170). -/
theorem refuse_kept (h : Header) (code : Nat) (why : RefusalCode) (sel : Nat) (s : State) :
    StationKept s (refuse h code why sel s) := queue_kept rfl _ s

/-! ## The Defect List and the printout -/

theorem setDefects_kept (d : Defects) (s : State) : StationKept s (setDefects d s) :=
  .ofSame ⟨⟨rfl, rfl, rfl, rfl, rfl, rfl⟩, rfl, rfl, rfl, rfl, rfl⟩

theorem setPrint_kept (p : Printer) (s : State) : StationKept s (setPrint p s) :=
  .ofSame ⟨⟨rfl, rfl, rfl, rfl, rfl, rfl⟩, rfl, rfl, rfl, rfl, rfl⟩

/-- An offer (R141). -/
theorem offer_kept (d : Defect) (s : State) : StationKept s (offer d s) := by
  rcases offer_outcomes d s with h | ⟨lo, hi, -, -, -, h⟩ | ⟨-, h⟩ <;> rw [h]
  · exact .refl s
  · exact setDefects_kept _ s
  · unfold storeOffer
    split
    · exact setDefects_kept _ s
    · exact (setDefects_kept _ s).trans (raise_kept _ _)

/-- A list of offers (R140). -/
theorem offerAll_kept (ds : List Defect) (s : State) : StationKept s (offerAll ds s) := by
  induction ds generalizing s with
  | nil => exact .refl s
  | cons d ds ih => exact (offer_kept d s).trans (ih _)

/-- The end of a print pass (R153). -/
theorem endPass_kept (how : PassEnd) (s : State) : StationKept s (endPass how s) :=
  (setPrint_kept _ s).trans (withdraw_kept 15 _)

/-- What a pass prints next is a LINE (R155). -/
theorem nextLine_kind (s : State) : kindCode (nextLine s) = 15 := by
  unfold nextLine; split <;> [rfl; split <;> rfl]

/-- The LINE bid (R157). -/
theorem rebid_kept (s : State) : StationKept s (rebid s) := by
  unfold rebid
  split
  · exact queue_kept (by rw [nextLine_kind]; rfl) _ s
  · exact withdraw_kept 15 s

/-- A pass start (R152). -/
theorem startPass_kept (s : State) : StationKept s (startPass s) := (setDefects_kept _ s).trans (setPrint_kept _ _)

/-- A clean LINE (R145, R151, R157 to R161). -/
theorem takeLine_kept (src : Addr) (key : Value) (s : State) : StationKept s (takeLine src key s) := by
  have h1 : StationKept s (markLine src key (setPrint { s.print with credit := s.print.credit - 1 } s)) :=
    (setPrint_kept _ s).trans (setDefects_kept _ _)
  unfold takeLine
  simp only
  split
  · exact h1
  · split
    · exact h1.trans ((setPrint_kept _ _).trans ((endPass_kept _ _).trans (raise_kept _ _)))
    · exact h1.trans ((setPrint_kept _ _).trans (rebid_kept _))

/-- A clean CREDIT (R151, R157, R162). -/
theorem takeCredit_kept (count : Nat) (s : State) : StationKept s (takeCredit count s) := by
  have h1 : StationKept s (setPrint { s.print with credit := count } s) := setPrint_kept _ s
  unfold takeCredit
  simp only
  split
  · exact h1.trans ((setPrint_kept _ _).trans (rebid_kept _))
  · exact h1

/-! ## Points, tables and jobs -/

theorem updatePoint_kept (i : Nat) (f : Point → Point) (s : State) : StationKept s (updatePoint i f s) :=
  .ofSame ⟨⟨rfl, rfl, rfl, rfl, rfl, rfl⟩, rfl, rfl, rfl, rfl, rfl⟩

theorem mapPoints_kept (f : Nat → Point → Point) (s : State) : StationKept s (mapPoints f s) :=
  .ofSame ⟨⟨rfl, rfl, rfl, rfl, rfl, rfl⟩, rfl, rfl, rfl, rfl, rfl⟩

theorem setNetMap_kept (m : List NetEntry) (s : State) : StationKept s (setNetMap m s) :=
  .ofSame ⟨⟨rfl, rfl, rfl, rfl, rfl, rfl⟩, rfl, rfl, rfl, rfl, rfl⟩

theorem setSampler_kept (x : Sampler) (s : State) : StationKept s (setSampler x s) :=
  .ofSame ⟨⟨rfl, rfl, rfl, rfl, rfl, rfl⟩, rfl, rfl, rfl, rfl, rfl⟩

theorem setContext_kept (c : Option Context) (s : State) : StationKept s (setContext c s) :=
  .ofSame ⟨⟨rfl, rfl, rfl, rfl, rfl, rfl⟩, rfl, rfl, rfl, rfl, rfl⟩

theorem setOverride_kept (o : Override) (s : State) : StationKept s (setOverride o s) :=
  .ofSame ⟨⟨rfl, rfl, rfl, rfl, rfl, rfl⟩, rfl, rfl, rfl, rfl, rfl⟩

theorem setBlockRecords_kept (r : List Block) (s : State) : StationKept s (setBlockRecords r s) :=
  .ofSame ⟨⟨rfl, rfl, rfl, rfl, rfl, rfl⟩, rfl, rfl, rfl, rfl, rfl⟩

theorem setBatches_kept (b : List Batch) (s : State) : StationKept s (setBatches b s) :=
  .ofSame ⟨⟨rfl, rfl, rfl, rfl, rfl, rfl⟩, rfl, rfl, rfl, rfl, rfl⟩

theorem setTimer_kept (x : StepTimer) (s : State) : StationKept s (setTimer x s) :=
  .ofSame ⟨⟨rfl, rfl, rfl, rfl, rfl, rfl⟩, rfl, rfl, rfl, rfl, rfl⟩

theorem setWindow_kept (w : Window) (s : State) : StationKept s (setWindow w s) :=
  .ofSame ⟨⟨rfl, rfl, rfl, rfl, rfl, rfl⟩, rfl, rfl, rfl, rfl, rfl⟩

/-- A change of the run that keeps its state. -/
theorem setRun_kept {r : Run} {s : State} (h : r.state = s.run.state) : StationKept s (setRun r s) :=
  .ofSame ⟨⟨rfl, rfl, rfl, rfl, rfl, rfl⟩, rfl, rfl, h, rfl, rfl⟩

theorem setSweepStage_kept (g : SweepStage) (s : State) : StationKept s (setSweepStage g s) := setRun_kept rfl

theorem setInsStage_kept (g : InsStage) (s : State) : StationKept s (setInsStage g s) := setRun_kept rfl

theorem setResetCount_kept (n : Nat) (s : State) : StationKept s (setResetCount n s) :=
  .ofSame ⟨⟨rfl, rfl, rfl, rfl, rfl, rfl⟩, rfl, rfl, rfl, rfl, rfl⟩

theorem timerHalt_kept (s : State) : StationKept s (timerHalt s) := by
  unfold timerHalt
  split
  · exact .refl s
  · exact setTimer_kept _ s

theorem timerResume_kept (s : State) : StationKept s (timerResume s) := by
  unfold timerResume
  split
  · exact setTimer_kept _ s
  · exact .refl s

/-- A detection (R12, R13). -/
theorem detect_kept (ids : IdCodes) (s : State) : StationKept s (detect ids s) := by
  have h1 : ∀ (p : Prop) [Decidable p] e u, StationKept u (if p then raise e u else u) := fun p _ e u => by
    split
    · exact raise_kept e u
    · exact .refl u
  unfold detect
  split
  · exact .refl s
  · exact (setBlockRecords_kept _ s).trans ((h1 _ _ _).trans (h1 _ _ _))

/-- What a run end leaves of the Sampling Engine (R62, R65, R110). -/
theorem abandonJob_kept (s : State) : StationKept s (abandonJob s) := by
  rw [abandonJob_only]; exact setSampler_kept _ s

/-- A batch request (R27). -/
theorem requestBatch_kept (why : Purpose) (targets : List (Nat × Switch)) (s : State) :
    StationKept s (requestBatch why targets s) := .ofSame (by
  simp [StationKept.sameStation, StationKept.sameEngine])

/-- A forced FLOAT (R31). -/
theorem forcedFloat_kept (s : State) : StationKept s (forcedFloat s) :=
  (mapPoints_kept _ s).trans (setBatches_kept _ _)

/-- The removal of a RETURN override (R38). -/
theorem dropReturn_kept (s : State) : StationKept s (dropReturn s) := by
  unfold dropReturn
  split
  · exact setOverride_kept .none s
  · exact .refl s

/-! ## The lines -/

/-- HOLD released by the station (R54). -/
theorem releaseHold_kept (s : State) : StationKept s (releaseHold s) :=
  .ofEngine ⟨⟨rfl, rfl, rfl, rfl, rfl, rfl⟩, rfl⟩ fun k => ⟨fun h => Bool.noConfusion h, k.live, k.params, k.hv⟩

/-- LIVE released by the station (R55). -/
theorem releaseLive_kept (s : State) : StationKept s (releaseLive s) :=
  .ofEngine ⟨⟨rfl, rfl, rfl, rfl, rfl, rfl⟩, rfl⟩ fun k => ⟨k.hold, fun h => Bool.noConfusion h, k.params, k.hv⟩

/-- HOLD seen asserted (R77). -/
theorem holdRises_kept (s : State) : StationKept s (holdRises s) := by
  rw [holdRises_only]
  refine .trans (u := { s with lines := { s.lines with holdSeen := true } }) ?_ (setTimer_kept _ _)
  exact .ofEngine ⟨⟨rfl, rfl, rfl, rfl, rfl, rfl⟩, rfl⟩ fun k =>
    ⟨fun h => ⟨rfl, (k.hold h).2⟩, k.live, k.params, k.hv⟩

/-- LIVE seen asserted (R77). -/
theorem liveRises_kept (s : State) : StationKept s (liveRises s) := by
  rw [liveRises_only]
  refine .trans (u := { s with lines := { s.lines with liveSeen := true } }) ?_ (setTimer_kept _ _)
  exact .ofEngine ⟨⟨rfl, rfl, rfl, rfl, rfl, rfl⟩, rfl⟩ fun k =>
    ⟨k.hold, fun h => ⟨rfl, (k.live h).2⟩, k.params, k.hv⟩

/-- HOLD asserted changes the slot, the line and the step timer alone (R53, R174, R77). -/
theorem assertHold_slot (s : State) :
    (assertHold s).bus.slot = s.bus.slot ∨ (assertHold s).bus.slot = dropUnbegun servesRequest s.bus.slot := by
  unfold assertHold
  split
  · exact .inl rfl
  · have hp : (pauseService { s with lines := { s.lines with holdOut := true } }).bus.slot =
        dropUnbegun servesRequest s.bus.slot := rfl
    simp only
    split
    · exact .inr hp
    · rw [(holdRises_frame _).2.2.1]; exact .inr hp

/-- HOLD asserted in an active run (R53, R54). -/
theorem assertHold_kept {s : State} (ha : runActive s = true) : StationKept s (assertHold s) := by
  refine .ofParts (by simp [StationKept.sameStation]) (fun k => ?_) fun k => ?_
  · rcases assertHold_slot s with h | h <;> rw [h]
    · exact ⟨k.slot, k.quiet⟩
    · exact ⟨k.slot.dropUnbegun _, fun hq => by rw [k.quiet hq]; rfl⟩
  · have hl := assertHold_lines s fun h => (k.hold h).1
    have hr : runActive (assertHold s) = true := (runActive_congr (by simp)).trans ha
    refine ⟨fun _ => ⟨by rw [hl], hr⟩, ?_, by simpa using k.params, by simpa using k.hv⟩
    simpa [hl] using k.live

/-- LIVE asserted at a station strapped HVSRC (R55). -/
theorem assertLive_kept {s : State} (hv : EngineSound s → s.straps.hvsrc = true) : StationKept s (assertLive s) := by
  refine .ofEngine (by simp [StationKept.sameStation]) fun k => ?_
  have hl := assertLive_lines s fun h => (k.live h).1
  have hr : runActive (assertLive s) = runActive s := runActive_congr (by simp)
  refine ⟨?_, fun _ => ⟨by rw [hl], by simpa using hv k⟩, by simpa using k.params, by simpa using k.hv⟩
  simpa [hl, hr] using k.hold

/-! ## The Insulation Engine -/

/-- A change of the engine that keeps its laws. -/
theorem setHv_kept {x : Hv} {s : State} (h : EngineSound s → HvSound s.straps.hvsrc x) : StationKept s (setHv x s) :=
  .ofEngine ⟨⟨rfl, rfl, rfl, rfl, rfl, rfl⟩, rfl⟩ fun k => ⟨k.hold, k.live, k.params, h k⟩

/-- HVEN dropped into a stage in which it is low keeps the engine sound (R118, R128, R129). -/
theorem HvSound.drop {v : Bool} {h : Hv} (k : HvSound v h) {g : HvStage} (hg : drivesHv g = false)
    (hf : v = false → g = .quiet) {r : Option HvResult} {n : Nat} :
    HvSound v { h with stage := g, setpoint := 0, hven := false, result := r, dischargeNext := n } :=
  ⟨hg.symm, fun _ => rfl, Nat.zero_le _, k.window, k.segments, k.settings, fun hv => ⟨(k.fitted hv).1, hf hv⟩⟩

/-- The following stage entered (R129). -/
theorem enterFollowing_kept (s : State) : StationKept s (enterFollowing s) := by
  unfold enterFollowing
  split
  · rename_i hv
    exact setHv_kept fun k => k.hv.drop (g := .following) rfl fun h => absurd (hv.symm.trans h) Bool.noConfusion
  · exact .refl s

/-- The quiet stage entered with HVEN low (R131). -/
theorem quietEngine_kept (s : State) : StationKept s (quietEngine s) :=
  setHv_kept fun k => k.hv.drop (g := .quiet) rfl fun _ => rfl

/-- The target of a segment does not exceed the test voltage (R121). -/
theorem segmentTarget_le {volt : Nat} {g : Segment} (h : g.level ≤ 100) : segmentTarget volt g ≤ volt := by
  unfold segmentTarget
  exact Nat.div_le_of_le_mul (by rw [Nat.mul_comm]; exact Nat.mul_le_mul_right _ h)

/-- A ramp that begins no higher than the test voltage stays so (R123). -/
theorem rampSetpoint_le {volt : Nat} {segments : List Segment} (h : ∀ g ∈ segments, g.level ≤ 100) {p : Nat} (hp : p ≤ volt)
    (t : Nat) : rampSetpoint volt p segments t ≤ volt := by
  induction segments generalizing p t with
  | nil => exact hp
  | cons g rest ih =>
      have ht : segmentTarget volt g ≤ volt := segmentTarget_le (h g List.mem_cons_self)
      unfold rampSetpoint
      simp only
      split
      · exact ih (fun x hx => h x (List.mem_cons_of_mem _ hx)) ht _
      · rename_i hg
        split
        · rename_i hle
          have : (segmentTarget volt g - p) * t / g.ms ≤ segmentTarget volt g - p :=
            Nat.div_le_of_le_mul (by rw [Nat.mul_comm]; exact Nat.mul_le_mul_right _ (by omega))
          omega
        · exact (Nat.sub_le _ _).trans hp

/-- The profile in force has levels in their range (R119, R121). -/
theorem profileSegments_level {s : State} (h : ∀ g ∈ s.hv.segments, g.level ≤ 100) :
    ∀ g ∈ profileSegments s, g.level ≤ 100 := by
  unfold profileSegments
  split
  case h_4 =>
    split
    · simp
    · exact fun g hg => h g (List.mem_of_mem_take hg)
  all_goals simp

/-- The settings an interval copies are sound (R119). -/
theorem settingsInForce_sound {s : State} (h : EngineSound s) : SettingsSound (settingsInForce s) := by
  have hp := h.params
  simp only [paramsLawful, Bool.and_eq_true, decide_eq_true_eq, and_assoc] at hp
  obtain ⟨-, -, -, -, -, -, -, -, -, hvolt, -, -, -, -, hw, -⟩ := hp
  refine ⟨hvolt, ?_, profileSegments_level h.hv.segments⟩
  have : s.params.w = 8 ∨ s.params.w = 16 ∨ s.params.w = 32 := by simpa using hw
  show s.params.w ≤ 32
  omega

/-- A setpoint of the profile stays within the test voltage (R120, R123). -/
theorem SettingsSound.setpoint {x : HvSettings} (h : SettingsSound x) (t : Nat) : rampSetpoint x.volt 0 x.segments t ≤ 1500 :=
  (rampSetpoint_le h.2.2 (Nat.zero_le _) t).trans h.1

/-- An HV interval begun at the elected source (R118, R119). -/
theorem startEngine_kept {s : State} (he : s.hv.elected = true) : StationKept s (startEngine s) :=
  setHv_kept fun k => by
    have hx := settingsInForce_sound k
    refine ⟨rfl, fun h => Bool.noConfusion h, hx.setpoint 0, Nat.zero_le _, k.hv.segments, fun x h => ?_, fun h => ?_⟩
    · cases h; exact hx
    · exact absurd (he.symm.trans (k.hv.fitted h).1) Bool.noConfusion

/-- HVEN dropped with a measured result, out of a stage in which it was high (R124 to R126). -/
theorem dropWith_kept (r : HvResult) {s : State} (h : s.hv.stage ≠ .quiet) : StationKept s (dropWith r s) :=
  setHv_kept fun k => k.hv.drop (g := .discharge) rfl fun hv => absurd (k.hv.fitted hv).2 h

/-- A leakage sample, where what its stage makes of it keeps the laws (R124). -/
theorem takeSample_kept (x : HvSettings) (sample : Nat) (monitor : Code12) {rest : State → State} {s : State}
    (hq : s.hv.stage ≠ .quiet)
    (hr : ∀ u, u.hv.stage = s.hv.stage → u.hv.settings = s.hv.settings → StationKept u (rest u)) :
    StationKept s (takeSample x sample monitor rest s) := by
  have h1 : StationKept s (setHv { s.hv with elapsed := s.hv.elapsed + 1, lastSample := sample } s) :=
    setHv_kept fun ⟨_, _, _, a, b, c, d, e, f, g⟩ => ⟨a, b, c, d, e, f, g⟩
  unfold takeSample
  simp only
  split
  · exact h1.trans (dropWith_kept _ (by exact hq))
  · exact h1.trans (hr _ rfl rfl)

/-- A RESULT queued (R128). -/
theorem queueResult_kept (v : Option Verdict) (s : State) : StationKept s (queueResult v s) := by
  unfold queueResult
  split
  · exact queue_kept rfl _ s
  · exact .refl s

/-- The end of PREPARE elects the station where it is the source (R79). -/
theorem elect_kept (s : State) : StationKept s (if s.straps.hvsrc && s.run.elected == some (addr s) then
    setHv { s.hv with elected := true } s else s) := by
  split
  · rename_i hc
    have hv : s.straps.hvsrc = true := (Bool.and_eq_true_iff.1 hc).1
    exact setHv_kept fun k => ⟨k.hv.hven, k.hv.low, k.hv.ceiling, k.hv.window, k.hv.segments, k.hv.settings, fun h =>
      absurd (hv.symm.trans h) Bool.noConfusion⟩
  · exact .refl s

end Sys2Proof.Machine
end

section
/-! SUPPORT. What the operations of a run keep of a station: passes, reports and batches, phase entries, run ends, the entry to
SILENT and the resets. -/

namespace Sys2Proof.Machine

/-! ## Passes, reports and batches -/

/-- HOLD released with a stage entered (R96). -/
theorem releaseAfterPass_kept (s : State) : StationKept s (releaseAfterPass s) :=
  (releaseHold_kept s).trans (setSweepStage_kept _ _)

/-- The driver's watch match, or the release (R96, R98). -/
theorem afterPass_stationKept (s : State) : StationKept s (afterPass s) := by
  have hraise : ∀ (p : Prop) [Decidable p] e u v, StationKept u v → StationKept u (if p then raise e v else v) :=
    fun p _ e u v h => by
      split
      · exact h.trans (raise_kept e v)
      · exact h
  have hhalt : ∀ gp w u, StationKept s u →
      StationKept s (queue Config.generalCall (.halted gp w) (setSweepStage .halted u)) := fun gp w u h =>
    h.trans ((setSweepStage_kept _ u).trans (queue_kept rfl _ _))
  unfold afterPass
  split
  · exact releaseAfterPass_kept s
  · rename_i gp _
    have h2 : StationKept s (if watchMatches s gp s.run.watch2 then
        raise .watch2 (if watchMatches s gp s.run.watch1 then raise .watch1 s else s)
        else (if watchMatches s gp s.run.watch1 then raise .watch1 s else s)) :=
      hraise _ _ _ _ (hraise _ _ _ _ (.refl s))
    simp only
    split
    · exact hhalt _ _ _ h2
    · split
      · exact hhalt _ _ _ h2
      · exact h2.trans (releaseAfterPass_kept _)

/-- The end of a sampling pass (R63). -/
theorem finishPass_kept (n : Nat) (driven : Option Nat) (readings : List Reading) (s : State) :
    StationKept s (finishPass n driven readings s) := (setSampler_kept _ s).trans (afterPass_stationKept _)

/-- A sampling pass commanded (R95). -/
theorem commandPass_kept (s : State) : StationKept s (commandPass s) := by
  have h1 : StationKept s (emptyBuffer (setSweepStage .sampling s)) := (setSweepStage_kept _ s).trans (setSampler_kept _ _)
  unfold commandPass
  simp only
  split
  · exact h1.trans (setSampler_kept _ _)
  · exact h1.trans ((setSampler_kept _ _).trans (afterPass_stationKept _))

/-- The PREPARE batch reported (R78). -/
theorem prepareDone_kept (s : State) : StationKept s (prepareDone s) := by
  unfold prepareDone
  split
  · exact queue_kept rfl _ s
  · exact releaseHold_kept s

/-- A batch reported (R28). -/
theorem report_kept (s : State) (why : Purpose) : StationKept s (report s why) := by
  unfold report
  split
  · split
    · exact prepareDone_kept s
    · exact .refl s
  · split
    · have h1 : StationKept s (setRun { s.run with driveDone := true } s) := setRun_kept rfl
      simp only
      split
      · exact h1.trans (commandPass_kept _)
      · exact h1
    · exact .refl s
  · split
    · exact (releaseHold_kept s).trans (setSweepStage_kept _ _)
    · exact .refl s
  · split
    · exact (releaseHold_kept s).trans (setInsStage_kept _ _)
    · exact .refl s
  · split
    · exact (releaseHold_kept s).trans (setInsStage_kept _ _)
    · exact .refl s
  · exact .refl s

/-- A list of reports (R28). -/
theorem reports_kept (ps : List Purpose) (s : State) : StationKept s (ps.foldl report s) := by
  induction ps generalizing s with
  | nil => exact .refl s
  | cons p ps ih => exact (report_kept s p).trans (ih _)

/-- Every complete batch reported (R28). -/
theorem reportAll_kept (s : State) : StationKept s (reportAll s) :=
  (setBatches_kept _ s).trans (reports_kept (takeComplete s).1 (takeComplete s).2)

/-- A batch requested and reported (R27, R28). -/
theorem batch_kept (why : Purpose) (targets : List (Nat × Switch)) (s : State) : StationKept s (batch why targets s) :=
  (requestBatch_kept why targets s).trans (reportAll_kept _)

theorem floatAll_kept (why : Purpose) (s : State) : StationKept s (floatAll why s) := batch_kept why _ s

/-! ## Bids and phase entries -/

/-- The DRIVE bid (R91). -/
theorem bidDrive_kept (s : State) : StationKept s (bidDrive s) := by
  unfold bidDrive
  split
  · exact queue_kept rfl _ s
  · exact .refl s

/-- The NET bid (R114). -/
theorem bidNet_kept (s : State) : StationKept s (bidNet s) := by
  unfold bidNet
  split
  · exact queue_kept rfl _ s
  · exact .refl s

/-- A completion mark (R56). -/
theorem markStep_kept (inProgress : Bool) (s : State) : StationKept s (markStep inProgress s) := setWindow_kept _ s

/-- The summary timer stopped (R181). -/
theorem stopSummary_kept (s : State) : StationKept s (stopSummary s) := by
  refine .trans (u := { s with decoder := { s.decoder with summary := none } }) ?_ (withdrawUnbegun_kept 16 _)
  exact .ofSame ⟨⟨rfl, rfl, rfl, rfl, rfl, rfl⟩, rfl, rfl, rfl, rfl, rfl⟩

/-- The step timer stopped (R77). -/
theorem timerStop_kept (s : State) : StationKept s (timerStop s) := setTimer_kept _ s

/-- The step timer restarted (R77). -/
theorem timerRestart_kept (m : TimerMode) (s : State) : StationKept s (timerRestart m s) := setTimer_kept _ s

/-- A change of the run, to any state, with HOLD released: whether the run is active bears on an own HOLD alone (R54). -/
theorem runReleased_kept {s t : State} (h : StationKept.sameStation s t ∧ t.bus.slot = s.bus.slot)
    (hl : t.lines = { s.lines with holdOut := false }) (he : t.params = s.params ∧ t.hv = s.hv) : StationKept s t :=
  .ofEngine h fun k => ⟨fun ho => by simp [hl] at ho, by rw [hl, h.1.2.1]; exact k.live, by rw [he.1]; exact k.params,
    by rw [he.2, h.1.2.1]; exact k.hv⟩

/-- A change of the run to an active state (R53, R54). -/
theorem runActive_kept {r : Run} {s : State} (ha : runActive (setRun r s) = true) : StationKept s (setRun r s) :=
  .ofEngine ⟨⟨rfl, rfl, rfl, rfl, rfl, rfl⟩, rfl⟩ fun k => ⟨fun h => ⟨(k.hold h).1, ha⟩, k.live, k.params, k.hv⟩

/-- COMPLETE entered (R82). -/
theorem enterComplete_kept (s : State) : StationKept s (enterComplete s) := by
  have h1 : StationKept s (releaseHold (timerStop
      (setRun { s.run with state := .complete, sweepStage := .none, insStage := .none } s))) :=
    runReleased_kept ⟨⟨rfl, rfl, rfl, rfl, rfl, rfl⟩, rfl⟩ rfl ⟨rfl, rfl⟩
  exact h1.trans ((stopSummary_kept _).trans (floatAll_kept _ _))

/-- The insulation entry (R81, R113). -/
theorem insulationEntry_kept (fromPrepare inProgress : Bool) (s : State) :
    StationKept s (insulationEntry fromPrepare inProgress s) := by
  have h1 : StationKept s (setRun { s.run with state := .insulate, sweepStage := .none } s) := runActive_kept rfl
  have hb : ∀ u, StationKept u (bidNet (setInsStage .bidding (markStep inProgress u))) := fun u =>
    (markStep_kept _ u).trans ((setInsStage_kept _ _).trans (bidNet_kept _))
  unfold insulationEntry
  simp only
  split
  · exact h1.trans (enterComplete_kept _)
  · split
    · exact h1.trans ((offer_kept _ _).trans (enterComplete_kept _))
    · split
      · exact h1.trans ((offerAll_kept _ _).trans (hb _))
      · exact h1.trans (hb _)

/-- SWEEP entered (R90). -/
theorem sweepEntry_kept (inProgress : Bool) (s : State) : StationKept s (sweepEntry inProgress s) := by
  have h1 : StationKept s (setRun { s.run with state := .sweep } s) := runActive_kept rfl
  exact h1.trans ((markStep_kept _ _).trans ((setSweepStage_kept _ _).trans (bidDrive_kept _)))

/-- The end of the sweep (R107, R108). -/
theorem sweepEnd_kept {s : State} (hs : s.run.state = .sweep) : StationKept s (sweepEnd s) := by
  have h1 : StationKept s (assertHold (setSweepStage .ending (withdraw 2 s))) :=
    ((withdraw_kept 2 s).trans (setSweepStage_kept _ _)).trans (assertHold_kept (by simp [runActive, setSweepStage, setRun, hs]))
  have h2 : ∀ (p : Prop) [Decidable p] ds u v, StationKept u v → StationKept u (if p then offerAll ds v else v) :=
    fun p _ ds u v h => by
      split
      · exact h.trans (offerAll_kept ds v)
      · exact h
  exact (h2 _ _ _ _ (h1.trans ((offerAll_kept _ _).trans (requestBatch_kept _ _ _)))).trans (reportAll_kept _)

/-- The outcome of a bid window that opens no step (R92, R115). -/
theorem phaseEnd_kept (s : State) : StationKept s (phaseEnd s) := by
  unfold phaseEnd
  split
  · rename_i h; exact sweepEnd_kept h.1
  · split
    · exact (withdraw_kept 4 s).trans (enterComplete_kept _)
    · exact .refl s

/-- The outcome "first frame" (R92, R115). -/
theorem firstFrame_kept (k : Nat) (s : State) : StationKept s (firstFrame k s) := by
  unfold firstFrame
  split
  · exact .refl s
  · exact phaseEnd_kept s

/-! ## Run ends -/

/-- A run end (R83, R84). -/
theorem runEnd_kept (cause : Cause) (loc : Where) (s : State) : StationKept s (runEnd cause loc s) := by
  have h1 : ∀ u, StationKept u (abandonJob (timerStop (setWindow .off (withdrawClassOne u)))) := fun u =>
    (withdrawClassOne_kept u).trans ((setWindow_kept _ _).trans ((timerStop_kept _).trans (abandonJob_kept _)))
  have h2 : ∀ u, StationKept u (if inInterval u then enterFollowing u else u) := fun u => by
    split
    · exact enterFollowing_kept u
    · exact .refl u
  have h3 : ∀ u, StationKept u (releaseHold (setRun { u.run with
      state := .ended, halt := false, sweepStage := .none, insStage := .none, settleWait := none
      driveDone := false } u)) := fun u =>
    runReleased_kept ⟨⟨rfl, rfl, rfl, rfl, rfl, rfl⟩, rfl⟩ rfl ⟨rfl, rfl⟩
  exact (offer_kept (.runEnd cause loc) s).trans ((h1 _).trans ((h2 _).trans ((h3 _).trans
    ((floatAll_kept .runEnd _).trans ((raise_kept .runEnded _).trans (stopSummary_kept _))))))

/-- The end of an active run (R33, R85, R86). -/
theorem endActiveRun_kept (cause : Cause) (s : State) : StationKept s (endActiveRun cause s) := by
  unfold endActiveRun
  split
  · exact runEnd_kept _ _ _
  · exact .refl s

/-- ESTOP's work (R33). -/
theorem estopWork_kept (s : State) : StationKept s (estopWork s) := by
  rw [estopWork_eq]
  exact (forcedFloat_kept s).trans ((enterFollowing_kept _).trans ((dropReturn_kept _).trans (endActiveRun_kept _ _)))

/-! ## The entry to SILENT -/

/-- The bus of a station that becomes SILENT, whatever it was: the slot empty, the count at 8 (R50). -/
def silencedBus (b : Bus) : Bus := { b with slot := [], silent := true, errors := Config.silentAt }

/-- What the entry to SILENT does beyond the bus: the delayed request discarded (R50). -/
theorem enterSilent_eq (s : State) :
    enterSilent s =
      (let s1 := dropReturn (enterFollowing (forcedFloat (releaseHold
        { s with bus := silencedBus s.bus, decoder := { s.decoder with ctx := none } })))
      if runActive s1 then runEnd .busFault (.station (addr s1)) s1 else s1) := rfl

/-- The entry to SILENT from any bus but for HELD (R50). -/
theorem enterSilent_kept {s : State} (b : Bus) (hb : b.held = s.bus.held) : StationKept s (enterSilent { s with bus := b }) := by
  have h1 : StationKept s { s with bus := silencedBus b, decoder := { s.decoder with ctx := none } } :=
    ⟨rfl, rfl, by simp only [maskLawful, silencedBus, hb]; exact id,
      fun _ => ⟨.nil _, fun _ => rfl, Nat.le_refl 8, ⟨fun _ => rfl, fun _ => rfl⟩⟩,
      fun k => k.congr ⟨rfl, rfl, rfl, rfl, rfl⟩⟩
  rw [enterSilent_eq]
  refine h1.trans ((releaseHold_kept _).trans ((forcedFloat_kept _).trans ((enterFollowing_kept _).trans
    ((dropReturn_kept _).trans ?_))))
  simp only
  split
  · exact runEnd_kept _ _ _
  · exact .refl _

/-! ## Resets -/

/-- A change of the Insulation Engine's tables keeps the engine sound at power-up (R119). -/
theorem HvSound.powerUp (v : Bool) {segments : List Segment} (h : ∀ g ∈ segments, g.level ≤ 100) (n : Nat) :
    HvSound v { Hv.powerUp v with segments := segments, userLength := n } :=
  ⟨by cases v <;> rfl, fun _ => rfl, Nat.zero_le _, Nat.zero_le _, h, nofun, fun hv => by subst hv; exact ⟨rfl, rfl⟩⟩

/-- The segments of a station at power-up are in their ranges (R119). -/
theorem powerUp_level (v : Bool) : ∀ g ∈ (Hv.powerUp v).segments, g.level ≤ 100 := by cases v <;> decide

/-- What both scopes set (R183): the slot empty, the error count 0, HOLD released and the engine as at power-up but for the
user profile. -/
theorem resetRunState_kept (s : State) : StationKept s (resetRunState s) :=
  ⟨rfl, rfl, id, fun _ => ⟨.nil _, fun _ => rfl, Nat.zero_le 8, by simp [resetRunState]⟩, fun k =>
    ⟨fun h => Bool.noConfusion h, k.live, k.params, .powerUp _ k.hv.segments _⟩⟩

/-- What RESET FULL sets beyond (R183), every event masked again (R178). -/
theorem resetFullState_kept (s : State) : StationKept s (resetFullState s) :=
  ⟨rfl, rfl, fun _ => by simp [maskLawful, resetFullState], fun k => ⟨k.slot, k.quiet, k.errors, k.silent⟩, fun k =>
    ⟨k.hold, k.live, paramsLawful_defaults, k.hv.hven, k.hv.low, k.hv.ceiling, k.hv.window, powerUp_level s.straps.hvsrc,
      k.hv.settings, k.hv.fitted⟩⟩

/-- A reset of either scope (R183). -/
theorem resetStation_kept (full : Bool) (ids : IdCodes) (s : State) : StationKept s (resetStation full ids s) := by
  have h1 : StationKept s (resetRunState (enterFollowing (forcedFloat s))) :=
    (forcedFloat_kept s).trans ((enterFollowing_kept _).trans (resetRunState_kept _))
  unfold resetStation
  simp only
  split
  · exact h1.trans ((resetFullState_kept _).trans (detect_kept ids _))
  · exact h1

/-- The release from HELD (R58): out of HELD the mask is free. -/
theorem release_kept (full : Bool) (ids : IdCodes) (s : State) : StationKept s (release full ids s) := by
  have h1 : StationKept s { s with bus := { s.bus with held := false, resetCount := 0 } } :=
    ⟨rfl, rfl, fun _ => rfl, fun k => ⟨k.slot, fun hq => k.quiet (.inr (hq.resolve_left Bool.noConfusion)), k.errors, k.silent⟩,
      fun k => k.congr ⟨rfl, rfl, rfl, rfl, rfl⟩⟩
  have h2 : ∀ u, StationKept u (if full then u else detect ids u) := fun u => by
    split
    · exact .refl u
    · exact detect_kept ids u
  have h3 : ∀ u : State, StationKept u (if u.lines.estop then estopWork u else u) := fun u => by
    split
    · exact estopWork_kept u
    · exact .refl u
  exact h1.trans ((resetStation_kept full ids _).trans ((h2 _).trans (h3 _)))

/-- A clean frame taken in HELD (R58). -/
theorem heldTakes_kept (f : Frame) (ids : IdCodes) (s : State) : StationKept s (heldTakes f ids s) := by
  unfold heldTakes
  split
  · exact .refl s
  · split
    · split
      · exact setResetCount_kept _ s
      · exact release_kept _ _ s
    · exact setResetCount_kept _ s

end Sys2Proof.Machine
end

section
/-! SUPPORT. What the parts of the commands keep of a station: frame ends, barriers, run frames, requests and the milliseconds of the
Insulation Engine. -/

namespace Sys2Proof.Machine

/-! ## Frame ends -/

/-- The bus fields of a clean frame end (R42, R43, R49). -/
theorem frameSeen_kept (f : Frame) (s : State) : StationKept s { s with bus := frameSeen f s } := by
  have h1 : StationKept s (if isOwn f s then sentClean (kindCode f.payload) s else s) := by
    split
    · rename_i ho; exact sentClean_kept ho
    · exact .refl s
  refine h1.trans ((notSent_kept _).trans (.ofSame ⟨⟨?_, ?_, ?_, rfl, rfl, rfl⟩, rfl, ?_, ?_, ?_, ?_⟩)) <;>
    cases isOwn f s <;> simp

/-- A clean frame end, where the effect of the frame keeps the station out of HELD (R42). -/
theorem frameEnd_stationKept (f : Frame) {act : Bool → State → State}
    (ha : ∀ own u, u.bus.held = false → StationKept u (act own u)) (s : State) : StationKept s (frameEnd f act s) := by
  rcases frameEnd_cases f act s with h | ⟨-, h⟩ | ⟨hh, t, ht, h⟩
  · rw [h]; exact .refl s
  · rw [h]; exact setResetCount_kept 0 s
  · have hk : StationKept s t := ht ▸ (frameSeen_kept f s).trans (ha _ _ (by simpa using hh))
    rcases h with h | h <;> rw [h]
    · exact hk
    · exact hk.trans (firstFrame_kept _ _)

/-- A run-protocol frame, likewise (R52). -/
theorem runFrame_kept (r : Route) (p : Payload) {act : Bool → State → State} (ha : ∀ own u, StationKept u (act own u))
    (s : State) : StationKept s (runFrame r p act s) :=
  frameEnd_stationKept _ (fun own u _ => by split <;> [exact ha own u; exact .refl u]) s

/-- A request, likewise (R168). -/
theorem request_kept (h : Header) (code : Nat) {act : Form → State → State}
    (ha : ∀ form u, u.bus.held = false → StationKept u (act form u)) (s : State) : StationKept s (request h code act s) :=
  frameEnd_stationKept _ (fun _ u => ha _ u) s

/-- The bus fields after a frame end with ERR, the entry to SILENT apart: the slot, the error count of an own frame, the level
driven in the ERR slot, the candidate passed over, and the wait for an interframe space (R41, R43, R45, R46, R49, R56). -/
def erredBus (seen : RawFrame) (s : State) : Bus :=
  let own := (ownBegun seen s).isSome
  { s.bus with
    slot := if own then (erred s).bus.slot else (notSent s).bus.slot
    errors := if own then s.bus.errors + 1 else s.bus.errors
    errDriven := drivesErr seen s, vetoDriven := false, window := windowAfterErr s.bus.window
    integrated := !(drivesErr seen s && decide (Config.maxPayload < seen.len.toNat)) }

/-- A frame end with ERR at a station that listens (R42, R49, R50). -/
theorem frameErrEnd_listening {seen : RawFrame} {s : State} (hi : s.bus.integrated = true) (hh : s.bus.held = false) :
    frameErrEnd seen s =
      if (ownBegun seen s).isSome = true ∧ Config.silentAt ≤ (erredBus seen s).errors then
        enterSilent { s with bus := erredBus seen s } else { s with bus := erredBus seen s } := by
  unfold frameErrEnd erredBus
  rw [if_neg (by simp [hi, hh])]
  cases (ownBegun seen s).isSome
  · rw [notSent_only]; rfl
  · simp only [if_true, Bool.true_and, true_and, decide_eq_true_eq]
    rw [erred_only]; rfl

/-- The bus fields after a frame end with ERR below the eighth own error (R43, R49). -/
theorem erredBus_kept {seen : RawFrame} {s : State}
    (hn : ¬((ownBegun seen s).isSome = true ∧ Config.silentAt ≤ (erredBus seen s).errors)) :
    StationKept s { s with bus := erredBus seen s } := by
  cases ho : (ownBegun seen s).isSome
  · refine (notSent_kept s).trans (.ofSame ⟨⟨?_, ?_, ?_, ?_, ?_, ?_⟩, ?_, ?_, ?_, ?_, ?_⟩) <;> simp [erredBus, ho]
  · have hlt : s.bus.errors < 7 := by simpa [erredBus, ho, Config.silentAt] using hn
    refine (erred_kept s).trans ⟨?_, ?_, ?_, fun k => ⟨?_, ?_, ?_, ?_⟩, fun k => k.congr ?_⟩
    · simp
    · simp
    · simp [maskLawful, erredBus]
    · simpa [erredBus, ho] using k.slot
    · simpa [erredBus, ho] using k.quiet
    · show (erredBus seen s).errors ≤ 8
      simp only [erredBus, ho, if_true]; omega
    · have h8 : s.bus.errors ≠ 8 := by omega
      have hs : s.bus.silent = false := by simpa [h8] using k.silent
      have h7 : s.bus.errors + 1 ≠ 8 := by omega
      simp [erredBus, ho, hs, h7]
    · simp

/-- A frame end with ERR (R42, R45, R49, R50). -/
theorem frameErrEnd_kept (seen : RawFrame) (s : State) : StationKept s (frameErrEnd seen s) := by
  by_cases hl : s.bus.integrated = true ∧ s.bus.held = false
  · rw [frameErrEnd_listening hl.1 hl.2]
    split
    · exact enterSilent_kept _ rfl
    · rename_i hn; exact erredBus_kept hn
  · have h : frameErrEnd seen s = s := by
      unfold frameErrEnd
      rw [if_pos]
      cases hi : s.bus.integrated <;> simp_all
    rw [h]; exact .refl s

/-- A frame begun (R44). -/
theorem beginOffered_kept (s : State) : StationKept s (beginOffered s) := by
  unfold beginOffered
  split
  · exact .refl s
  · rename_i hb
    split
    · exact .refl s
    · refine .ofSlot ⟨rfl, rfl, rfl, rfl, rfl, rfl⟩ ⟨rfl, rfl, rfl, rfl⟩ fun k => ⟨k.slot.begin ?_ _, fun hq => ?_⟩
      · simp_all
      · simp [setSlot, k.quiet hq]

/-! ## Barriers -/

/-- The end of PREPARE (R79, R80). -/
theorem prepareEnd_kept (inProgress : Bool) (s : State) : StationKept s (prepareEnd inProgress s) := by
  have h2 : ∀ u, StationKept u (if u.run.sweepOn then sweepEntry inProgress u else insulationEntry true inProgress u) :=
    fun u => by
      split
      · exact sweepEntry_kept _ _
      · exact insulationEntry_kept _ _ _
  exact (elect_kept s).trans (h2 _)

/-- The end of the drive barrier (R101). -/
theorem driveBarrierEnd_kept (s : State) : StationKept s (driveBarrierEnd s) := by
  have h1 := setSweepStage_kept .awaitingRef s
  unfold driveBarrierEnd
  simp only
  split
  · exact h1
  · rename_i gp _
    have h2 : ∀ u, StationKept u (batch .toSense [(localOf gp, .sense)]
        (updatePoint (localOf gp) (fun p => { p with driven := true, leader := some gp }) u)) := fun u =>
      (updatePoint_kept _ _ u).trans (batch_kept _ _ _)
    split
    · exact h1.trans ((h2 _).trans (queue_kept rfl _ _))
    · exact h1.trans (h2 _)

/-- The end of the switching barrier (R118): an elected station is strapped HVSRC. -/
theorem hvIntervalStart_kept {s : State} (hs : s.run.state = .insulate) : StationKept s (hvIntervalStart s) := by
  unfold hvIntervalStart
  split
  · rename_i he
    have h1 : StationKept s (startEngine (setInsStage .hvInterval s)) :=
      (setInsStage_kept _ s).trans (startEngine_kept (s := setInsStage .hvInterval s) he)
    have h2 : StationKept _ (assertHold (startEngine (setInsStage .hvInterval s))) :=
      assertHold_kept (by simp [runActive, startEngine, setInsStage, setRun, setHv, hs])
    refine h1.trans (h2.trans (assertLive_kept fun k => ?_))
    cases hv : (assertHold (startEngine (setInsStage .hvInterval s))).straps.hvsrc
    · have hf := (k.hv.fitted hv).2
      simp [startEngine, setHv] at hf
    · rfl
  · exact setInsStage_kept _ s

/-- The NET bid after a completion (R114, R132, R133). -/
theorem insBid_kept (inProgress : Bool) (s : State) :
    StationKept s (bidNet (setInsStage .bidding (markStep inProgress (timerStop s)))) :=
  (timerStop_kept s).trans ((markStep_kept _ _).trans ((setInsStage_kept _ _).trans (bidNet_kept _)))

/-- What HOLD seen released completes (R77, R80, R81, R101, R104, R118, R132, R133). -/
theorem barrierEnd_kept (inProgress : Bool) (s : State) : StationKept s (barrierEnd inProgress s) := by
  unfold barrierEnd
  split
  · exact (timerStop_kept s).trans (prepareEnd_kept _ _)
  · split
    · exact (timerRestart_kept _ s).trans (driveBarrierEnd_kept _)
    · exact (timerStop_kept s).trans ((markStep_kept _ _).trans ((setSweepStage_kept _ _).trans (bidDrive_kept _)))
    · exact (timerStop_kept s).trans (insulationEntry_kept _ _ _)
    · exact timerStop_kept s
  · rename_i hs
    split
    · exact (timerRestart_kept _ s).trans (hvIntervalStart_kept (by simpa using hs))
    · exact (floatAll_kept _ s).trans (insBid_kept _ _)
    · exact insBid_kept _ s
    · exact timerStop_kept s
  · exact .refl s

/-! ## Run frames -/

/-- The opening of a sweep step (R93, R94). -/
theorem openSweepStep_kept {s : State} (hs : s.run.state = .sweep) (src gp net : Nat) :
    StationKept s (openSweepStep src gp net s) := by
  have h1 : StationKept s (setRun { s.run with
      step := .point gp src, driveNet := net, settleWait := some (Config.breakMs + s.params.s), driveDone := false } s) :=
    setRun_kept rfl
  have h2 := (h1.trans (withdraw_kept 2 _)).trans
    ((assertHold_kept (by simp [runActive, setRun, hs])).trans (setSweepStage_kept .settling _))
  unfold openSweepStep
  simp only
  split
  · exact h2.trans (batch_kept _ _ _)
  · exact h2

/-- A Net Map entry changed (R19, R20). -/
theorem updateNet_kept (n : Nat) (f : NetEntry → NetEntry) (s : State) : StationKept s (updateNet n f s) := setNetMap_kept _ s

/-- A reading on a point of the drive net (R105). -/
theorem readSameNet_kept (d : Drive) (i : Nat) (c : Class) (r : Nat) (s : State) : StationKept s (readSameNet d i c r s) := by
  have h1 := updatePoint_kept i (fun p => { p with leader := some d.gp }) s
  unfold readSameNet
  split
  · exact .refl s
  · exact h1
  · exact h1.trans (offer_kept _ _)
  · split
    · exact offer_kept _ s
    · exact .refl s

/-- A reading on a point of another net (R106). -/
theorem readOtherNet_kept (d : Drive) (n : Nat) (c : Class) (r : Nat) (s : State) : StationKept s (readOtherNet d n c r s) := by
  unfold readOtherNet
  simp only
  split
  · exact (offer_kept _ s).trans (updateNet_kept _ _ _)
  · exact (offer_kept _ s).trans (updateNet_kept _ _ _)
  · exact .refl s

/-- The classification of one point (R70). -/
theorem classifyPoint_kept (d : Drive) (ref : Nat) (limits : Nat × Nat) (i : Nat) (s : State) :
    StationKept s (classifyPoint d ref limits i s) := by
  unfold classifyPoint
  simp only
  split
  · split
    · exact (updatePoint_kept _ _ s).trans (readSameNet_kept _ _ _ _ _)
    · exact (updatePoint_kept _ _ s).trans (readOtherNet_kept _ _ _ _ _)
  · exact .refl s

/-- The classification of a step (R70). -/
theorem classifyStep_kept (d : Drive) (ref : Nat) (s : State) : StationKept s (classifyStep d ref s) := by
  unfold classifyStep
  generalize List.range s.points.length = l
  generalize (s.params.l, effectiveH s.params) = limits
  induction l generalizing s with
  | nil => exact .refl s
  | cons i l ih => exact (classifyPoint_kept _ _ _ _ _).trans (ih _)

/-- The step's REF (R102, R103). -/
theorem takeRef_kept {s : State} (hs : s.run.state = .sweep) (gp code : Nat) (weak : Bool) :
    StationKept s (takeRef gp code weak s) := by
  have h1 : StationKept s (assertHold (timerStop (setSweepStage .classifying s))) :=
    ((setSweepStage_kept _ s).trans (timerStop_kept _)).trans (assertHold_kept (by simp [runActive, setSweepStage, setRun, hs]))
  have h2 : ∀ u, StationKept u (if weak then (if drivenHere u = some gp then offer (.driveFault gp code) u else u)
      else classifyStep { gp := gp, net := u.run.driveNet } code (updateNet u.run.driveNet (leadNet gp) u)) := fun u => by
    split
    · split
      · exact offer_kept _ _
      · exact .refl _
    · exact (updateNet_kept _ _ _).trans (classifyStep_kept _ _ _)
  exact h1.trans ((h2 _).trans ((releaseHold_kept _).trans (setSweepStage_kept _ _)))

/-- The opening of an insulation step (R116, R117). -/
theorem openInsStep_kept {s : State} (hs : s.run.state = .insulate) (n : Nat) (vetoed : Bool) :
    StationKept s (openInsStep n vetoed s) := by
  have h0 : StationKept s (setRun { s.run with step := .net n } s) := setRun_kept rfl
  have h1 := h0.trans (withdraw_kept 4 _)
  unfold openInsStep
  simp only
  split
  · exact h1.trans ((updateNet_kept _ _ _).trans ((markStep_kept _ _).trans (bidNet_kept _)))
  · exact h1.trans ((assertHold_kept (by simp [runActive, setRun, hs])).trans ((setInsStage_kept _ _).trans (batch_kept _ _ _)))

/-- The record of a measured verdict (R131). -/
theorem recordVerdict_kept (n : Nat) (s : State) : StationKept s (recordVerdict n s) := by
  unfold recordVerdict
  split
  · exact .refl s
  · split
    · exact offer_kept _ s
    · exact offer_kept _ s
    · exact offer_kept _ s
    · exact .refl s

/-- The step's RESULT (R87, R132). -/
theorem takeResult_kept {s : State} (hs : s.run.state = .insulate) (n : Nat) (verdict : Byte) :
    StationKept s (takeResult n verdict s) := by
  have h1 := updateNet_kept n testNet s
  unfold takeResult
  simp only
  split
  · exact h1.trans (runEnd_kept _ _ _)
  · exact h1.trans ((assertHold_kept (by simp [runActive, updateNet, setNetMap, hs])).trans
      ((setInsStage_kept _ _).trans (floatAll_kept _ _)))

/-- The source's own RESULT (R131). -/
theorem takeOwnResult_kept {s : State} (hs : s.run.state = .insulate) (n : Nat) (verdict : Byte) :
    StationKept s (takeOwnResult n verdict s) := by
  have h1 : StationKept s (if verdict.toNat = verdictCode .dischargeFault then recordVerdict n s
      else quietEngine (recordVerdict n s)) := by
    split
    · exact recordVerdict_kept n s
    · exact (recordVerdict_kept n s).trans (quietEngine_kept _)
  refine h1.trans (takeResult_kept ?_ _ _)
  have hr : (recordVerdict n s).run.state = .insulate := by
    unfold recordVerdict
    split
    · exact hs
    · split <;> simp [hs]
  split
  · exact hr
  · exact hr

/-! ## Requests -/

/-- A delayed request cancelled (R176, R177). -/
theorem cancelContext_kept (c : Context) (s : State) : StationKept s (cancelContext c s) :=
  (withdraw_kept 11 s).trans ((setContext_kept _ _).trans (queue_kept rfl _ _))

/-- The service of a delayed request (R174). -/
theorem serve_stationKept (s : State) : StationKept s (serve s) := by
  unfold serve
  split
  · exact .refl s
  · split
    · exact .refl s
    · split
      · exact (setContext_kept _ s).trans (queue_kept rfl _ _)
      · split
        · exact .refl s
        · exact queue_kept rfl _ s

/-- SET SWITCH (R39). -/
theorem setSwitch_kept (h : Header) (gp : Nat) (target : Byte) (s : State) : StationKept s (setSwitch h gp target s) := by
  have hr : ∀ why sel, StationKept s (refuse h 11 why sel s) := fun _ _ => refuse_kept _ _ _ _ s
  unfold setSwitch
  simp only
  split
  · exact hr _ _
  split
  · exact hr _ _
  split
  · exact hr _ _
  split
  · exact hr _ _
  split
  · exact hr _ _
  split
  · exact hr _ _
  split
  · exact hr _ _
  · exact (reply_kept _ _ _ s).trans (batch_kept _ _ _)

/-- MATRIX OVERRIDE RETURN (R37). -/
theorem overrideReturn_kept (s : State) : StationKept s (overrideReturn s) := by
  unfold overrideReturn
  split
  · exact raise_kept _ s
  · split
    · exact .refl s
    · exact (setOverride_kept _ s).trans (batch_kept _ _ _)

/-- MATRIX OVERRIDE OFF (R38). -/
theorem overrideOff_kept (s : State) : StationKept s (overrideOff s) := by
  unfold overrideOff
  split
  · exact .refl s
  · exact setOverride_kept _ s
  · exact (setOverride_kept _ s).trans (floatAll_kept _ _)

/-- ASSIGN NET (R7). -/
theorem assignNet_kept (h : Header) (gp net : Nat) (role : Byte) (s : State) : StationKept s (assignNet h gp net role s) := by
  have hr : ∀ why sel, StationKept s (refuse h 1 why sel s) := fun _ _ => refuse_kept _ _ _ _ s
  unfold assignNet
  split
  · exact hr _ _
  split
  · exact hr _ _
  split
  · exact hr _ _
  split
  · exact hr _ _
  · exact (updatePoint_kept _ _ s).trans ((reply_kept _ _ _ _).trans (batch_kept _ _ _))

/-- ASSIGN RANGE (R8). -/
theorem assignRange_kept (first last net stp : Nat) (role : Role) (s : State) :
    StationKept s (assignRange first last net stp role s) := by
  unfold assignRange
  split
  · exact (mapPoints_kept _ s).trans (batch_kept _ _ _)
  · exact .refl s

/-- SET BLOCKS (R15). -/
theorem setBlocks_kept (h : Header) (kinds : Vector Byte 8) (allowed : Byte) (s : State) :
    StationKept s (setBlocks h kinds allowed s) := by
  have hb : ∀ b : Blocks, StationKept s { s with blocks := b } := fun b =>
    .ofSame ⟨⟨rfl, rfl, rfl, rfl, rfl, rfl⟩, rfl, rfl, rfl, rfl, rfl⟩
  have hs : ∀ manual a, StationKept s (storeBlocks manual a s) := fun manual a => by
    unfold storeBlocks
    simp only
    split
    · exact hb _
    · exact hb _
  unfold setBlocks
  split
  · exact refuse_kept _ _ _ _ s
  split
  · exact refuse_kept _ _ _ _ s
  split
  · simp only
    split
    · exact (hs _ _).trans (reply_kept _ _ _ _)
    · exact (hs _ _).trans ((reply_kept _ _ _ _).trans (batch_kept _ _ _))
  · exact refuse_kept _ _ _ _ s

/-- Parameters in their ranges, stored (R73). -/
theorem setParams_kept {p : Params} (hp : paramsLawful p = true) (s : State) : StationKept s { s with params := p } :=
  .ofEngine ⟨⟨rfl, rfl, rfl, rfl, rfl, rfl⟩, rfl⟩ fun k => ⟨k.hold, k.live, hp, k.hv⟩

/-- The acceptance of START RUN (R76): the station takes part again, with the error count 0. -/
theorem acceptRun_kept (number : Nat) (s : State) : StationKept s (acceptRun number s) := by
  have h1 : StationKept s (if s.print.pass then endPass .cut s else s) := by
    split
    · exact endPass_kept _ s
    · exact .refl s
  have h2 : ∀ u : State, StationKept u (setDefects Defects.empty { u with
      bus := { u.bus with silent := false, errors := 0 }, matrix := { u.matrix with override := .none } }) := fun u =>
    ⟨rfl, rfl, id, fun k => ⟨k.slot, fun hq => k.quiet (.inl (hq.resolve_right Bool.noConfusion)), Nat.zero_le 8,
      by simp [setDefects]⟩, fun k => k.congr ⟨rfl, rfl, rfl, rfl, rfl⟩⟩
  have h3 : ∀ u, StationKept u (endDump u) := fun u => by
    unfold endDump
    split
    · split
      · exact cancelContext_kept _ u
      · exact .refl u
    · exact .refl u
  have h4 : ∀ (r : Run) u, r.state = .prepare → StationKept u (assertHold (timerRestart .running
      { setHv { u.hv with elected := false } (setRun r u) with
        decoder := { (setHv { u.hv with elected := false } (setRun r u)).decoder with summary := some 0 } })) :=
    fun r u hr => by
      have hn : ∀ w : State, StationKept w { w with decoder := { w.decoder with summary := some 0 } } := fun w =>
        .ofSame ⟨⟨rfl, rfl, rfl, rfl, rfl, rfl⟩, rfl, rfl, rfl, rfl, rfl⟩
      have he : StationKept (setRun r u) (setHv { u.hv with elected := false } (setRun r u)) := setHv_kept fun k =>
        ⟨k.hv.hven, k.hv.low, k.hv.ceiling, k.hv.window, k.hv.segments, k.hv.settings, fun hv => ⟨rfl, (k.hv.fitted hv).2⟩⟩
      refine ((runActive_kept (by simp [runActive, setRun, hr])).trans (he.trans ((hn _).trans (timerRestart_kept _ _)))).trans
        (assertHold_kept ?_)
      simp [runActive, setRun, hr]
  exact (h1.trans (h2 _)).trans ((h3 _).trans (h4 _ _ rfl))

/-- The PREPARE work of START RUN (R78). -/
theorem prepareWork_kept (ids : IdCodes) (s : State) : StationKept s (prepareWork ids s) := by
  have h1 : StationKept s (setNetMap [] (emptyBuffer (mapPoints (fun _ p => clearRunFields p) s))) :=
    (mapPoints_kept _ s).trans ((setSampler_kept _ _).trans (setNetMap_kept _ _))
  exact h1.trans ((detect_kept ids _).trans ((setNetMap_kept _ _).trans (setSampler_kept _ _)))

/-- A RESET frame of either scope (R58, R183). -/
theorem resetFrame_kept (full : Bool) (h : Header) (ids : IdCodes) (s : State) : StationKept s (resetFrame full h ids s) := by
  unfold resetFrame
  split
  · exact heldTakes_kept _ _ s
  · refine request_kept _ _ (fun form u _ => ?_) s
    cases form
    · exact .refl u
    · exact refuse_kept _ _ _ _ u
    · exact resetStation_kept _ _ u

/-! ## The Insulation Engine's milliseconds -/

/-- A user segment stored keeps the engine sound (R122): its level is clamped. -/
theorem storeSegment_kept (index level duration : Nat) (s : State) : StationKept s (storeSegment index level duration s) :=
  setHv_kept fun k => ⟨k.hv.hven, k.hv.low, k.hv.ceiling, k.hv.window, fun g hg => by
    rcases List.mem_or_eq_of_mem_set hg with hg | rfl
    · exact k.hv.segments g hg
    · show clamp 0 100 level ≤ 100
      unfold clamp; omega, k.hv.settings, k.hv.fitted⟩

/-- Another stage that drives HVEN as the present one does keeps the engine sound, where the station is strapped HVSRC. -/
theorem HvSound.enter {v : Bool} {h : Hv} (k : HvSound v h) {g : HvStage} (hg : drivesHv g = drivesHv h.stage)
    (hq : h.stage ≠ .quiet) : HvSound v { h with stage := g } :=
  ⟨k.hven.trans hg.symm, k.low, k.ceiling, k.window, k.segments, k.settings, fun hv => absurd (k.fitted hv).2 hq⟩

/-- The engine works in a stage, with the settings of its interval. -/
theorem engineIn_eq_some {g : HvStage} {s : State} {x : HvSettings} :
    engineIn g s = some x ↔ s.hv.stage = g ∧ s.hv.settings = some x := by
  unfold engineIn; split <;> simp_all

/-- The setpoint of the ramp (R123). -/
theorem moveSetpoint_kept {x : HvSettings} {s : State} (hg : s.hv.stage = .ramp) (hx : s.hv.settings = some x) :
    StationKept s (moveSetpoint x s) :=
  setHv_kept fun k => ⟨k.hv.hven, fun h => absurd (h.symm.trans k.hv.hven) (by rw [hg]; decide),
    (k.hv.settings x hx).setpoint _, k.hv.window, k.hv.segments, k.hv.settings, k.hv.fitted⟩

/-- A check reading (R125). -/
theorem checkMonitor_kept (x : HvSettings) (monitor : Code12) {s : State} (hg : s.hv.stage = .check) :
    StationKept s (checkMonitor x monitor s) := by
  unfold checkMonitor
  simp only
  split
  · exact setHv_kept fun k => ⟨k.hv.hven.trans (by rw [hg]; rfl), k.hv.low, k.hv.ceiling, k.hv.window, k.hv.segments,
      k.hv.settings, fun hv => absurd ((k.hv.fitted hv).2.symm.trans hg) (by decide)⟩
  · exact setHv_kept fun ⟨_, _, _, a, b, c, d, e, f, g⟩ => ⟨a, b, c, d, e, f, g⟩

/-- A dwell sample (R126): the window holds no more than its length. -/
theorem dwellSample_kept {x : HvSettings} (sample : Nat) {s : State} (hx : s.hv.settings = some x) :
    StationKept s (dwellSample x sample s) :=
  setHv_kept fun k => ⟨k.hv.hven, k.hv.low, k.hv.ceiling, by
    have hw := (k.hv.settings x hx).2.1
    simp only [appendSample, List.length_drop, List.length_append, List.length_singleton]
    omega, k.hv.segments, k.hv.settings, k.hv.fitted⟩

/-- LIVE released with another stage entered (R128, R129). -/
theorem liveStage_kept {g : HvStage} {s : State} (hg : drivesHv g = drivesHv s.hv.stage) (hq : s.hv.stage ≠ .quiet) :
    StationKept s (setHv { s.hv with stage := g } (releaseLive s)) :=
  (releaseLive_kept s).trans (setHv_kept (s := releaseLive s) fun k => k.hv.enter hg hq)

end Sys2Proof.Machine
end

section
/-! Every step answers a next state (O54, O39), keeps the laws of the transmit slot, of the error count and of the mask (O56), and
those of the lines, the parameters and the Insulation Engine (O57). -/

namespace Sys2Proof.Machine

/-! ## Command by command -/

/-- What every request keeps. -/
theorem exec_request_kept {c : Instr} {s t : State} (hc : (requestOf c).isSome = true) (hx : exec c s = .next t) :
    StationKept s t := by
  cases c <;> cases hc <;> cases hx
  case assignNet =>
    refine request_kept _ _ (fun form u _ => ?_) s
    split
    · exact assignNet_kept _ _ _ _ u
    · exact .refl u
  case assignRange =>
    refine request_kept _ _ (fun form u _ => ?_) s
    cases form
    · exact .refl u
    · exact refuse_kept _ _ _ _ u
    · simp only
      split
      · exact .refl u
      · split
        · exact assignRange_kept _ _ _ _ _ u
        · exact .refl u
  case clearTable =>
    refine request_kept _ _ (fun form u _ => ?_) s
    cases form
    · exact .refl u
    · simp only
      split
      · exact refuse_kept _ _ _ _ u
      · exact (mapPoints_kept _ u).trans (reply_kept _ _ _ _)
    · simp only
      split
      · exact .refl u
      · exact mapPoints_kept _ u
  case setBlocks =>
    refine request_kept _ _ (fun form u _ => ?_) s
    split
    · exact setBlocks_kept _ _ _ u
    · exact .refl u
  case runParameters hd a =>
    refine request_kept _ _ (fun form u _ => ?_) s
    have h1 := setParams_kept (storedParams_lawful a) u
    cases form
    · exact .refl u
    · exact h1.trans (reply_kept _ _ _ _)
    · exact h1
  case profileSegment =>
    refine request_kept _ _ (fun form u _ => ?_) s
    cases form
    · exact .refl u
    · exact refuse_kept _ _ _ _ u
    · simp only
      split
      · exact storeSegment_kept _ _ _ u
      · exact .refl u
  case profileLength =>
    refine request_kept _ _ (fun form u _ => ?_) s
    cases form
    · exact .refl u
    · exact refuse_kept _ _ _ _ u
    · simp only
      split
      · exact setHv_kept fun ⟨_, _, _, a, b, c, d, e, f, g⟩ => ⟨a, b, c, d, e, f, g⟩
      · exact .refl u
  case startRun hd number ids =>
    refine request_kept _ _ (fun form u _ => ?_) s
    split
    · exact .refl u
    · exact raise_kept _ u
    · exact (acceptRun_kept _ u).trans (prepareWork_kept _ _)
    · exact (raise_kept _ u).trans (refuse_kept _ _ _ _ _)
    · exact (reply_kept _ _ _ u).trans ((acceptRun_kept _ _).trans (prepareWork_kept _ _))
  case continueRun =>
    have h1 : ∀ u, StationKept u (resumeHalt u) := fun u =>
      .trans (u := setRun { u.run with halt := false } u) (setRun_kept rfl)
        ((releaseHold_kept _).trans (setSweepStage_kept _ _))
    refine request_kept _ _ (fun form u _ => ?_) s
    split
    · exact (h1 u).trans (reply_kept _ _ _ _)
    · exact refuse_kept _ _ _ _ u
    · exact h1 u
    · exact .refl u
  case setWatch =>
    refine request_kept _ _ (fun form u _ => ?_) s
    cases form
    · exact .refl u
    · exact refuse_kept _ _ _ _ u
    · exact setRun_kept rfl
  case setSwitch =>
    refine request_kept _ _ (fun form u _ => ?_) s
    split
    · exact setSwitch_kept _ _ _ u
    · exact .refl u
  case matrixOverrideFloat =>
    refine request_kept _ _ (fun form u _ => ?_) s
    cases form
    · exact .refl u
    · exact refuse_kept _ _ _ _ u
    · exact (forcedFloat_kept u).trans ((setOverride_kept _ _).trans (endActiveRun_kept _ _))
  case matrixOverrideReturn =>
    refine request_kept _ _ (fun form u _ => ?_) s
    cases form
    · exact .refl u
    · exact refuse_kept _ _ _ _ u
    · exact overrideReturn_kept u
  case matrixOverrideOff =>
    refine request_kept _ _ (fun form u _ => ?_) s
    cases form
    · exact .refl u
    · exact refuse_kept _ _ _ _ u
    · exact overrideOff_kept u
  case print =>
    refine request_kept _ _ (fun form u _ => ?_) s
    cases form
    · exact .refl u
    · exact (raise_kept _ u).trans (refuse_kept _ _ _ _ _)
    · simp only
      split
      · exact (startPass_kept u).trans (rebid_kept _)
      · exact raise_kept _ u
  case stopPrint =>
    refine request_kept _ _ (fun form u _ => ?_) s
    cases form
    · exact .refl u
    · exact refuse_kept _ _ _ _ u
    · simp only
      split
      · exact endPass_kept _ u
      · exact .refl u
  case queryPoint =>
    refine request_kept _ _ (fun form u _ => ?_) s
    split
    · unfold queryPoint
      split
      · exact refuse_kept _ _ _ _ u
      split
      · exact refuse_kept _ _ _ _ u
      · exact setContext_kept _ u
    · exact .refl u
  case dumpPoints =>
    refine request_kept _ _ (fun form u _ => ?_) s
    split
    · unfold dumpPoints
      split
      · exact refuse_kept _ _ _ _ u
      split
      · exact refuse_kept _ _ _ _ u
      split
      · exact refuse_kept _ _ _ _ u
      split
      · exact refuse_kept _ _ _ _ u
      · exact setContext_kept _ u
    · exact .refl u
  case dumpDefects =>
    refine request_kept _ _ (fun form u _ => ?_) s
    split
    · split
      · exact refuse_kept _ _ _ _ u
      · exact setContext_kept _ u
    · exact .refl u
  case queryStatus =>
    refine request_kept _ _ (fun form u _ => ?_) s
    split
    · split
      · exact reply_kept _ _ _ u
      · exact refuse_kept _ _ _ _ u
    · exact .refl u
  case clearEvents =>
    refine request_kept _ _ (fun form u _ => ?_) s
    have h1 : ∀ w, StationKept u (setStatus w u) := fun _ =>
      .ofSame ⟨⟨rfl, rfl, rfl, rfl, rfl, rfl⟩, rfl, rfl, rfl, rfl, rfl⟩
    split
    · exact (h1 _).trans (reply_kept _ _ _ _)
    · exact .refl u
  case setNoticeMask h bits =>
    refine request_kept _ _ (fun form u hh => ?_) s
    have hm : StationKept u { u with decoder := { u.decoder with mask := bits.setWidth 12 } } :=
      ⟨rfl, rfl, fun _ => by simp [maskLawful, hh], fun k => ⟨k.slot, k.quiet, k.errors, k.silent⟩,
        fun k => k.congr ⟨rfl, rfl, rfl, rfl, rfl⟩⟩
    split
    · exact hm.trans (reply_kept _ _ _ _)
    · exact .refl u
  case cancel =>
    refine request_kept _ _ (fun form u _ => ?_) s
    split
    · split
      · exact reply_kept _ _ _ u
      · exact (reply_kept _ _ _ u).trans (cancelContext_kept _ _)
    · exact .refl u
  case resetRun => exact resetFrame_kept _ _ _ s
  case resetFull => exact resetFrame_kept _ _ _ s
  case unknownRequest =>
    refine request_kept _ _ (fun form u _ => ?_) s
    split
    · exact refuse_kept _ _ _ _ u
    · exact .refl u

/-- What every other frame keeps. -/
theorem exec_frame_kept {c : Instr} {s t : State} (hc : (frameKind c).isSome = true) (hr : requestOf c = none)
    (hx : exec c s = .next t) : StationKept s t := by
  cases c <;> cases hr <;> cases hc <;> cases hx
  case heldFrame =>
    split
    · exact heldTakes_kept _ _ s
    · exact .refl s
  case otherCleanFrame => exact frameEnd_stationKept _ (fun _ u _ => .refl u) s
  case abort =>
    refine frameEnd_stationKept _ (fun _ u _ => ?_) s
    split
    · exact endActiveRun_kept _ u
    · exact .refl u
  case driveFrame =>
    refine runFrame_kept _ _ (fun _ u => ?_) s
    split
    · rename_i hg; exact openSweepStep_kept hg.1 _ _ _
    · exact .refl u
  case refFrame =>
    refine runFrame_kept _ _ (fun _ u => ?_) s
    split
    · rename_i hg; exact takeRef_kept hg.1 _ _ _
    · exact .refl u
  case netFrame =>
    refine runFrame_kept _ _ (fun _ u => ?_) s
    split
    · rename_i hg; exact openInsStep_kept hg.1 _ _
    · exact .refl u
  case resultFrame =>
    refine runFrame_kept _ _ (fun own u => ?_) s
    split
    · rename_i hg
      split
      · exact takeResult_kept hg.1 _ _
      · exact takeOwnResult_kept hg.1 _ _
      · exact .refl u
    · exact .refl u
  case sourceReady r run =>
    refine runFrame_kept _ _ (fun own u => ?_) s
    have h1 : ∀ e, StationKept u (setRun { u.run with elected := e } u) := fun _ => setRun_kept rfl
    split
    · simp only
      split
      · exact (h1 _).trans (releaseHold_kept _)
      · exact h1 _
    · exact .refl u
  case halted =>
    refine runFrame_kept _ _ (fun own u => ?_) s
    split
    · simp only
      split
      · exact (timerHalt_kept u).trans (setRun_kept rfl)
      · exact timerHalt_kept u
    · exact .refl u
  case credit =>
    refine frameEnd_stationKept _ (fun _ u _ => ?_) s
    split
    · exact takeCredit_kept _ u
    · exact .refl u
  case line => exact runFrame_kept _ _ (fun _ u => takeLine_kept _ _ u) s
  case dataFrame =>
    refine frameEnd_stationKept _ (fun own u _ => ?_) s
    split
    · unfold dataSent
      split
      · exact .refl u
      · split
        · exact setContext_kept _ u
        · exact .refl u
    · exact .refl u
  case endFrame =>
    refine frameEnd_stationKept _ (fun own u _ => ?_) s
    split
    · exact setContext_kept _ u
    · exact .refl u

/-- What every command of the Insulation Engine keeps. -/
theorem exec_engine_kept {c : Instr} {s t : State} (hc : ofEngine c = true) (hx : exec c s = .next t) : StationKept s t := by
  cases c <;> cases hc <;> cases hx
  case rampMillisecond =>
    split
    · rename_i x he
      obtain ⟨hg, hx⟩ := engineIn_eq_some.1 he
      split
      · exact takeSample_kept _ _ _ (by rw [hg]; decide) fun u h1 h2 => moveSetpoint_kept (h1.trans hg) (h2.trans hx)
      · exact .refl s
    · exact .refl s
  case rampEnd =>
    split
    · rename_i x he
      obtain ⟨hg, -⟩ := engineIn_eq_some.1 he
      split
      · exact setHv_kept fun k => k.hv.enter (by rw [hg]; rfl) (by rw [hg]; decide)
      · exact .refl s
    · exact .refl s
  case checkReading =>
    split
    · rename_i x he
      obtain ⟨hg, -⟩ := engineIn_eq_some.1 he
      split
      · exact .refl s
      · split
        · exact checkMonitor_kept _ _ hg
        · exact takeSample_kept _ _ _ (by rw [hg]; decide) fun u h1 _ => checkMonitor_kept _ _ (h1.trans hg)
    · exact .refl s
  case undervolt =>
    split
    · rename_i x he
      obtain ⟨hg, -⟩ := engineIn_eq_some.1 he
      split
      · exact dropWith_kept _ (by rw [hg]; decide)
      · exact .refl s
    · exact .refl s
  case dwellMillisecond =>
    split
    · rename_i x he
      obtain ⟨hg, hx⟩ := engineIn_eq_some.1 he
      split
      · exact takeSample_kept _ _ _ (by rw [hg]; decide) fun u _ h2 => dwellSample_kept _ (h2.trans hx)
      · exact .refl s
    · exact .refl s
  case dwellEnd =>
    split
    · rename_i x he
      obtain ⟨hg, -⟩ := engineIn_eq_some.1 he
      split
      · exact dropWith_kept _ (by rw [hg]; decide)
      · exact .refl s
    · exact .refl s
  case dischargeReading =>
    split
    · rename_i hg
      split
      · exact (liveStage_kept (by rw [hg.1]; rfl) (by rw [hg.1]; decide)).trans (queueResult_kept _ _)
      · exact setHv_kept fun ⟨_, _, _, a, b, c, d, e, f, g⟩ => ⟨a, b, c, d, e, f, g⟩
    · exact .refl s
  case dischargeFault =>
    split
    · rename_i hg
      exact .trans (setHv_kept fun k => k.hv.enter (g := .following) (by rw [hg.1]; rfl) (by rw [hg.1]; decide))
        (queueResult_kept _ _)
    · exact .refl s
  case followingReading =>
    split
    · rename_i hg
      split
      · split
        · exact assertLive_kept fun _ => hg.1
        · exact .refl s
      · exact liveStage_kept (by rw [hg.2]; rfl) (by rw [hg.2]; decide)
    · exact .refl s

/-- What every other command but POWER_UP keeps. -/
theorem exec_event_kept {c : Instr} {s t : State} (hc : frameKind c = none) (he : ofEngine c = false)
    (hp : isPowerUp c = false) (hx : exec c s = .next t) : StationKept s t := by
  cases c <;> cases hc <;> cases he <;> cases hp <;> cases hx
  case estopAsserted =>
    have h1 : StationKept s { s with lines := { s.lines with estop := true } } :=
      .ofEngine ⟨⟨rfl, rfl, rfl, rfl, rfl, rfl⟩, rfl⟩ fun k => ⟨k.hold, k.live, k.params, k.hv⟩
    split
    · exact .refl s
    · simp only
      split
      · exact h1
      · exact h1.trans (estopWork_kept _)
  case estopReleased =>
    exact .ofEngine ⟨⟨rfl, rfl, rfl, rfl, rfl, rfl⟩, rfl⟩ fun k => ⟨k.hold, k.live, k.params, k.hv⟩
  case holdSeenAsserted =>
    split
    · exact .refl s
    · exact holdRises_kept s
  case holdSeenReleased =>
    split
    · rename_i hl
      have ho : s.lines.holdOut = false := by simpa using (Bool.and_eq_true_iff.1 hl).2
      have h1 : StationKept s { s with lines := { s.lines with holdSeen := false } } :=
        .ofEngine ⟨⟨rfl, rfl, rfl, rfl, rfl, rfl⟩, rfl⟩ fun k =>
          ⟨fun h => absurd (ho.symm.trans h) Bool.noConfusion, k.live, k.params, k.hv⟩
      exact h1.trans (barrierEnd_kept _ _)
    · exact .refl s
  case liveSeenAsserted =>
    split
    · exact .refl s
    · exact liveRises_kept s
  case liveSeenReleased =>
    split
    · rename_i hl
      have ho : s.lines.liveOut = false := by simpa using (Bool.and_eq_true_iff.1 hl).2
      have h1 : StationKept s { s with lines := { s.lines with liveSeen := false } } :=
        .ofEngine ⟨⟨rfl, rfl, rfl, rfl, rfl, rfl⟩, rfl⟩ fun k =>
          ⟨k.hold, fun h => absurd (ho.symm.trans h) Bool.noConfusion, k.params, k.hv⟩
      exact h1.trans ((timerResume_kept _).trans (mapPoints_kept _ _))
    · exact .refl s
  case beginFrame => exact beginOffered_kept s
  case frameErr seen => exact frameErrEnd_kept seen s
  case bidWindowExpired =>
    split
    · exact (setWindow_kept _ s).trans (phaseEnd_kept _)
    · exact .refl s
  case delayedRequestService => exact serve_stationKept s
  case stepTimeout =>
    split
    · exact endActiveRun_kept _ s
    · exact .refl s
  case stallTimerExpiry =>
    split
    · split
      · exact (endPass_kept _ s).trans (raise_kept _ _)
      · exact setPrint_kept _ s
    · exact .refl s
  case summaryTimerExpiry =>
    have h1 : StationKept s (if s.params.summary then queue Config.consoleA (summaryPayload s) s else s) := by
      split
      · exact queue_kept rfl _ s
      · exact .refl s
    split
    · exact h1.trans (.ofSame ⟨⟨rfl, rfl, rfl, rfl, rfl, rfl⟩, rfl, rfl, rfl, rfl, rfl⟩)
    · exact .refl s
  case breakTimeEnd => exact (mapPoints_kept _ s).trans ((setBatches_kept _ _).trans (reportAll_kept _))
  case settleTimeEnd => exact (mapPoints_kept _ s).trans ((setBatches_kept _ _).trans (reportAll_kept _))
  case settleWaitEnd =>
    split
    · have h1 : StationKept s (setRun { s.run with settleWait := none } s) := setRun_kept rfl
      simp only
      split
      · exact h1
      · exact h1.trans (commandPass_kept _)
    · exact .refl s
  case calibrationComplete codes =>
    have h2 : ∀ (p : Prop) [Decidable p] u, StationKept u (if p then u else raise .offsetLimit u) := fun p _ u => by
      split
      · exact .refl u
      · exact raise_kept _ u
    have h3 : ∀ u, StationKept u (if u.run.state = .prepare then batch .prepare (targetsBy u (prepareTarget u)) u
        else u) := fun u => by
      split
      · exact batch_kept _ _ u
      · exact .refl u
    split
    · exact (setSampler_kept _ s).trans ((h2 _ _).trans (h3 _))
    · exact .refl s
  case samplingPassComplete =>
    split
    · exact finishPass_kept _ _ _ s
    · exact .refl s
  case busIntegration => exact .ofSame ⟨⟨rfl, rfl, rfl, rfl, rfl, rfl⟩, rfl, rfl, rfl, rfl, rfl⟩

/-- What every command but POWER_UP keeps. -/
theorem exec_kept {c : Instr} {s t : State} (hp : isPowerUp c = false) (hx : exec c s = .next t) : StationKept s t := by
  cases hr : requestOf c with
  | some q => exact exec_request_kept (by simp [hr]) hx
  | none =>
      cases hf : frameKind c with
      | some k => exact exec_frame_kept (by simp [hf]) hr hx
      | none =>
          cases he : ofEngine c
          · exact exec_event_kept hf he hp hx
          · exact exec_engine_kept he hx

/-- A millisecond with no command (R77, R162, R181). -/
theorem tick_kept (s : State) : StationKept s (tick s) :=
  .ofSame ⟨⟨rfl, rfl, rfl, rfl, rfl, rfl⟩, rfl, rfl, rfl, rfl, rfl⟩

/-! ## POWER_UP -/

/-- A station right after power-up is sound: its mask, its slot and error count, its lines, parameters and engine (R57). -/
theorem powerUp_sound {straps : Straps} {hold live estop : Bool} {s t : State}
    (h : exec (.powerUp straps hold live estop) s = .next t) : maskLawful t = true ∧ BusSound t ∧ EngineSound t := by
  cases h
  refine ⟨rfl, ⟨.nil _, fun _ => rfl, Nat.zero_le 8, ⟨fun k => Bool.noConfusion k, fun k => by cases k⟩⟩, ?_⟩
  exact ⟨fun k => Bool.noConfusion k, fun k => Bool.noConfusion k, paramsLawful_defaults,
    .powerUp _ (powerUp_level straps.hvsrc) 0⟩

/-! ## The step -/

/-- Every command answers a next state. -/
theorem exec_answers (c : Instr) (s : State) : ∃ t, exec c s = .next t := by
  cases c <;> exact ⟨_, rfl⟩

/-- The laws that every step keeps: events masked in HELD, the slot and the error count, the lines, the parameters and the
engine. -/
theorem step_keeps_laws {s t : State} (h : step s = .next t) :
    (maskLawful s = true → maskLawful t = true) ∧ (BusSound s → BusSound t) ∧ (EngineSound s → EngineSound t) := by
  rcases step_cases h with rfl | ⟨c, rest, -, h⟩
  · exact ⟨(tick_kept s).mask, (tick_kept s).bus, (tick_kept s).engine⟩
  · cases hp : isPowerUp c
    · have hk := exec_kept hp h
      exact ⟨hk.mask, fun k => hk.bus ⟨k.slot, k.quiet, k.errors, k.silent⟩,
        fun k => hk.engine (k.congr ⟨rfl, rfl, rfl, rfl, rfl⟩)⟩
    · cases c <;> cases hp
      obtain ⟨h1, h2, h3⟩ := powerUp_sound h
      exact ⟨fun _ => h1, fun _ => h2, fun _ => h3⟩

/-- Settles O56: the laws of the slot and of the error count are `BusSound`, which every command keeps. -/
theorem busLawsKept : Obligations.BusLawsKept := by
  refine ⟨fun s t h1 h2 h => ?_, fun s t hm h => (step_keeps_laws h).1 hm⟩
  exact (busSound_iff t).1 ((step_keeps_laws h).2.1 ((busSound_iff s).2 ⟨h1, h2⟩))

/-- Every step keeps the run sound. -/
theorem step_sound {s t : State} (hr : RunSound s) (h : step s = .next t) : RunSound t := by
  rcases step_cases h with rfl | ⟨c, rest, -, h⟩
  · exact tick_sound hr
  · exact exec_sound c { s with pending := rest } t (hr.congr (.ofFrame ⟨rfl, rfl, rfl, rfl, rfl⟩)) h

/-- The setpoint's ceiling bounds the DAC code (R120). -/
theorem dacCode_le {v : Nat} (h : v ≤ 1500) : dacCode v ≤ 3839 := by
  unfold dacCode; omega

/-- Settles O57: the laws of the lines, the parameters and the engine are `EngineSound`, those of the run `RunSound`. -/
theorem runAndEngineLawsKept : Obligations.RunAndEngineLawsKept := by
  intro s t hrun hlines hparams hhv h
  have hk : EngineSound t := (step_keeps_laws h).2.2 ((engineSound_iff s).2 ⟨hlines, hparams, hhv⟩)
  obtain ⟨h1, h2, h3⟩ := (engineSound_iff t).1 hk
  exact ⟨(runLawful_iff t).2 (step_sound ((runLawful_iff s).1 hrun) h), h1, h2, h3, dacCode_le hk.hv.ceiling⟩

/-- Settles O39, by the step's definition. -/
theorem stepTakesFrontCommand : Obligations.StepTakesFrontCommand := fun _ _ _ => rfl

/-- Settles O54: every command but POWER_UP keeps the straps and the rest of the queue. -/
theorem everyStepAnswersNextState : Obligations.EveryStepAnswersNextState := by
  intro s
  cases hq : s.pending with
  | nil => exact ⟨tick s, by rw [step, hq], hq, .inl rfl⟩
  | cons c rest =>
      obtain ⟨t, ht⟩ := exec_answers c { s with pending := rest }
      refine ⟨t, by rw [step, hq]; exact ht, ?_⟩
      cases hp : isPowerUp c
      · have hk := exec_kept hp ht
        exact ⟨hk.pending, .inl hk.straps⟩
      · cases c <;> cases hp
        cases ht
        exact ⟨rfl, .inr ⟨_, _, _, _, rfl, rfl⟩⟩

end Sys2Proof.Machine
end

section
/-! Power-up (O40), the lines that rise (O19), a request not taken (O1), the frame begun (O25) and the clean frame that no block
takes (O28). -/

namespace Sys2Proof.Machine

/-! ## Power-up -/

/-- A station right after power-up is sound (R57). -/
theorem powerUp_lawful {straps : Straps} {hold live estop : Bool} {s t : State}
    (h : exec (.powerUp straps hold live estop) s = .next t) : lawful t = true := by
  obtain ⟨hmask, hbus, hengine⟩ := powerUp_sound h
  obtain ⟨hslot, herrors⟩ := (busSound_iff t).1 hbus
  obtain ⟨hlines, hparams, hhv⟩ := (engineSound_iff t).1 hengine
  cases h
  have hm : MatrixSound { State.atPowerUp straps hold live estop with pending := s.pending } :=
    (powerUp_laws straps hold live estop s rfl).2
  have hr : runLawful { State.atPowerUp straps hold live estop with pending := s.pending } = true := rfl
  have hlists : netMapLawful { State.atPowerUp straps hold live estop with pending := s.pending } = true ∧
      defectsLawful Defects.empty = true ∧ printLawful Printer.powerUp = true ∧
      blocksLawful { State.atPowerUp straps hold live estop with pending := s.pending } = true :=
    ⟨rfl, defectsLawful_empty, by decide, blocksLawful_powerUp rfl⟩
  obtain ⟨hnet, hdefects, hprint, hblocks⟩ := hlists
  simp only [lawful, Bool.and_eq_true, and_assoc]
  exact ⟨hm.points, hm.batches, hm.hold, hslot, hlines, herrors, hr, hparams, hnet, hhv, hdefects, hprint, hmask, hblocks⟩

/-- Settles O40: every power-up value is the definition's. -/
theorem powerUpSetsEverything : Obligations.PowerUpSetsEverything := by
  refine ⟨fun straps hold live estop s => ⟨_, rfl, rfl, rfl, rfl, rfl, rfl, rfl, rfl, rfl, rfl, rfl, rfl, rfl, rfl, rfl, rfl, rfl,
    rfl, rfl, rfl, rfl, rfl, rfl, rfl, rfl, rfl, rfl, rfl, rfl, rfl, rfl, rfl, rfl, rfl, rfl, rfl, rfl, rfl,
    powerUp_lawful (s := s) rfl⟩, rfl, powerUp_lawful (s := State.reset) rfl⟩

/-! ## The lines -/

/-- Settles O19: the rise of HOLD and of LIVE, in an active run and outside one. -/
theorem linesRiseAndTheTimer : Obligations.LinesRiseAndTheTimer := by
  refine fun s => ⟨rfl, rfl, fun hs => ?_, fun hs => ?_⟩
  · show execHoldSeenAsserted s = _
    rw [execHoldSeenAsserted, if_neg (by simp [hs])]
    cases ha : runActive s
    · have : holdRises s = { s with lines := { s.lines with holdSeen := true } } := if_neg (by simpa [runActive] using ha)
      simp [this]
    · have : holdRises s = timerRestart (if s.lines.liveSeen then .suspended false else .running)
          { s with lines := { s.lines with holdSeen := true } } := if_pos (by simpa [runActive] using ha)
      simp [this, timerRestart, setTimer]
  · show execLiveSeenAsserted s = _
    rw [execLiveSeenAsserted, if_neg (by simp [hs])]
    unfold liveRises
    simp only
    split
    · rename_i ha hm
      rw [if_pos ⟨ha, hm⟩]
      rfl
    · rename_i hn
      rw [if_neg fun k => hn k.1 k.2]

/-! ## A request not taken -/

/-- A request that the station's header or state keeps from being taken is unheard (R168). -/
theorem formOf_unheard {h : Header} {s : State} (hn : isConsole h.src = false ∨ (h.dst ≠ Config.generalCall ∧
    (h.dst.toNat ≠ addr s ∨ s.bus.silent = true ∨ ∃ e ∈ s.bus.slot, entryKind e = 9 ∨ entryKind e = 10))) :
    formOf h s = .unheard := by
  unfold formOf
  rcases hn with hc | ⟨hd, hn⟩
  · rw [if_pos (by simp [hc])]
  · split
    · rfl
    split
    · rfl
    rename_i ha
    refine if_pos ?_
    rcases hn with hn | hn | ⟨e, he, hk⟩
    · exact absurd hn ha
    · simp [hn]
    · have hp : answerPending s = true := by
        simp only [answerPending, hasPending, slotEntry, Bool.or_eq_true, List.find?_isSome, beq_iff_eq]
        exact hk.imp (fun k => ⟨e, he, k⟩) fun k => ⟨e, he, k⟩
      simp [hp]

/-- A request unheard, at a station with no bid window test at its first frame, changes the bus fields alone (R42, R168). -/
theorem request_unheard {h : Header} {s : State} (code : Nat) {act : Form → State → State} (ht : takesFrames s = true)
    (hw : noFirstFrame s = true) (hf : formOf h { s with bus := heard s } = .unheard) (ha : ∀ u, act .unheard u = u) :
    request h code act s = { s with bus := heard s } := by
  unfold request
  rw [frameEnd_foreign _ _ s ht hw rfl]
  simp only [hf, ha]

/-- Settles O1: the effect of every request is none where its form is unheard. -/
theorem requestNotTakenChangesNothing : Obligations.RequestNotTakenChangesNothing := by
  intro c h k s hr ht hw hn
  have hf : formOf h { s with bus := heard s } = .unheard := formOf_unheard hn
  have key : ∀ code act, (∀ u, act .unheard u = u) → request h code act s = { s with bus := heard s } :=
    fun code act ha => request_unheard code ht hw hf ha
  have hh : s.bus.held = false := by
    simp only [takesFrames, listening, Bool.and_eq_true, Bool.not_eq_true'] at ht
    exact ht.1.2
  have hreset : ∀ full ids, resetFrame full h ids s = { s with bus := heard s } := fun full ids => by
    unfold resetFrame
    rw [if_neg (by simp [hh])]
    exact key _ _ fun _ => rfl
  cases c <;> cases hr
  case resetRun => exact congrArg _ (hreset false _)
  case resetFull => exact congrArg _ (hreset true _)
  all_goals exact congrArg _ (key _ _ fun _ => rfl)

/-! ## The frame begun -/

/-- A station with no entry offers none. -/
theorem offered_eq_none {slot : List TxEntry} (h : offered slot = none) : slot = [] := by
  cases slot with
  | nil => rfl
  | cons e rest =>
      unfold offered at h
      split at h
      · cases h
      · split at h <;> cases h

/-- The entry offered is of the lowest region, and among equal regions of the lowest kind code (R44). -/
theorem offered_lowest {slot : List TxEntry} (hs : slot.Pairwise fun x y => entryKind x < entryKind y) {x : TxEntry}
    (h : offered slot = some x) : x ∈ slot ∧ ∀ y ∈ slot, frameRegion x.frame < frameRegion y.frame ∨
      (frameRegion x.frame = frameRegion y.frame ∧ entryKind x ≤ entryKind y) := by
  induction slot generalizing x with
  | nil => cases h
  | cons e rest ih =>
      obtain ⟨hlt, hrest⟩ := List.pairwise_cons.1 hs
      unfold offered at h
      split at h
      · rename_i hn
        cases h
        rw [offered_eq_none hn]
        exact ⟨List.mem_cons_self, fun y hy => by rw [List.mem_singleton.1 hy]; exact .inr ⟨rfl, Nat.le_refl _⟩⟩
      · rename_i z hz
        obtain ⟨hzm, hzl⟩ := ih hrest hz
        split at h <;> cases h
        · rename_i hlow
          refine ⟨List.mem_cons_of_mem _ hzm, fun y hy => ?_⟩
          rcases List.mem_cons.1 hy with rfl | hy
          · exact .inl hlow
          · exact hzl y hy
        · rename_i hlow
          refine ⟨List.mem_cons_self, fun y hy => ?_⟩
          rcases List.mem_cons.1 hy with rfl | hy
          · exact .inr ⟨rfl, Nat.le_refl _⟩
          · have hk := hlt y hy
            rcases hzl y hy with hzy | hzy <;> omega

/-- In a slot in the order of kinds an entry is known by its kind. -/
theorem eq_of_kind {slot : List TxEntry} (hs : slot.Pairwise fun x y => entryKind x < entryKind y) {x y : TxEntry}
    (hx : x ∈ slot) (hy : y ∈ slot) (hk : entryKind x = entryKind y) : x = y := by
  induction slot with
  | nil => cases hx
  | cons e rest ih =>
      obtain ⟨hlt, hrest⟩ := List.pairwise_cons.1 hs
      rcases List.mem_cons.1 hx with hxe | hxr <;> rcases List.mem_cons.1 hy with hye | hyr
      · exact hxe.trans hye.symm
      · exact absurd (hxe ▸ hk) (Nat.ne_of_lt (hlt y hyr))
      · exact absurd (hye ▸ hk.symm) (Nat.ne_of_lt (hlt x hxr))
      · exact ih hrest hxr hyr

/-- Settles O25: the entry begun is the one offered, and no other has its kind. -/
theorem beginFrameTakesLowestRegion : Obligations.BeginFrameTakesLowestRegion := by
  intro s hl
  obtain ⟨ho, -⟩ := (slotLawful_iff s).1 hl
  refine ⟨_, rfl, ?_⟩
  have hany : (∀ e ∈ s.bus.slot, e.begun = false) ↔ s.bus.slot.any TxEntry.begun = false := by simp
  unfold beginOffered
  cases hb : s.bus.slot.any TxEntry.begun
  · cases hi : s.bus.integrated
    · simp
    · cases hx : offered s.bus.slot with
      | none => simp [offered_eq_none hx]
      | some x =>
          obtain ⟨hxm, hlow⟩ := offered_lowest ho.sorted hx
          rw [if_pos ⟨rfl, List.ne_nil_of_mem hxm, hany.2 hb⟩]
          refine ⟨x, hxm, hlow, ?_⟩
          have hmap : (s.bus.slot.map fun e => if entryKind e = entryKind x then { e with begun := true } else e) =
              s.bus.slot.map fun e => if e = x then { e with begun := true } else e :=
            List.map_congr_left fun e he => by
              by_cases hk : entryKind e = entryKind x
              · rw [if_pos hk, if_pos (eq_of_kind ho.sorted he hxm hk)]
              · rw [if_neg hk, if_neg fun k => hk (by rw [k])]
          simp only [Bool.not_true, Bool.or_self, Bool.false_eq_true, if_false]
          rw [hmap]
          rfl
  · rw [if_neg fun k => by simp [hany.1 k.2.2] at hb]
    simp

/-! ## The clean frame that no block takes -/

/-- The station's own frame is the begun one that stands in its slot (R45, R49). -/
theorem isOwn_iff {f : Frame} {s : State} (ho : SlotOrder s.straps.adr s.bus.slot) :
    isOwn f s = true ↔ ∃ e ∈ s.bus.slot, e.begun = true ∧ e.frame = f := by
  unfold isOwn slotEntry
  split
  · rename_i e he
    have hm := List.mem_of_find?_eq_some he
    have hk : entryKind e = kindCode f.payload := by simpa using List.find?_some he
    simp only [Bool.and_eq_true, beq_iff_eq]
    refine ⟨fun k => ⟨e, hm, k⟩, fun ⟨x, hx, hb, hf⟩ => ?_⟩
    have : x = e := eq_of_kind ho.sorted hx hm (by rw [hk, ← hf]; rfl)
    exact this ▸ ⟨hb, hf⟩
  · rename_i hn
    refine ⟨fun k => (Bool.noConfusion k), fun ⟨x, hx, _, hf⟩ => ?_⟩
    have := List.find?_eq_none.1 hn x hx
    simp [entryKind, hf] at this

/-- What the frame end of another frame makes of an entry is not begun (R44). -/
theorem afterLoss_unbegun {x e : TxEntry} (h : afterLoss x = some e) : e.begun = false := by
  unfold afterLoss at h
  split at h
  · cases h; simpa using ‹(!_) = true›
  · split at h
    · cases h; rfl
    · split at h <;> cases h
      rfl

/-- A pause of the delayed-request service adds no entry, and leaves one that has not begun as it was (R174). -/
theorem mem_pauseService {slot : List TxEntry} (hl : ∀ y ∈ slot, y.begun = false) {s : State} {e : TxEntry}
    (he : e ∈ (pauseService (setSlot slot s)).bus.slot) : e ∈ slot := by
  unfold pauseService at he
  split at he
  · obtain ⟨y, hy, -, -, -, -, hc⟩ := mem_dropUnbegun _ _ _ he
    rcases hc with ⟨-, rfl⟩ | ⟨hyb, -⟩
    · exact hy
    · exact absurd (hyb.symm.trans (hl y hy)) Bool.noConfusion
  · exact he

/-- The delayed-request service does not pause while the station does not assert HOLD (R174). -/
theorem pauseService_slot {slot : List TxEntry} {s : State} (hh : s.lines.holdOut = false) :
    (pauseService (setSlot slot s)).bus.slot = slot := by
  unfold pauseService
  rw [if_neg (by simp [setSlot, hh])]
  rfl

/-- An entry after the frame end of another frame is what that end makes of an entry before it (R44). -/
theorem mem_notSent {s : State} {e : TxEntry} (he : e ∈ (notSent s).bus.slot) : ∃ x ∈ s.bus.slot, afterLoss x = some e :=
  List.mem_filterMap.1 (mem_pauseService (fun y hy => by
    obtain ⟨x, -, hx⟩ := List.mem_filterMap.1 hy
    exact afterLoss_unbegun hx) he)

/-- What the frame end of another frame leaves in the slot is not begun. -/
theorem notSent_unbegun {s : State} {e : TxEntry} (he : e ∈ (notSent s).bus.slot) : e.begun = false := by
  obtain ⟨x, -, hx⟩ := mem_notSent he
  exact afterLoss_unbegun hx

/-- The slot after the frame end of another frame, while the station does not assert HOLD (R44, R174). -/
theorem notSent_slot {s : State} (hh : s.lines.holdOut = false) : (notSent s).bus.slot = s.bus.slot.filterMap afterLoss := by
  unfold notSent
  rw [pauseService_slot hh]

/-- A NOTICE is formed anew, and no other frame is (R179). -/
theorem besideFrame_eq (s : State) (f : Frame) :
    besideFrame s f = if kindCode f.payload = 13 then { f with payload := noticePayload s } else f := by
  unfold besideFrame
  cases f.payload <;> rfl

/-- A clean frame end that is no first frame of a bid window, at a station that listens (R42). -/
theorem frameEnd_seen (f : Frame) (act : Bool → State → State) {s : State} (hi : s.bus.integrated = true)
    (hh : s.bus.held = false) (hw : noFirstFrame s = true) :
    frameEnd f act s = act (isOwn f s) { s with bus := frameSeen f s } := by
  have hc : isCandidate s = false := by simpa [isCandidate, noFirstFrame] using hw
  have hs : setWindow (windowAfterClean s.bus.window) (setSlots false (vetoOf s f.payload)
      (notSent (if isOwn f s then sentClean (kindCode f.payload) s else s))) = { s with bus := frameSeen f s } := by
    unfold frameSeen
    rw [notSent_only]
    cases isOwn f s <;> rfl
  rw [frameEnd_takes f act s hi hh, hs]
  simp only [hc, Bool.false_eq_true, if_false]

/-- The entry of the kind of the station's own clean frame, after its frame end, is the frame that was held beside it (R43). -/
theorem notSent_sentClean_kind {k : Nat} {s : State} (ho : SlotOrder s.straps.adr s.bus.slot) {e : TxEntry}
    (he : e ∈ (notSent (sentClean k s)).bus.slot) (hk : entryKind e = k) :
    ∃ x ∈ s.bus.slot, ∃ b, x.beside = some b ∧ entryKind x = k ∧ e = freshEntry (besideFrame s b) := by
  obtain ⟨y, hy, hye⟩ := mem_notSent he
  have hyk : entryKind y = k := (afterLoss_kind _ y e ((ho.sentClean k s).entries y hy) hye).1.symm.trans hk
  obtain ⟨x, hx, hxy⟩ := List.mem_filterMap.1 hy
  split at hxy
  · rename_i hxk
    obtain ⟨b, hb, rfl⟩ := Option.map_eq_some_iff.1 hxy
    exact ⟨x, hx, b, hb, hxk, (Option.some.inj hye).symm⟩
  · rename_i hxk
    cases hxy
    exact absurd hyk hxk

/-- Settles O28: the bus after a clean frame is `frameSeen`, and its slot that of the frame end of another frame, after the own
frame has left it. -/
theorem cleanFrameLeavesItsSlot : Obligations.CleanFrameLeavesItsSlot := by
  intro f s ht hw
  simp only [takesFrames, listening, Bool.and_eq_true, Bool.not_eq_true'] at ht
  obtain ⟨⟨hi, hh⟩, hl⟩ := ht
  obtain ⟨ho, -⟩ := (slotLawful_iff s).1 hl
  refine ⟨{ s with bus := frameSeen f s }, congrArg _ (frameEnd_seen f _ hi hh hw), rfl, isOwn_iff ho, fun hn => ?_, fun hn => ?_⟩
  · have hs : (frameSeen f s).slot = (notSent s).bus.slot := by simp [frameSeen, hn]
    refine ⟨by simp [frameSeen, hn], fun e he => ?_, fun hold => ?_⟩
    · have he : e ∈ (notSent s).bus.slot := hs ▸ he
      exact ⟨notSent_unbegun he, notSent_kinds s hl e he⟩
    · show (frameSeen f s).slot = _
      rw [hs, notSent_slot hold]
      refine congrArg (fun g => s.bus.slot.filterMap g) (funext fun e => ?_)
      unfold afterLoss
      cases hb : e.begun
      · rfl
      · cases e.beside with
        | some b => rfl
        | none => simp [freshEntry]
  · have hs : (frameSeen f s).slot = (notSent (sentClean (kindCode f.payload) s)).bus.slot := by simp [frameSeen, hn]
    refine ⟨by simp [frameSeen, hn, sentClean], fun e he hk => ?_⟩
    obtain ⟨x, hx, b, hb, hxk, rfl⟩ := notSent_sentClean_kind ho (hs ▸ he) hk
    refine ⟨x, hx, b, hb, hxk.trans hk.symm, rfl, ?_⟩
    have hbk : kindCode b.payload = entryKind (freshEntry (besideFrame s b)) := (besideFrame_kind s b).symm
    rw [← hbk]
    exact besideFrame_eq s b

end Sys2Proof.Machine
end

section
/-! The frame that draws ERR below the eighth own error (O26): what it leaves of the bus, the frame faults by the kind table, and the
CRC. -/

namespace Sys2Proof.Machine

/-! ## The entry on the bus -/

/-- The station's frame among those seen is the begun entry of the region seen (R45, R49). -/
theorem ownBegun_isSome (seen : RawFrame) (s : State) : (ownBegun seen s).isSome =
    s.bus.slot.any fun e => e.begun && frameRegion e.frame == rawRegion seen := by
  rw [Bool.eq_iff_iff]
  simp [ownBegun]

/-- The station drives the ERR slot on a frame fault, and as the transmitter of another frame than the one seen (R45, R46). -/
theorem drivesErr_iff {seen : RawFrame} {s : State} (ho : SlotOrder s.straps.adr s.bus.slot) :
    drivesErr seen s = true ↔ frameFault seen = true ∨
      ∃ e ∈ s.bus.slot, e.begun = true ∧ frameRegion e.frame = rawRegion seen ∧ rawOf e.frame ≠ seen := by
  unfold drivesErr
  rw [Bool.or_eq_true]
  refine or_congr_right ?_
  cases he : ownBegun seen s with
  | none =>
      refine ⟨fun k => Bool.noConfusion k, fun ⟨x, hx, hb, hr, _⟩ => ?_⟩
      have := List.find?_eq_none.1 he x hx
      simp [hb, hr] at this
  | some e =>
      have hm : e ∈ s.bus.slot := List.mem_of_find?_eq_some he
      have hc : e.begun = true ∧ frameRegion e.frame = rawRegion seen := by simpa using List.find?_some he
      simp only [bne_iff_ne]
      refine ⟨fun k => ⟨e, hm, hc.1, hc.2, k⟩, fun ⟨x, hx, hb, _, k⟩ => ?_⟩
      rwa [eq_of_kind ho.sorted hm hx (ho.begun e hm x hx hc.1 hb)]

/-- What a frame end with ERR makes of an entry is not begun (R43). -/
theorem afterFailure_unbegun {s : State} {x e : TxEntry} (h : afterFailure s x = some e) : e.begun = false := by
  unfold afterFailure at h
  split at h
  · cases h; simpa using ‹(!_) = true›
  · split at h
    · cases h; rfl
    · split at h <;> cases h
      rfl

/-- What the frame end of the station's own frame with ERR leaves in the slot is not begun. -/
theorem erred_unbegun {s : State} {e : TxEntry} (he : e ∈ (erred s).bus.slot) : e.begun = false := by
  obtain ⟨x, -, hx⟩ := List.mem_filterMap.1 (mem_pauseService (fun y hy => by
    obtain ⟨x, -, hx⟩ := List.mem_filterMap.1 hy
    exact afterFailure_unbegun hx) he)
  exact afterFailure_unbegun hx

/-- The slot after the frame end of the station's own frame with ERR, while the station does not assert HOLD (R43, R174). -/
theorem erred_slot {s : State} (hh : s.lines.holdOut = false) :
    (erred s).bus.slot = s.bus.slot.filterMap (afterFailure s) := by
  unfold erred
  rw [pauseService_slot hh]

/-- A frame with nothing held beside it, neither withdrawn nor recalled, is pending again where its sending failed (R43, R44). -/
theorem pendingAgain (s : State) {e : TxEntry} (hd : e.doomed = false) (hr : e.recalled = false) (hb : e.beside = none) :
    (∃ x, afterFailure s e = some x ∧ x.frame = e.frame) ∧ ∃ x, afterLoss e = some x ∧ x.frame = e.frame := by
  unfold afterFailure afterLoss
  cases e.begun <;> simp [hd, hr, hb, freshEntry]

/-- The bus fields below the eighth own error leave no frame begun (R43, R44). -/
theorem erredBus_unbegun {seen : RawFrame} {s : State} {e : TxEntry} (he : e ∈ (erredBus seen s).slot) : e.begun = false := by
  unfold erredBus at he
  cases ho : (ownBegun seen s).isSome
  · exact notSent_unbegun (by simpa [ho] using he)
  · exact erred_unbegun (by simpa [ho] using he)

/-- The bus fields below the eighth own error keep a frame of the station that nothing has replaced or withdrawn (R43). -/
theorem erredBus_waits {seen : RawFrame} {s : State} (hold : s.lines.holdOut = false) {e : TxEntry} (he : e ∈ s.bus.slot)
    (hd : e.doomed = false) (hr : e.recalled = false) (hb : e.beside = none) :
    ∃ x ∈ (erredBus seen s).slot, x.frame = e.frame := by
  obtain ⟨⟨x, hx, hxf⟩, y, hy, hyf⟩ := pendingAgain s hd hr hb
  unfold erredBus
  cases (ownBegun seen s).isSome
  · simp only [Bool.false_eq_true, if_false, notSent_slot hold]
    exact ⟨y, List.mem_filterMap.2 ⟨e, he, hy⟩, hyf⟩
  · simp only [if_true, erred_slot hold]
    exact ⟨x, List.mem_filterMap.2 ⟨e, he, hx⟩, hxf⟩

/-- The bus fields of a frame end with ERR, written out (R41, R43, R45, R46, R49, R56). -/
theorem erredBus_eq (seen : RawFrame) (s : State) : erredBus seen s = { s.bus with
    slot := if (s.bus.slot.any fun e => e.begun && frameRegion e.frame == rawRegion seen) = true then (erred s).bus.slot
      else (notSent s).bus.slot
    errors := if (s.bus.slot.any fun e => e.begun && frameRegion e.frame == rawRegion seen) = true then s.bus.errors + 1
      else s.bus.errors
    errDriven := drivesErr seen s, vetoDriven := false
    window := match s.bus.window with
      | .off => .off
      | .running _ => .running false
    integrated := !(drivesErr seen s && decide (48 < seen.len.toNat)) } := by
  unfold erredBus windowAfterErr
  simp only [ownBegun_isSome]
  cases s.bus.window <;> rfl

/-! ## Frame faults -/

/-- The kind table of 3.11: kind code, class, shortest and longest payload. -/
def kindTable : List (Nat × Nat × Nat × Nat) :=
  [(1, 0, 0, 0), (2, 1, 4, 4), (3, 1, 5, 5), (4, 1, 2, 2), (5, 1, 15, 15), (6, 1, 2, 2), (7, 1, 3, 3), (8, 2, 2, 48),
    (9, 3, 2, 48), (10, 3, 5, 5), (11, 3, 4, 48), (12, 3, 5, 5), (13, 3, 3, 3), (14, 3, 1, 1), (15, 4, 48, 48), (16, 5, 12, 12)]

/-- The model's classes and lengths are those of the kind table. -/
theorem kindTable_find : ∀ k < 32, kindTable.find? (fun q => q.1 == k) =
    (classOfKind k).map fun c => (k, c, (lengthsOfKind k).1, (lengthsOfKind k).2) := by decide

/-- The kinds whose value field carries something (3.11). -/
theorem kindHasValue_iff (k : Nat) : kindHasValue k = true ↔ k ∈ [2, 4, 15] := by
  simp [kindHasValue, or_assoc]

/-- The faults of a received frame, one by one (R46). -/
theorem frameFault_iff (r : RawFrame) : frameFault r = true ↔ r.crc ≠ crc16 (coveredBits r) ∨ 48 < r.len.toNat ∨
    classOfKind r.kind.toNat ≠ some r.cls.toNat ∨ r.len.toNat < (lengthsOfKind r.kind.toNat).1 ∨
    (lengthsOfKind r.kind.toNat).2 < r.len.toNat ∨ (r.kind.toNat ∉ [2, 4, 15] ∧ r.value ≠ 0) := by
  have hv : (!kindHasValue r.kind.toNat) = true ↔ r.kind.toNat ∉ [2, 4, 15] := by
    rw [← kindHasValue_iff]; simp
  have hm : decide (Config.maxPayload < r.len.toNat) = true ↔ 48 < r.len.toNat := decide_eq_true_iff
  simp only [frameFault, Bool.or_eq_true, Bool.and_eq_true, hv, hm, bne_iff_ne, decide_eq_true_eq, or_assoc, and_comm]

/-! ## The CRC -/

/-- One bit more through the register (R47). -/
theorem crc16_append_bit (sent : List Bool) (b : Bool) : crc16 (sent ++ [b]) = crcBit (crc16 sent) b := by
  simp [crc16]

/-- One bit through the register, by whether it equals the register's top bit (R47). -/
theorem crcBit_eq (reg : BitVec 16) (b : Bool) :
    crcBit reg b = (reg <<< 1) ^^^ (if reg.getLsbD 15 = b then 0 else 0x1021) := by
  unfold crcBit
  by_cases h : reg.getLsbD 15 = b
  · rw [if_neg (by rw [bne_iff_ne]; exact fun k => k h), if_pos h]
    exact BitVec.xor_zero.symm
  · rw [if_pos (bne_iff_ne.2 h), if_neg h]

/-- The register's own top bits, taken one after the other, shift it out (R47). -/
theorem foldl_crcBit_self (reg : BitVec 16) {n : Nat} (hn : n ≤ 16) :
    ((List.range n).map fun i => reg.getLsbD (15 - i)).foldl crcBit reg = reg <<< n := by
  induction n with
  | zero => simp
  | succ n ih =>
      have htop : (reg <<< n).getLsbD 15 = reg.getLsbD (15 - n) := by
        rw [BitVec.getLsbD_shiftLeft]
        simp [show ¬ 15 < n by omega]
      rw [List.range_succ, List.map_append, List.foldl_append, ih (by omega)]
      simp only [List.map_cons, List.map_nil, List.foldl_cons, List.foldl_nil]
      rw [crcBit_eq, if_pos htop, BitVec.shiftLeft_add]
      exact BitVec.xor_zero

/-- A frame followed by its own CRC leaves the register 0 (R47). -/
theorem crc16_append_crc (sent : List Bool) :
    crc16 (sent ++ (List.range 16).map fun i => (crc16 sent).getLsbD (15 - i)) = 0 := by
  have h := foldl_crcBit_self (crc16 sent) (Nat.le_refl 16)
  rw [BitVec.shiftLeft_eq_zero (Nat.le_refl 16)] at h
  rw [crc16, List.foldl_append]
  exact h

/-! ## The statement -/

/-- Settles O26: below the eighth own error the frame end leaves `erredBus`; the faults are those of the kind table; the CRC is
linear in each bit. -/
theorem erredFrameCountsAtItsTransmitter : Obligations.ErredFrameCountsAtItsTransmitter := by
  refine ⟨fun seen s ht he hlt => ?_, fun r => ?_, fun sent b => ⟨rfl, ?_, crc16_append_crc sent⟩⟩
  · simp only [takesFrames, listening, Bool.and_eq_true, Bool.not_eq_true'] at ht
    obtain ⟨⟨hi, hh⟩, hl⟩ := ht
    obtain ⟨ho, -⟩ := (slotLawful_iff s).1 hl
    have hn : ¬((ownBegun seen s).isSome = true ∧ Config.silentAt ≤ (erredBus seen s).errors) := fun ⟨hown, h8⟩ => by
      have h7 : s.bus.errors + 1 < 8 := by
        rw [ownBegun_isSome] at hown
        obtain ⟨e, hm, hb, hr⟩ : ∃ e ∈ s.bus.slot, e.begun = true ∧ frameRegion e.frame = rawRegion seen := by
          simpa using hown
        exact hlt e hm hb hr
      simp only [erredBus, hown, if_true, Config.silentAt] at h8
      omega
    have hx : exec (.frameErr seen) s = .next { s with bus := erredBus seen s } := by
      show Host.Outcome.next (frameErrEnd seen s) = _
      rw [frameErrEnd_listening hi hh, if_neg hn]
    have herr : (erredBus seen s).errDriven = drivesErr seen s := rfl
    refine ⟨_, hx, ?_, by rw [herr]; exact drivesErr_iff ho, fun e => erredBus_unbegun, fun hold e hm hd hr hb => ?_⟩
    · exact congrArg (fun b => { s with bus := b }) (erredBus_eq seen s)
    · obtain ⟨x, hxm, hxf⟩ := erredBus_waits (seen := seen) hold hm hd hr hb
      exact ⟨x, hxm, hxf, erredBus_unbegun hxm⟩
  · rw [frameFault_iff]
    refine or_congr_right (or_congr_right ?_)
    have hrow := kindTable_find r.kind.toNat r.kind.isLt
    show _ ↔ match kindTable.find? fun q => q.1 == r.kind.toNat with
      | none => True
      | some (k, cls, shortest, longest) => cls ≠ r.cls.toNat ∨ r.len.toNat < shortest ∨ longest < r.len.toNat ∨
          (k ∉ [2, 4, 15] ∧ r.value ≠ 0)
    rw [hrow]
    cases classOfKind r.kind.toNat with
    | none => simp
    | some c => simp
  · rw [crc16_append_bit, crcBit_eq]

end Sys2Proof.Machine
end

section
/-! The eighth own error in a row (O27): the entry to SILENT, with the end of an active run. -/

namespace Sys2Proof.Machine

/-! ## A FLOAT batch at a station that is at FLOAT -/

/-- A point at FLOAT and at rest stays so under a request for FLOAT (R24). -/
theorem requestedPoint_float {s : State} {p : Point} (hp : pointFloats p = true) (i : Nat) :
    requestedPoint (everyPoint s .float) s i p = p := by
  simp only [pointFloats, Bool.and_eq_true, beq_iff_eq] at hp
  obtain ⟨⟨hs, -⟩, hg⟩ := hp
  unfold requestedPoint
  split
  · rename_i t ht
    obtain ⟨q, hq, rfl⟩ := Option.map_eq_some_iff.1 ht
    obtain ⟨j, -, rfl⟩ := List.mem_map.1 (List.mem_of_find?_eq_some hq)
    simp [requestPoint, hg, hs]
  · rfl

/-- A request of every point to FLOAT moves none that is there already (R27). -/
theorem mapPoints_requestedPoint_float {s : State} (hf : s.points.all pointFloats = true) :
    mapPoints (requestedPoint (everyPoint s .float) s) s = s := by
  have hall := List.all_eq_true.1 hf
  have hsame : s.points.zipIdx.map (fun q => requestedPoint (everyPoint s .float) s q.2 q.1) = s.points :=
    (List.map_congr_left fun q hq => requestedPoint_float (hall q.1 (List.fst_mem_of_mem_zipIdx hq)) q.2).trans
      (List.zipIdx_map_fst 0 s.points)
  unfold mapPoints
  rw [hsame]

/-- A FLOAT batch at a station with every point at FLOAT and no batch outstanding has no outstanding point (R27, R28). -/
theorem requestBatch_floated (why : Purpose) {s : State} (hf : s.points.all pointFloats = true) (hb : s.matrix.batches = []) :
    requestBatch why (everyPoint s .float) s = setBatches [{ purpose := why, left := [] }] s := by
  have hrest : ∀ l : List Nat, l.filter (inTransit s) = [] := fun l => List.filter_eq_nil_iff.2 fun j _ => by
    have := (all_points_iff pointFloats rfl s).1 hf j
    simp only [pointFloats, Bool.and_eq_true, beq_iff_eq] at this
    simp [inTransit, this.2]
  cases hh : heldAtFloat s
  · have hreq : requestBatch why (everyPoint s .float) s =
        (let u := mapPoints (requestedPoint (everyPoint s .float) s) s
         setBatches (s.matrix.batches.map (dropPoints ((everyPoint s .float).map Prod.fst)) ++
          [{ purpose := why, left := ((everyPoint s .float).map Prod.fst).filter (inTransit u) }]) u) :=
      if_neg (by simp [hh])
    rw [hreq, mapPoints_requestedPoint_float hf, hb]
    simp only [hrest]
    rfl
  · refine (if_pos hh).trans ?_
    rw [hb]
    rfl

/-- A FLOAT batch at a station with every point at FLOAT and no batch outstanding is complete at once (R28). -/
theorem floatAll_floated (why : Purpose) {s : State} (hf : s.points.all pointFloats = true) (hb : s.matrix.batches = []) :
    (floatAll why s).points = s.points ∧ (floatAll why s).matrix = s.matrix := by
  have hreq := requestBatch_floated why hf hb
  have hbatches : (floatAll why s).matrix.batches = s.matrix.batches := by
    rw [floatAll, batch_batches, hreq, hb]; rfl
  have hover : (floatAll why s).matrix.override = s.matrix.override := by simp
  refine ⟨by simp [floatAll, hreq], ?_⟩
  generalize (floatAll why s).matrix = m at hover hbatches
  cases m
  cases hs : s.matrix
  simp_all

/-- A run end at a station with every point at FLOAT and no batch outstanding moves nothing (R83). -/
theorem runEnd_floated (cause : Cause) (loc : Where) {s : State} (hf : s.points.all pointFloats = true)
    (hb : s.matrix.batches = []) :
    (runEnd cause loc s).points = s.points ∧ (runEnd cause loc s).matrix = s.matrix ∧
      (runEnd cause loc s).lines = { s.lines with holdOut := false } := by
  have hpts : (runStopped cause loc s).points = s.points := by simp only [runStopped, offer_frame]
  have hmat : (runStopped cause loc s).matrix = s.matrix := by simp only [runStopped, offer_frame]
  obtain ⟨hp, hm⟩ := floatAll_floated .runEnd (s := runStopped cause loc s) (by rw [hpts]; exact hf) (by rw [hmat]; exact hb)
  have hl : (runEnd cause loc s).lines = { s.lines with holdOut := false } := by
    obtain ⟨points, batches, ht⟩ := runEnd_only cause loc s
    rw [ht]
  refine ⟨?_, ?_, hl⟩
  · rw [runEnd_eq_stopped]
    simpa [hpts] using hp
  · rw [runEnd_eq_stopped]
    simpa [hmat] using hm

/-! ## The entry to SILENT -/

/-- What the entry to SILENT makes of a station before it ends the run (R50, R31, R38, R129). -/
def silenced (b : Bus) (s : State) : State :=
  { s with
    bus := silencedBus b, lines := { s.lines with holdOut := false }, points := (forcedFloat s).points
    matrix := { batches := [], override := if s.matrix.override = .float then .float else .none }
    hv := if s.straps.hvsrc = true then { s.hv with stage := .following, setpoint := 0, hven := false } else s.hv
    decoder := { s.decoder with ctx := none } }

/-- The entry to SILENT ends an active run with cause BUS_FAULT at the station's own address (R50, R84). -/
theorem enterSilent_silenced (b : Bus) (s : State) : enterSilent { s with bus := b } =
    if runActive s then runEnd .busFault (.station (addr s)) (silenced b s) else silenced b s := by
  have hu : dropReturn (enterFollowing (forcedFloat (releaseHold
      { s with bus := silencedBus b, decoder := { s.decoder with ctx := none } }))) = silenced b s := estopWork_floats _
  rw [enterSilent_eq]
  simp only [hu]
  rfl

/-- Settles O27: the entry to SILENT forces FLOAT before the run ends, so the run end moves nothing. -/
theorem eighthErrorSilences : Obligations.EighthErrorSilences := by
  intro seen s ht _ h7 hown
  simp only [takesFrames, listening, Bool.and_eq_true, Bool.not_eq_true'] at ht
  obtain ⟨⟨hi, hh⟩, hl⟩ := ht
  obtain ⟨ho, -⟩ := (slotLawful_iff s).1 hl
  have hsome : (ownBegun seen s).isSome = true := by
    rw [ownBegun_isSome]
    simpa using hown
  have h8 : Config.silentAt ≤ (erredBus seen s).errors := by simp [erredBus, hsome, h7, Config.silentAt]
  have hx : exec (.frameErr seen) s = .next (if runActive s then
      runEnd .busFault (.station (addr s)) (silenced (erredBus seen s) s) else silenced (erredBus seen s) s) := by
    show Host.Outcome.next (frameErrEnd seen s) = _
    rw [frameErrEnd_listening hi hh, if_pos ⟨hsome, h8⟩, enterSilent_silenced]
  have hf : (silenced (erredBus seen s) s).points.all pointFloats = true :=
    (all_points_iff _ rfl (forcedFloat s)).2 (forcedFloat_floats s)
  have hbus : silencedBus (erredBus seen s) = { s.bus with
      silent := true, errors := 8, slot := [], errDriven := drivesErr seen s, vetoDriven := false
      window := match s.bus.window with
        | .off => .off
        | .running _ => .running false
      integrated := !(drivesErr seen s && decide (48 < seen.len.toNat)) } := by
    rw [erredBus_eq]; rfl
  refine ⟨_, hx, ?_⟩
  by_cases ha : runActive s = true
  · obtain ⟨hp, hm, hlines⟩ := runEnd_floated .busFault (.station (addr s)) hf rfl
    have hend : runEnds .busFault (.station (addr s)) (silencedBus (erredBus seen s)) (silenced (erredBus seen s) s)
        (runEnd .busFault (.station (addr s)) (silenced (erredBus seen s) s)) := runEnd_runEnds _ _ _
    rw [hbus] at hend
    have herr : (runEnd .busFault (.station (addr s)) (silenced (erredBus seen s) s)).bus.errDriven = drivesErr seen s := by
      simp [silenced, silencedBus, erredBus]
    rw [if_pos ha]
    refine ⟨by rw [herr]; exact drivesErr_iff ho, forcedFloat_allForced (s := s) hp, hlines, hm, ?_⟩
    rw [if_pos ha, herr]
    exact runEnds_congr hend ⟨_, _, _, _, rfl⟩
  · rw [if_neg ha]
    have herr : (silenced (erredBus seen s) s).bus.errDriven = drivesErr seen s := rfl
    refine ⟨by rw [herr]; exact drivesErr_iff ho, forcedFloat_allForced (s := s) rfl, rfl, rfl, ?_⟩
    rw [if_neg ha, herr]
    exact congrArg (fun b => { silenced (erredBus seen s) s with bus := b }) hbus

end Sys2Proof.Machine
end

section
/-! HELD (O18): the release with its scope's values, and every other frame. -/

namespace Sys2Proof.Machine

/-! ## A detection while every event is masked -/

/-- An event masked sets its status bit and queues nothing (R178). -/
theorem raise_masked (e : Event) {s : State} (h : s.decoder.mask = BitVec.allOnes 12) :
    raise e s = setStatus (s.decoder.status ||| eventMask e) s := by
  unfold raise
  rw [if_pos (by rw [h]; cases e <;> rfl)]

/-- A code names the invalid band where it is below 32 (R11). -/
theorem bandOf_invalid (c : Nat) : (bandOf c == .invalid) = decide (c < 32) := by
  unfold bandOf
  by_cases h : c < 32
  · simp [h]
  · rw [if_neg h]
    simp only [h, decide_false]
    split
    · rfl
    split
    · rfl
    split
    · rfl
    split <;> rfl

/-- A detection while every event is masked changes the block records and the status alone (R12, R13). -/
theorem detect_masked (ids : IdCodes) {s : State} (h : s.decoder.mask = BitVec.allOnes 12) (h0 : s.decoder.status = 0) :
    detect ids s = { s with
      blocks := if s.straps.autodet = true then { s.blocks with records := ids.toList.map (detectBlock s.blocks.allowed) }
        else s.blocks
      decoder := { s.decoder with
        status := if s.straps.autodet = true then foundBits s.blocks.allowed ids else 0 } } := by
  have hr : ∀ (p : Bool) e (u : State), u.decoder.mask = BitVec.allOnes 12 →
      (if p then raise e u else u) = setStatus (u.decoder.status ||| if p then eventMask e else 0) u := fun p e u hu => by
    cases p
    · simp [setStatus]
    · simpa using raise_masked e hu
  unfold detect
  cases ha : s.straps.autodet
  · simp [← h0]
  · simp only [Bool.not_true, Bool.false_eq_true, if_false, if_true]
    have hb : ∀ r, (setBlockRecords r s).decoder.mask = BitVec.allOnes 12 := fun _ => h
    have hs : ∀ x r, (setStatus x (setBlockRecords r s)).decoder.mask = BitVec.allOnes 12 := fun _ _ => h
    have hz : ∀ x : BitVec 12, 0 ||| x = x := fun _ => BitVec.zero_or
    rw [hr _ .adapterRejected _ (hb _), hr _ .adapterFault _ (hs _ _)]
    simp only [setStatus, setBlockRecords, foundBits, List.any_map, Function.comp_def, bandOf_invalid, h0, hz]
    rfl

/-! ## The release -/

/-- What a reset of a scope makes of a point record (R1, R183). -/
def resetTo (full : Bool) (p : Point) : Point :=
  if full = true then Point.powerUp else { Point.powerUp with net := p.net, role := p.role }

/-- The station released from HELD, its scope's values set, before its detection (R58, R183). -/
def released (full : Bool) (s : State) : State :=
  { State.atPowerUp s.straps false s.lines.holdSeen s.lines.estop with
    pending := s.pending
    bus := { s.bus with held := false, resetCount := 0, slot := [], window := .off, errors := 0, silent := false }
    lines := { s.lines with holdOut := false }
    points := (mapPoints (fun _ p => resetTo full p) s).points
    blocks := if full = true then Blocks.powerUp else s.blocks
    params := if full = true then Params.defaults else s.params
    run := if full = true then Run.powerUp else { Run.powerUp with watch1 := s.run.watch1, watch2 := s.run.watch2 }
    hv := if full = true then Hv.powerUp s.straps.hvsrc
      else { Hv.powerUp s.straps.hvsrc with segments := s.hv.segments, userLength := s.hv.userLength }
    print := if full = true then Printer.powerUp
      else { Printer.powerUp with credit := s.print.credit, pageLength := s.print.pageLength }
    decoder := { Decoder.powerUp with mask := if full = true then BitVec.allOnes 12 else s.decoder.mask } }

/-- What both scopes set, on a station just out of HELD (R58, R183). -/
theorem resetRunState_released (s : State) :
    resetRunState (enterFollowing (forcedFloat { s with bus := { s.bus with held := false, resetCount := 0 } })) =
      released false s := by
  have hp : (forcedFloat s).points.map (resetPoint false) = (mapPoints (fun _ p => resetTo false p) s).points := by
    simp only [forcedFloat, mapPoints, setBatches, List.map_map]
    rfl
  unfold enterFollowing released
  rw [← hp]
  split <;> rfl

/-- What RESET FULL sets beyond (R183). -/
theorem resetFullState_released (s : State) : resetFullState (released false s) = released true s := by
  have hp : (mapPoints (fun _ p => resetTo false p) s).points.map (resetPoint true) =
      (mapPoints (fun _ p => resetTo true p) s).points := by
    simp only [mapPoints, List.map_map]
    rfl
  unfold resetFullState
  rw [show (released false s).points = (mapPoints (fun _ p => resetTo false p) s).points from rfl, hp]
  rfl

/-- A release: the scope's values, the block detection under either scope, and an ESTOP seen asserted (R12, R58). -/
theorem release_eq (full : Bool) (ids : IdCodes) (s : State) : release full ids s =
    if (detect ids (released full s)).lines.estop then estopWork (detect ids (released full s))
    else detect ids (released full s) := by
  unfold release resetStation
  simp only [resetRunState_released, resetFullState_released]
  cases full <;> rfl

/-- ESTOP's work does nothing at a station whose points float, with no batch, override, run or HV interval (R33). -/
theorem estopWork_idle {s : State} (hp : (forcedFloat s).points = s.points)
    (hm : s.matrix = { batches := [], override := .none }) (hr : runActive s = false)
    (hv : s.straps.hvsrc = true → s.hv.stage = .following ∧ s.hv.setpoint = 0 ∧ s.hv.hven = false) : estopWork s = s := by
  have hh : (if s.straps.hvsrc = true then { s.hv with stage := .following, setpoint := 0, hven := false } else s.hv) = s.hv := by
    split
    · rename_i hs
      obtain ⟨h1, h2, h3⟩ := hv hs
      rw [← h1, ← h2, ← h3]
    · rfl
  have hu : dropReturn (enterFollowing (forcedFloat s)) = s := by
    rw [estopWork_floats, hp, hm, hh, if_neg (by decide), ← hm]
  rw [estopWork_eq, hu, endActiveRun_inactive _ hr]

/-- The points of a station released float, so a forced FLOAT leaves them (R31). -/
theorem forcedFloat_released {full : Bool} {s u : State} (h : u.points = (released full s).points) :
    (forcedFloat u).points = u.points := by
  have hf : ∀ p, forceFloat (resetTo full p) = resetTo full p := fun p => by cases full <;> rfl
  have hu : u.points = s.points.zipIdx.map fun q => resetTo full q.1 := h
  have hz : (forcedFloat u).points = u.points.map forceFloat := by
    show u.points.zipIdx.map (fun q => forceFloat q.1) = _
    rw [← Function.comp_def forceFloat Prod.fst, ← List.map_map, List.zipIdx_map_fst]
  rw [hz, hu, List.map_map]
  exact List.map_congr_left fun q _ => hf q.1

/-- The station after a release from HELD, every event masked (R12, R58, R184): ESTOP seen asserted finds nothing to do. -/
theorem release_masked (full : Bool) (ids : IdCodes) {s : State} (hm : s.decoder.mask = BitVec.allOnes 12) :
    release full ids s = { released full s with
      blocks := if s.straps.autodet = true then
          { (released full s).blocks with records := ids.toList.map (detectBlock (released full s).blocks.allowed) }
        else (released full s).blocks
      decoder := { (released full s).decoder with
        status := if s.straps.autodet = true then foundBits (released full s).blocks.allowed ids else 0 } } := by
  have hmask : (released full s).decoder.mask = BitVec.allOnes 12 := by cases full <;> [exact hm; rfl]
  refine Eq.trans ?_ (detect_masked ids hmask rfl)
  rw [release_eq]
  split
  · have hmatrix : (detect ids (released full s)).matrix = (released full s).matrix := by simp
    have hstraps : (detect ids (released full s)).straps = s.straps := by rw [(detect_frame ids _).2.1]; rfl
    have hhv : (detect ids (released full s)).hv = (released full s).hv := by simp
    have hrun : runActive (detect ids (released full s)) = runActive (released full s) := runActive_congr (by simp)
    refine estopWork_idle (forcedFloat_released (s := s) (full := full) (by simp)) hmatrix (hrun.trans (by cases full <;> rfl))
      fun hv => ?_
    rw [hstraps] at hv
    rw [hhv]
    cases full <;> simp [released, Hv.powerUp, hv]
  · rfl

/-! ## Frames in HELD -/

/-- An address of 24..31 is a strap fault (R57). -/
theorem strapFault_iff (s : State) : strapFault s = true ↔ 24 ≤ addr s := decide_eq_true_iff

/-- A clean frame in HELD that is no RESET pair's clears the RESET count (R41, R57, R58). -/
theorem frameEnd_held (f : Frame) (act : Bool → State → State) {s : State} (hh : s.bus.held = true) : frameEnd f act s =
    if s.bus.integrated = false ∨ 24 ≤ addr s then s else { s with bus := { s.bus with resetCount := 0 } } := by
  unfold frameEnd
  cases hi : s.bus.integrated
  · simp
  · rw [if_neg (by decide), if_pos hh]
    simp only [strapFault_iff, Bool.true_eq_false, false_or]
    rfl

/-- A frame command in HELD (R58). -/
theorem exec_heldFrame {f : Frame} {ids : IdCodes} {s : State} (hi : s.bus.integrated = true) (hh : s.bus.held = true) :
    exec (.heldFrame f ids) s = .next (heldTakes f ids s) := by
  show Host.Outcome.next _ = _
  rw [if_pos (by simp [hi, hh])]

/-- A RESET command in HELD is the RESET frame of its scope (R58). -/
theorem resetFrame_held {full : Bool} {h : Header} {ids : IdCodes} {s : State} (hi : s.bus.integrated = true)
    (hh : s.bus.held = true) : resetFrame full h ids s =
      heldTakes ⟨h.src, h.dst, .request 22 h.tag [if full then 2 else 1]⟩ ids s := if_pos (by simp [hi, hh])

/-- Settles O18: the second RESET of a pair releases the station, every event masked; no other frame does more than clear the
count. -/
theorem heldTakesTheResetPairAlone : Obligations.HeldTakesTheResetPairAlone := by
  refine ⟨fun f ids s hi hh _ _ _ hmask => ⟨_, exec_heldFrame hi hh, ?_⟩,
    fun c s hh => ⟨fun hk hr => ?_, fun h ids hi => ?_⟩⟩
  · have hm : s.decoder.mask = BitVec.allOnes 12 := by simpa [maskLawful, hh] using hmask
    unfold heldTakes
    by_cases hf : 24 ≤ addr s
    · rw [if_pos hf, if_pos ((strapFault_iff s).2 hf)]
    · rw [if_neg hf, if_neg fun k => hf ((strapFault_iff s).1 k)]
      cases resetCall f with
      | none => rfl
      | some full =>
          by_cases hc : s.bus.resetCount = 0
          · simp only [hc, if_true]
            rfl
          · simp only [hc, if_false]
            rw [release_masked full ids hm]
            refine ⟨⟨mapPoints_length (fun _ p => resetTo full p) s, fun j hj =>
              pointAt_mapPoints (fun _ p => resetTo full p) s j hj⟩, rfl, ?_⟩
            cases full <;> exact ⟨rfl, rfl⟩
  · cases c <;> cases hk <;> cases hr
    all_goals exact congrArg _ (frameEnd_held _ _ hh)
  · rw [exec_heldFrame hi hh, exec_heldFrame hi hh]
    exact ⟨congrArg _ (resetFrame_held hi hh), congrArg _ (resetFrame_held hi hh)⟩

end Sys2Proof.Machine
end

section
/-! The Classifier's arithmetic (R67 to R69, O52) and the buffer and reference code that a sampling pass leaves (R63, R64, R96,
R98, O46). -/

namespace Sys2Proof.Machine

/-! ## Resistance and class -/

/-- A resistance is at most OVER (R67). -/
theorem resistance_le_over (code ref : Nat) : resistance code ref ≤ 65535 := by
  unfold resistance
  split
  · rfl
  · split
    · omega
    · dsimp only
      split
      · omega
      · rfl

/-- Below the isolate limit the three classes part the resistances (R69). -/
theorem classify_iff {l h : Nat} (hlt : l < h) (r : Nat) :
    (classify l h r = .connected ↔ r ≤ l) ∧ (classify l h r = .isolated ↔ h ≤ r) ∧
      (classify l h r = .marginal ↔ l < r ∧ r < h) := by
  unfold classify
  split_ifs
  all_goals simp only [true_iff, false_iff]; omega

/-- The effective isolate limit of sound parameters lies above the connect limit and at most at OVER (R68, R73). -/
theorem effectiveH_bounds {p : Params} (hp : paramsLawful p = true) : p.l < effectiveH p ∧ effectiveH p ≤ 65535 := by
  simp only [paramsLawful, Bool.and_eq_true, decide_eq_true_eq, and_assoc] at hp
  obtain ⟨hl, -, hh, -⟩ := hp
  unfold effectiveH
  split <;> omega

/-- Settles O52: the rows of R67, and the classes of R69 against limits in order. -/
theorem resistanceAndItsClass : Obligations.ResistanceAndItsClass := by
  unfold Obligations.ResistanceAndItsClass
  refine ⟨fun _ _ => rfl, resistance_le_over, fun _ _ r hlt => classify_iff hlt r, fun p hp => ?_⟩
  obtain ⟨hlow, hhigh⟩ := effectiveH_bounds hp
  obtain ⟨-, isolated_iff, -⟩ := classify_iff hlow 65535
  exact ⟨hlow, hhigh, isolated_iff.2 hhigh⟩

/-! ## The codes of a pass -/

/-- The code a pass reads at a local index (R63): the average of the conversions less the offset, clamped. -/
theorem readCode_eq (s : State) (n : Nat) (readings : List Reading) (j : Nat) :
    readCode s n readings j =
      let codes := ((readings.find? fun r => r.index == j).map Reading.codes).getD []
      let average : Int := ((codes.take n).map BitVec.toNat).sum / n
      (max 0 (min 4095 (average - s.sampler.offset))).toNat := by
  have hcodes : codesAt readings n j =
      ((((readings.find? fun r => r.index == j).map Reading.codes).getD []).take n).map BitVec.toNat := by
    unfold codesAt
    cases readings.find? fun r => r.index == j with
    | none => simp
    | some r => exact List.map_take.symm
  rw [readCode, hcodes]
  rfl

/-- The buffer of a pass holds a record's corrected code where the point is sensable and not driven (R63, R64). -/
theorem passBuffer_getElem? {s : State} {j : Nat} (hj : j < s.points.length) (n : Nat) (driven : Option Nat)
    (readings : List Reading) : (passBuffer s n driven readings)[j]? =
      some (if sensable s j (pointAt s j) = true ∧ driven ≠ some (gpOf s j) then some (readCode s n readings j) else none) := by
  simp [passBuffer, pointAt, hj]

/-- Settles O46: the pass leaves its buffer and its reference code, and ends as `afterPass_passEnds` says. -/
theorem samplingPassFillsTheBuffer : Obligations.SamplingPassFillsTheBuffer := by
  unfold Obligations.SamplingPassFillsTheBuffer
  intro readings s
  refine ⟨_, rfl, ?_⟩
  cases s.sampler.job with
  | free => rfl
  | calibrating => rfl
  | sampling n driven =>
      have hbuffer : (finishPass n driven readings s).sampler.buffer = passBuffer s n driven readings := by
        simp [finishPass]
      simp only [hbuffer, ← readCode_eq]
      exact ⟨afterPass_passEnds _, by simp [passBuffer], fun j hj => passBuffer_getElem? hj n driven readings⟩

end Sys2Proof.Machine
end

section
/-! RUN PARAMETERS (R73, O6), and the run frames SOURCE_READY and HALTED (R77 to R79, R99, O38). -/

namespace Sys2Proof.Machine

/-! ## RUN PARAMETERS -/

/-- The sample count stored, from the highest down (R73). -/
theorem sampleCount_eq (n : Nat) : sampleCount n = if 8 ≤ n then 8 else if 4 ≤ n then 4 else if 2 ≤ n then 2 else 1 := by
  unfold sampleCount
  split_ifs <;> omega

/-- The fields of a call brought into range (R73): a bound that the field's width already keeps drops out. -/
theorem storedParams_eq (a : ParamArgs) : storedParams a =
    { l := min 65533 a.l.toNat, h := max 1 a.h.toNat
      n := if 8 ≤ a.n.toNat then 8 else if 4 ≤ a.n.toNat then 4 else if 2 ≤ a.n.toNat then 2 else 1
      s := max 1 (min 20 a.s.toNat), stepLimit := max 10 (min 5000 a.stepLimit.toNat)
      sweep := a.sweep != 0, insulation := a.insulation != 0, volt := max 50 (min 1500 a.volt.toNat) / 10 * 10
      profile := if 4 < a.profile.toNat then 1 else a.profile.toNat, dwell := max 10 (min 60000 a.dwell.toNat)
      w := if a.w = 8 then 8 else if a.w = 32 then 32 else 16, peak := a.mode == 1
      trip := max 1000 a.trip.toNat, irMin := max 1 (min 999999 a.irMin.toNat)
      summary := a.summary != 0, page := max 20 (min 120 a.page.toNat) } := by
  have hfull : ∀ lo (x : Half), clamp lo 65535 x.toNat = max lo x.toNat := fun lo x => by
    unfold clamp
    rw [Nat.min_eq_right (by omega)]
  have hw : windowLength a.w.toNat = if a.w = 8 then 8 else if a.w = 32 then 32 else 16 := by
    have h8 : a.w.toNat = 8 ↔ a.w = 8 := BitVec.toNat_inj (y := 8)
    have h32 : a.w.toNat = 32 ↔ a.w = 32 := BitVec.toNat_inj (y := 32)
    unfold windowLength
    split
    · rename_i hw
      rcases hw with hw | hw
      · rw [if_pos (h8.1 hw), hw]
      · rw [if_neg fun k => by rw [h8.2 k] at hw; omega, if_pos (h32.1 hw), hw]
    · rename_i hw
      rw [if_neg fun k => hw (.inl (h8.2 k)), if_neg fun k => hw (.inr (h32.2 k))]
  unfold storedParams
  rw [hfull, hfull, sampleCount_eq, hw, clamp, Nat.zero_max]
  rfl

/-- RUN PARAMETERS taken, addressed or as a general call (R73). -/
theorem exec_runParameters {h : Header} {s : State} (a : ParamArgs) (hw : noFirstFrame s = true)
    (ht : takesAddressed h s = true ∨ takesGeneral h s = true) : exec (.runParameters h a) s = .next { s with
      params := storedParams a
      bus := if h.dst = Config.generalCall then heard s
        else answered h (replyTo h 5 (paramBytes (storedParams a))) s } := by
  rcases ht with ht | ht
  · have hd : h.dst ≠ Config.generalCall := by
      simp only [takesAddressed, Bool.and_eq_true, bne_iff_ne] at ht
      exact ht.1.1.1.2
    rw [if_neg hd]
    exact congrArg Host.Outcome.next ((request_addressed h 5 _ s ht hw).trans
      (queue_answers ht _ (u := { s with params := storedParams a, bus := heard s }) rfl rfl))
  · have hd : h.dst = Config.generalCall := by
      simp only [takesGeneral, Bool.and_eq_true, beq_iff_eq] at ht
      exact ht.2
    rw [if_pos hd]
    exact congrArg Host.Outcome.next (request_general h 5 _ s ht hw)

/-- Settles O6: the call stores `storedParams`, field by field as `storedParams_eq` spells them. -/
theorem runParametersStoredInRange : Obligations.RunParametersStoredInRange := by
  intro h a s hw ht
  refine ⟨_, exec_runParameters a hw ht, rfl, ?_⟩
  simp only [storedParams_eq a, and_self]

/-! ## Run frames -/

/-- A run-protocol frame delivered to the Step Engine, no first frame of a bid window (R42, R52). -/
theorem runFrame_taken {r : Route} {s : State} (p : Payload) (act : Bool → State → State) (ht : takesRunFrame r s = true)
    (hw : noFirstFrame s = true) :
    runFrame r p act s = act (isOwn (onRoute r p) s) { s with bus := frameSeen (onRoute r p) s } := by
  simp only [takesRunFrame, takesFrames, listening, Bool.and_eq_true, Bool.not_eq_true'] at ht
  obtain ⟨⟨⟨hi, hh⟩, -⟩, hr⟩ := ht
  exact (frameEnd_seen _ _ hi hh hw).trans (if_pos hr)

/-- A clean HALTED suspends a step timer that is not stopped (R77). -/
theorem timerHalt_eq (s : State) : timerHalt s = { s with run := { s.run with timer := { s.run.timer with
    mode := if s.run.timer.mode = .stopped then .stopped else .suspended true } } } := by
  unfold timerHalt
  split
  · rename_i hm; rw [if_pos hm, ← hm]
  · rename_i hm; rw [if_neg hm]; rfl

/-- A SOURCE_READY of this run taken in PREPARE: the election, and the release of HOLD by its sender (R78, R79). -/
theorem exec_sourceReady {r : Route} {run : Half} {s : State} (ht : takesRunFrame r s = true) (hw : noFirstFrame s = true)
    (hp : s.run.state = .prepare) (hn : run.toNat = s.run.number) : exec (.sourceReady r run) s = .next { s with
      bus := frameSeen (onRoute r (.sourceReady run)) s
      lines := { s.lines with holdOut := s.lines.holdOut && !isOwn (onRoute r (.sourceReady run)) s }
      run := { s.run with elected := lowestSource s.run.elected r.src.toNat } } := by
  refine congrArg Host.Outcome.next ((runFrame_taken _ _ ht hw).trans ((if_pos ⟨hp, hn⟩).trans ?_))
  cases isOwn (onRoute r (.sourceReady run)) s
  · simp [setRun]
  · simp [setRun, releaseHold]

/-- A HALTED taken in the sweep or in PREPARE: the timer, and the halt flag of its sender (R77, R99). -/
theorem exec_halted {r : Route} {s : State} (gp : Half) (watch : Byte) (ht : takesRunFrame r s = true)
    (hw : noFirstFrame s = true) (hs : s.run.state = .sweep ∨ s.run.state = .prepare) :
    exec (.halted r gp watch) s = .next { s with
      bus := frameSeen (onRoute r (.halted gp watch)) s
      run := { s.run with
        timer := { s.run.timer with mode := if s.run.timer.mode = .stopped then .stopped else .suspended true }
        halt := s.run.halt || (isOwn (onRoute r (.halted gp watch)) s && s.run.sweepStage == .halted) } } := by
  refine congrArg Host.Outcome.next ((runFrame_taken _ _ ht hw).trans ((if_pos hs).trans ?_))
  rw [timerHalt_eq]
  by_cases hk : isOwn (onRoute r (.halted gp watch)) s = true ∧ s.run.sweepStage = .halted
  · simp [hk, setRun]
  · have hb : (isOwn (onRoute r (.halted gp watch)) s && s.run.sweepStage == .halted) = false := by simpa using hk
    simp [hk, hb]

/-- Settles O38: the frame is delivered, so its effect works on the state with the frame seen, the station's own or another's; of
no source elected and one elected before, the lower stands. -/
theorem sourceReadyElectsAndHaltedSuspends : Obligations.SourceReadyElectsAndHaltedSuspends := by
  refine fun r s ht hw => ⟨fun run hp hn => ?_, fun gp watch hs => exec_halted gp watch ht hw hs⟩
  rw [exec_sourceReady ht hw hp hn]
  cases s.run.elected <;> rfl

end Sys2Proof.Machine
end

section
/-! ABORT and the step timer (R85, R86): an active run ends at the current step (O31). -/

namespace Sys2Proof.Machine

/-- A FLOAT batch requests every point to FLOAT, its report awaited or not (R27, R32). -/
theorem floatAll_requests (why : Purpose) (s : State) : eachPoint s (floatAll why s) fun _ p => requestedTo s .float p := by
  refine ⟨batch_length _ _ s, fun j hj => ?_⟩
  rw [floatAll, pointAt_batch why _ hj, requestedPoint, targetOf_everyPoint .float hj]
  rfl

/-- A request reads of the station whether it is held at FLOAT, LIVE and the settle time (R24, R29, R32). -/
theorem requestedTo_congr {s u : State} (he : u.lines.estop = s.lines.estop) (hl : u.lines.liveSeen = s.lines.liveSeen)
    (hm : u.matrix = s.matrix) (hp : u.params = s.params) (t : Switch) (p : Point) :
    requestedTo u t p = requestedTo s t p := by
  have hf : heldAtFloat u = heldAtFloat s := by rw [heldAtFloat, heldAtFloat, he, hm]
  rw [requestedTo, requestedTo, hf, hl, hp]

/-- A run end requests every point to FLOAT (R83), under the LIVE, the settle time and the hold at FLOAT that it finds. -/
theorem runEnd_requests (cause : Cause) (loc : Where) (s : State) :
    eachPoint s (runEnd cause loc s) fun _ p => requestedTo s .float p := by
  let w := runStopped cause loc s
  have hpoints : w.points = s.points := by simp only [w, runStopped, offer_frame]
  have hmatrix : w.matrix = s.matrix := by simp only [w, runStopped, offer_frame]
  have hparams : w.params = s.params := by simp only [w, runStopped, offer_frame]
  have hreq : ∀ p, requestedTo w .float p = requestedTo s .float p :=
    requestedTo_congr (s := s) (u := w) rfl rfl hmatrix hparams .float
  have hend : (runEnd cause loc s).points = (floatAll .runEnd w).points := by
    rw [runEnd_eq_stopped]
    simp [w]
  obtain ⟨hlen, heach⟩ := floatAll_requests .runEnd w
  rw [hpoints] at hlen heach
  refine ⟨by rw [hend, hlen], fun j hj => ?_⟩
  exact (pointAt_congr hend j).trans ((heach j hj).trans ((hreq _).trans (by rw [pointAt_congr hpoints])))

/-- The end of an active run at the current step: what it leaves, the points and the override in force included (R83, R84). -/
theorem endActiveRun_ends (cause : Cause) {s : State} (ha : runActive s = true) :
    runEnds cause (currentWhere s) s.bus s (endActiveRun cause s) ∧
      (endActiveRun cause s).lines = { s.lines with holdOut := false } ∧
      eachPoint s (endActiveRun cause s) (fun _ p => requestedTo s .float p) ∧
      (endActiveRun cause s).matrix.override = s.matrix.override := by
  have he : endActiveRun cause s = runEnd cause (currentWhere s) s := if_pos ha
  obtain ⟨points, batches, ht⟩ := runEnd_only cause (currentWhere s) s
  rw [he]
  exact ⟨runEnd_runEnds _ _ s, by rw [ht], runEnd_requests _ _ s, by rw [ht]⟩

/-- An ABORT is delivered where it comes from a console, as a general call or to this station (R52). -/
theorem abortDelivered_iff (r : Route) (s : State) :
    abortDelivered r s = true ↔ isConsole r.src = true ∧ (r.dst = 31 ∨ r.dst.toNat = addr s) := by
  simp [abortDelivered, Config.generalCall]

/-- ABORT at a station that takes frames, no first frame of a bid window (R86). -/
theorem exec_abort (r : Route) {s : State} (ht : takesFrames s = true) (hw : noFirstFrame s = true) :
    exec (.abort r) s = .next (if abortDelivered r s then endActiveRun .aborted { s with bus := heard s }
      else { s with bus := heard s }) :=
  congrArg Host.Outcome.next (frameEnd_foreign _ _ s ht hw rfl)

/-- Settles O31: an ABORT delivered ends the run where one is active, and so does an expired step timer, which runs in an active run
alone. -/
theorem abortAndTimeoutEndTheRun : Obligations.AbortAndTimeoutEndTheRun := by
  refine ⟨fun r s ht hw _ => ⟨_, exec_abort r ht hw, ?_⟩, fun s hl => ⟨_, rfl, ?_⟩⟩
  · let u : State := { s with bus := heard s }
    by_cases hd : abortDelivered r s = true
    · obtain ⟨hc, hdst⟩ := (abortDelivered_iff r s).1 hd
      rw [if_pos hd]
      by_cases ha : runActive s = true
      · obtain ⟨hends, hrest⟩ := endActiveRun_ends .aborted (s := u) ha
        rw [if_pos ⟨hc, hdst, ha⟩]
        exact ⟨runEnds_congr hends ⟨_, _, _, _, rfl⟩, hrest⟩
      · rw [if_neg fun k => ha k.2.2]
        exact endActiveRun_inactive _ (s := u) (Bool.eq_false_iff.2 ha)
    · rw [if_neg hd, if_neg fun k => hd ((abortDelivered_iff r s).2 ⟨k.1, k.2.1⟩)]
  · have hexp : timerExpired s = true ↔ s.run.timer.mode = .running ∧ s.run.timer.limit ≤ s.run.timer.elapsed := by
      simp [timerExpired]
    by_cases hx : timerExpired s = true
    · have ha : runActive s = true := by
        refine Bool.not_eq_false _ ▸ fun hn => ?_
        have hstop := ((runLawful_iff s).1 hl).timer hn
        rw [(hexp.1 hx).1] at hstop
        cases hstop
      rw [if_pos hx, if_pos (hexp.1 hx)]
      exact endActiveRun_ends .stepTimeout ha
    · rw [if_neg hx, if_neg fun k => hx (hexp.2 k)]

end Sys2Proof.Machine
end

section
/-! SUPPORT. Offers and the change of the run, bids, and COMPLETE entered as one change of the state. -/

namespace Sys2Proof.Machine

/-! ## Offers -/

/-- An event reads of the run its state alone (R179). -/
theorem raise_setRun (e : Event) {r : Run} {s : State} (hr : r.state = s.run.state) :
    raise e (setRun r s) = setRun r (raise e s) := by
  have hslot : (raise e (setRun r s)).bus.slot = (raise e s).bus.slot := by
    have hcode : runStateCode (setRun r s).run.state = runStateCode s.run.state := congrArg runStateCode hr
    rw [raise_slot, raise_slot, hcode]
    rfl
  rw [raise_only, hslot]
  conv => rhs; rw [raise_only]
  rfl

/-- An offer reads of the run its state alone, for the NOTICE of LIST_FULL (R141, R179). -/
theorem offer_setRun (d : Defect) {r : Run} {s : State} (hr : r.state = s.run.state) :
    offer d (setRun r s) = setRun r (offer d s) := by
  have hst : ∀ d, storeOffer d (setRun r s) = setRun r (storeOffer d s) := fun d => by
    have hlen : (setRun r s).defects.records.length = s.defects.records.length := rfl
    unfold storeOffer
    rw [hlen]
    split
    · rfl
    · exact raise_setRun .listFull (s := setDefects _ s) hr
  have hi : ∀ id, holdsIdent (setRun r s) id = holdsIdent s id := fun _ => rfl
  unfold offer
  simp only [hi, hst]
  repeat' split
  all_goals rfl

/-- Offers of one job read of the run its state alone. -/
theorem offerAll_setRun (ds : List Defect) {r : Run} {s : State} (hr : r.state = s.run.state) :
    offerAll ds (setRun r s) = setRun r (offerAll ds s) := by
  induction ds generalizing s with
  | nil => rfl
  | cons d ds ih =>
      show offerAll ds (offer d (setRun r s)) = setRun r (offerAll ds (offer d s))
      rw [offer_setRun d hr]
      exact ih (by simpa using hr)

/-- Offers of one job change the list, and for LIST_FULL the status and the slot (R140, R141). -/
theorem offerAll_only (ds : List Defect) (s : State) : offerAll ds s = { s with
    bus := { s.bus with slot := (offerAll ds s).bus.slot }, defects := (offerAll ds s).defects
    decoder := { s.decoder with status := (offerAll ds s).decoder.status } } := by
  induction ds generalizing s with
  | nil => rfl
  | cons d ds ih =>
      have hrest := ih (offer d s)
      show offerAll ds (offer d s) = { s with
        bus := { s.bus with slot := (offerAll ds (offer d s)).bus.slot }, defects := (offerAll ds (offer d s)).defects
        decoder := { s.decoder with status := (offerAll ds (offer d s)).decoder.status } }
      generalize offerAll ds (offer d s) = t at hrest ⊢
      refine hrest.trans ?_
      rw [offer_only d s]

/-! ## Bids -/

/-- A bid queued, where the station has one: it may queue, being neither in HELD nor SILENT (R91, R114). -/
theorem queueBid_eq (b : Option Payload) {s : State} (hh : s.bus.held = false) (hs : s.bus.silent = false) :
    (b.elim s fun p => queue Config.generalCall p s) = setSlot (withBid b s) s := by
  cases b with
  | none => rfl
  | some p => exact queue_puts _ _ s (by rw [hh, hs]; rfl)

/-- The DRIVE bid as one change of the slot (R91). -/
theorem bidDrive_eq {s : State} (hh : s.bus.held = false) (hs : s.bus.silent = false) :
    bidDrive s = setSlot (withBid (driveBid s) s) s := by
  rw [← queueBid_eq _ hh hs]
  unfold bidDrive driveBid
  cases lowestDrivable s <;> rfl

/-- The NET bid as one change of the slot (R114). -/
theorem bidNet_eq {s : State} (hh : s.bus.held = false) (hs : s.bus.silent = false) :
    bidNet s = setSlot (withBid (netBid s) s) s := by
  rw [← queueBid_eq _ hh hs]
  unfold bidNet netBid
  cases lowestPending s <;> rfl

/-! ## COMPLETE -/

/-- COMPLETE entered: no stage awaits the report of its FLOAT batch (R82). -/
theorem enterComplete_completes (s : State) : completes s (enterComplete s) := by
  let v := stopSummary (releaseHold (timerStop
    (setRun { s.run with state := .complete, sweepStage := .none, insStage := .none } s)))
  have hv : awaitsNone v := ⟨rfl, rfl, fun h => by cases h⟩
  exact ⟨floatAll_requests .complete v, batch_only .complete (everyPoint v .float) hv⟩

end Sys2Proof.Machine
end

section
/-! HOLD seen released at the end of PREPARE and of the sweep (R79 to R82, R90, R113, O23). -/

namespace Sys2Proof.Machine

/-- The engine where the election of PREPARE ends (R79): the elected source knows itself. -/
def electedHv (s : State) : Hv :=
  if s.straps.hvsrc = true ∧ s.run.elected = some (addr s) then { s.hv with elected := true } else s.hv

/-- HOLD seen released in PREPARE: the election, and the first phase (R79, R80). -/
theorem prepareEnd_eq (busy : Bool) (s : State) : prepareEnd busy s =
    if s.run.sweepOn = true then sweepEntry busy { s with hv := electedHv s }
    else insulationEntry true busy { s with hv := electedHv s } := by
  have he : (if s.straps.hvsrc && s.run.elected == some (addr s) then setHv { s.hv with elected := true } s else s) =
      { s with hv := electedHv s } := by
    unfold electedHv
    by_cases hk : s.straps.hvsrc = true ∧ s.run.elected = some (addr s)
    · simp [hk, setHv]
    · simp only [hk, if_false]
      exact if_neg (by simpa using hk)
  simp only [prepareEnd, he]

/-- The sweep entered: the completion mark and the first bid (R56, R90, R91). -/
theorem sweepEntry_eq (busy : Bool) {s : State} (hh : s.bus.held = false) (hs : s.bus.silent = false) :
    sweepEntry busy s = { s with
      run := { s.run with state := .sweep, sweepStage := .bidding }, bus := busBidding (driveBid s) busy s } :=
  bidDrive_eq (s := setSweepStage .bidding (markStep busy (setRun { s.run with state := .sweep } s))) hh hs

/-- The insulation check entered, or the run COMPLETE where the check is disabled or no source is elected (R81, R113): what the
step timer was stopped on is the station `s`. -/
theorem insulationEntry_enters (fromPrepare busy : Bool) {s : State} (hh : s.bus.held = false) (hs : s.bus.silent = false) :
    let t := insulationEntry fromPrepare busy (timerStop s)
    let v : State := { s with run := { s.run with state := .insulate } }
    if s.run.insOn = false then completes s t
    else if s.run.elected = none then completes (offer .phaseSkipped v) t
    else
      let u := if fromPrepare then offerAll (notTestedOffers s) v else s
      t = { s with
        run := { s.run with
          state := .insulate, sweepStage := .none, insStage := .bidding
          timer := { s.run.timer with mode := .stopped } }
        bus := busBidding (netBid s) busy u
        defects := u.defects, decoder := u.decoder } := by
  intro t v
  let r : Run := { s.run with state := .insulate, sweepStage := .none, timer := { s.run.timer with mode := .stopped } }
  have hr : r.state = v.run.state := rfl
  by_cases hi : s.run.insOn = false
  · rw [if_pos hi]
    have ht : t = enterComplete s := if_pos (by simp [setRun, timerStop, setTimer, hi])
    rw [ht]
    exact enterComplete_completes s
  have hi' : ¬ (!s.run.insOn) = true := by simpa using hi
  rw [if_neg hi]
  by_cases he : s.run.elected = none
  · rw [if_pos he]
    have ht : t = enterComplete (offer .phaseSkipped (setRun r v)) := (if_neg hi').trans (if_pos he)
    rw [ht, offer_setRun _ hr]
    have hrun : (offer .phaseSkipped v).run = v.run := by simp
    have hsame : enterComplete (setRun r (offer .phaseSkipped v)) = enterComplete (offer .phaseSkipped v) := by
      unfold enterComplete
      simp only [setRun, hrun]
      rfl
    rw [hsame]
    exact enterComplete_completes _
  rw [if_neg he]
  have ht : t = bidNet (setInsStage .bidding (markStep busy
      (if fromPrepare then offerAll (notTestedOffers s) (setRun r v) else setRun r v))) := (if_neg hi').trans (if_neg he)
  have hbid : ∀ x : State, x.bus.held = false → x.bus.silent = false →
      bidNet (setInsStage .bidding (markStep busy (setRun r x))) = { x with
        run := { r with insStage := .bidding }, bus := busBidding (netBid x) busy x } := fun x k1 k2 =>
    bidNet_eq (s := setInsStage .bidding (markStep busy (setRun r x))) k1 k2
  cases fromPrepare
  · exact ht.trans (hbid v hh hs)
  · simp only [if_true] at ht ⊢
    obtain ⟨slot, defects, status, hu⟩ : ∃ slot defects status, offerAll (notTestedOffers s) v = { v with
        bus := { v.bus with slot := slot }, defects := defects, decoder := { v.decoder with status := status } } :=
      ⟨_, _, _, offerAll_only _ v⟩
    rw [ht, offerAll_setRun _ hr, hu]
    exact hbid _ hh hs

/-- HOLD seen released: the line is seen so, and what it completes (R54, R77). -/
theorem exec_holdSeenReleased (busy : Bool) {s : State} (hs : s.lines.holdSeen = true) (ho : s.lines.holdOut = false) :
    exec (.holdSeenReleased busy) s = .next (barrierEnd busy { s with lines := { s.lines with holdSeen := false } }) :=
  congrArg Host.Outcome.next (if_pos (by rw [hs, ho]; rfl))

/-- Settles O23: PREPARE ends with the election, then either phase; the sweep's end barrier enters the insulation check. -/
theorem phasesAreEntered : Obligations.PhasesAreEntered := by
  intro busy s hseen hout hl hst
  have hr := (runLawful_iff s).1 hl
  rcases hst with hp | ⟨hw, hg⟩
  · obtain ⟨hh, hs⟩ := hr.activeFree (show runActive s = true by simp [runActive, hp])
    let w : State := { s with lines := { s.lines with holdSeen := false }, hv := electedHv s }
    have hx : barrierEnd busy { s with lines := { s.lines with holdSeen := false } } =
        if s.run.sweepOn = true then sweepEntry busy (timerStop w) else insulationEntry true busy (timerStop w) := by
      have hb : barrierEnd busy { s with lines := { s.lines with holdSeen := false } } =
          prepareEnd busy (timerStop { s with lines := { s.lines with holdSeen := false } }) := by
        simp only [barrierEnd, hp]
      exact hb.trans (prepareEnd_eq busy _)
    refine ⟨_, exec_holdSeenReleased busy hseen hout, ?_⟩
    rw [hx]
    simp only [hp, true_and]
    by_cases hon : s.run.sweepOn = true
    · rw [if_pos hon, if_pos hon]
      exact sweepEntry_eq (s := timerStop w) busy hh hs
    · rw [if_neg hon, if_neg hon]
      exact insulationEntry_enters true busy (s := w) hh hs
  · obtain ⟨hh, hs⟩ := hr.activeFree (show runActive s = true by simp [runActive, hw])
    let w : State := { s with lines := { s.lines with holdSeen := false } }
    have hx : barrierEnd busy w = insulationEntry false busy (timerStop w) := by
      simp only [barrierEnd, w, hw, hg]
    refine ⟨_, exec_holdSeenReleased busy hseen hout, ?_⟩
    rw [hx]
    simp only [hw, reduceCtorEq, false_and, if_false]
    exact insulationEntry_enters false busy (s := w) hh hs

end Sys2Proof.Machine
end

section
/-! SUPPORT. The transmit slot where no frame has begun, as a frame end of another node leaves it: what a frame queued and a
withdrawal make of its entries (R43). -/

namespace Sys2Proof.Machine

/-- No frame of the slot has begun. -/
def noneBegun (slot : List TxEntry) : Prop := ∀ e ∈ slot, e.begun = false

/-- The service of a delayed request is a DATA or an END (R174). -/
theorem servesRequest_kind {e : TxEntry} (h : servesRequest e = true) : entryKind e = 11 ∨ entryKind e = 12 := by
  unfold servesRequest at h
  split at h
  · rename_i hp; exact .inl (by rw [entryKind, hp]; rfl)
  · rename_i hp; exact .inr (by rw [entryKind, hp]; rfl)
  · cases h

/-- A frame queued where none has begun replaces the pending one of its kind (R43). -/
theorem mem_putFrame {slot : List TxEntry} (h : noneBegun slot) (f : Frame) (e : TxEntry) :
    e ∈ putFrame f slot ↔ e = freshEntry f ∨ (e ∈ slot ∧ entryKind e ≠ kindCode f.payload) := by
  rcases putFrame_cases f slot with ⟨x, hx, hb, -, -⟩ | hp
  · exact absurd (hb.symm.trans (h x hx)) Bool.noConfusion
  · rw [hp, mem_insertEntry]
    rfl

/-- The slot with the withdrawal of a kind (R43). -/
def withdrawnKind (k : Nat) (slot : List TxEntry) : List TxEntry :=
  slot.filterMap fun e => if entryKind e = k then withdrawn e else some e

/-- A withdrawal where none has begun removes the entries of its kind (R43). -/
theorem mem_withdrawnKind {slot : List TxEntry} (h : noneBegun slot) (k : Nat) (e : TxEntry) :
    e ∈ withdrawnKind k slot ↔ e ∈ slot ∧ entryKind e ≠ k := by
  rw [withdrawnKind, List.mem_filterMap]
  constructor
  · rintro ⟨x, hx, he⟩
    split at he
    · rw [withdrawn, h x hx] at he; cases he
    · rename_i hk; cases he; exact ⟨hx, hk⟩
  · rintro ⟨he, hk⟩
    exact ⟨e, he, if_neg hk⟩

/-- A withdrawal of frames not begun, where none has, removes the entries of its sort (R174, R181). -/
theorem mem_dropUnbegun_iff {slot : List TxEntry} (h : noneBegun slot) (which : TxEntry → Bool) (e : TxEntry) :
    e ∈ dropUnbegun which slot ↔ e ∈ slot ∧ which e = false := by
  constructor
  · intro he
    obtain ⟨x, hx, -, -, -, -, ⟨hw, rfl⟩ | ⟨hb, -⟩⟩ := mem_dropUnbegun which slot e he
    · exact ⟨hx, hw⟩
    · exact absurd (hb.symm.trans (h x hx)) Bool.noConfusion
  · rintro ⟨he, hw⟩
    exact List.mem_filterMap.2 ⟨e, he, if_pos (by rw [hw]; rfl)⟩

theorem noneBegun_putFrame {slot : List TxEntry} (h : noneBegun slot) (f : Frame) : noneBegun (putFrame f slot) := by
  intro e he
  rcases (mem_putFrame h f e).1 he with rfl | ⟨he, -⟩
  · rfl
  · exact h e he

/-- The slot that another node's frame end leaves, an answer queued or not, has no frame begun (R44). -/
theorem noneBegun_heard (s : State) : noneBegun (heard s).slot := fun _ he => notSent_unbegun he

end Sys2Proof.Machine
end

section
/-! SUPPORT. What the acceptance of START RUN makes of the station (R76), as one change of the state, and of the transmit slot. -/

namespace Sys2Proof.Machine

/-! ## The parts of acceptance -/

/-- A DUMP DEFECTS is in progress (R176). -/
def dumping (s : State) : Bool := s.decoder.ctx.any fun c => c.kind == .dumpDefects

/-- The END of a cancelled context (R176, R177). -/
def cancelledEnd (s : State) (c : Context) : Frame :=
  ownFrame s c.requester (.answerEnd (byte (delayedCode c.kind)) c.tag (half c.sent) 1)

/-- The slot after the END of a DUMP DEFECTS in progress (R176). -/
def dumpEnded (s : State) (slot : List TxEntry) : List TxEntry :=
  match s.decoder.ctx with
  | some c => if c.kind = .dumpDefects then putFrame (cancelledEnd s c) (withdrawnKind 11 slot) else slot
  | none => slot

/-- The Print Engine once a pass in progress is cut (R147, R163). -/
def cutPrint (p : Printer) : Printer :=
  if p.pass = true then { p with pass := false, outcome := .cut, stall := none } else p

/-- The slot once a pass in progress is cut (R147, R163). -/
def cutSlot (s : State) : List TxEntry := if s.print.pass = true then withdrawnKind 15 s.bus.slot else s.bus.slot

/-- The delayed request once a DUMP DEFECTS in progress is cancelled (R176). -/
def dumpCancelled (ctx : Option Context) : Option Context :=
  ctx.map fun c => if c.kind = .dumpDefects then { c with cancelled := true } else c

/-- A pass in progress is cut (R147, R163). -/
theorem endPassCut_eq (s : State) : (if s.print.pass then endPass .cut s else s) = { s with
    bus := { s.bus with slot := cutSlot s }, print := cutPrint s.print } := by
  unfold cutSlot cutPrint
  cases s.print.pass <;> rfl

/-- A DUMP DEFECTS in progress is cancelled and its END queued, at a station that may queue (R176). -/
theorem endDump_eq {s : State} (hh : s.bus.held = false) (hs : s.bus.silent = false) : endDump s = { s with
    bus := { s.bus with slot := dumpEnded s s.bus.slot }
    decoder := { s.decoder with ctx := dumpCancelled s.decoder.ctx } } := by
  have hq : (s.bus.held || s.bus.silent) = false := by rw [hh, hs]; rfl
  rcases s with ⟨_, _, _, _, _, _, _, _, _, _, _, _, _, _, ctx, _, _, _⟩
  cases ctx with
  | none => rfl
  | some c =>
      unfold endDump dumpEnded dumpCancelled
      by_cases hk : c.kind = .dumpDefects
      · simp only [if_pos hk, Option.map_some]
        exact queue_puts _ _ (setContext (some { c with cancelled := true }) (withdraw 11 _)) hq
      · simp only [if_neg hk, Option.map_some]

/-- HOLD asserted by a station in an active run that did not assert it: the service pauses, and a line that was released rises
(R53, R77, R174). -/
theorem assertHold_eq {s : State} (ha : runActive s = true) (ho : s.lines.holdOut = false) : assertHold s = { s with
    bus := { s.bus with slot := dropUnbegun servesRequest s.bus.slot }
    lines := { s.lines with holdOut := true, holdSeen := true }
    run := { s.run with timer := timerAtHold s } } := by
  have hp : pauseService { s with lines := { s.lines with holdOut := true } } = { s with
      bus := { s.bus with slot := dropUnbegun servesRequest s.bus.slot }, lines := { s.lines with holdOut := true } } :=
    if_pos rfl
  unfold assertHold timerAtHold
  simp only [ho, Bool.false_eq_true, if_false, hp]
  cases hs : s.lines.holdSeen
  · exact if_pos ha
  · simp only [if_true, ← hs]

/-! ## Acceptance -/

/-- The run as START RUN leaves it (R76): in PREPARE, its parameters in force, the step timer restarted. -/
def startedRun (number : Nat) (s : State) : Run :=
  { s.run with
    state := .prepare, number := number, sweepOn := s.params.sweep, insOn := s.params.insulation
    elected := none, step := .none, halt := false, sweepStage := .none, insStage := .none
    timer :=
      { mode := if s.lines.liveSeen = true ∧ s.lines.holdSeen = false then .suspended false else .running
        elapsed := 0, limit := s.params.stepLimit } }

/-- The slot as acceptance leaves it (R76, R147, R163, R174, R176). -/
def startedSlot (s : State) : List TxEntry :=
  dropUnbegun servesRequest (dumpEnded s (cutSlot s))

/-- What acceptance does once the pass is cut and before a DUMP DEFECTS ends: no override, no record, SILENT left (R76). -/
def runCleared (s : State) : State :=
  setDefects Defects.empty
    { s with bus := { s.bus with silent := false, errors := 0 }, matrix := { s.matrix with override := .none } }

/-- What acceptance does from there until HOLD is asserted (R76). -/
def runOpened (number : Nat) (s : State) : State :=
  let u := setHv { s.hv with elected := false } (setRun { s.run with
    state := .prepare, number := number, sweepOn := s.params.sweep, insOn := s.params.insulation
    elected := none, step := .none, halt := false, sweepStage := .none, insStage := .none } s)
  timerRestart .running { u with decoder := { u.decoder with summary := some 0 } }

/-- The timer restarted at acceptance, and once more where HOLD rises with its assertion (R76, R77). -/
theorem timerAtHold_runOpened (number : Nat) (s : State) :
    timerAtHold (runOpened number s) = (startedRun number s).timer := by
  have h : timerAtHold (runOpened number s) = if s.lines.holdSeen = true then
      { mode := .running, elapsed := 0, limit := s.params.stepLimit }
    else { mode := if s.lines.liveSeen = true then .suspended false else .running, elapsed := 0, limit := s.params.stepLimit } :=
    rfl
  rw [h, startedRun]
  cases s.lines.holdSeen <;> cases s.lines.liveSeen <;> rfl

/-- The acceptance of START RUN as one change of the state (R76), at a station out of HELD that does not assert HOLD. -/
theorem acceptRun_eq (number : Nat) {s : State} (hh : s.bus.held = false) (ho : s.lines.holdOut = false) :
    acceptRun number s = { s with
      bus := { s.bus with slot := startedSlot s, silent := false, errors := 0 }
      lines := { s.lines with holdOut := true, holdSeen := true }
      matrix := { s.matrix with override := .none }
      run := startedRun number s
      hv := { s.hv with elected := false }
      defects := Defects.empty
      print := cutPrint s.print
      decoder := { s.decoder with ctx := dumpCancelled s.decoder.ctx, summary := some 0 } } := by
  let c := runCleared { s with bus := { s.bus with slot := cutSlot s }, print := cutPrint s.print }
  let w := runOpened number { c with
    bus := { c.bus with slot := dumpEnded c c.bus.slot }
    decoder := { c.decoder with ctx := dumpCancelled c.decoder.ctx } }
  have hc : acceptRun number s = assertHold (runOpened number (endDump c)) :=
    congrArg (fun u => assertHold (runOpened number (endDump (runCleared u)))) (endPassCut_eq s)
  have hw : runOpened number (endDump c) = w := congrArg (runOpened number) (endDump_eq hh rfl)
  rw [hc, hw, assertHold_eq (s := w) rfl ho, timerAtHold_runOpened]
  rfl

/-- The entries after a DUMP DEFECTS in progress has ended, where none had begun: its END, and no DATA (R176). -/
theorem mem_dumpEnded (s : State) {slot : List TxEntry} (h : noneBegun slot) (e : TxEntry) : e ∈ dumpEnded s slot ↔
    (∃ c ∈ s.decoder.ctx, c.kind = .dumpDefects ∧ e = freshEntry (cancelledEnd s c)) ∨
      (e ∈ slot ∧ (dumping s = true → entryKind e ≠ 11 ∧ entryKind e ≠ 12)) := by
  unfold dumpEnded dumping
  cases s.decoder.ctx with
  | none => simp
  | some c =>
      by_cases hk : c.kind = .dumpDefects
      · have hw := mem_withdrawnKind h 11
        have hk12 : kindCode (cancelledEnd s c).payload = 12 := rfl
        simp only [if_pos hk, mem_putFrame (fun x hx => h x ((hw x).1 hx).1), hw, hk12]
        simp [hk, and_assoc]
      · simp [hk]

/-- The entries that acceptance leaves, where none had begun: no LINE after a cut pass, and after a DUMP DEFECTS its END in place of
the DATA and END of its service, which pauses with HOLD asserted. -/
theorem mem_startedSlot {s : State} (h : noneBegun s.bus.slot) (e : TxEntry) : e ∈ startedSlot s ↔
    servesRequest e = false ∧ ((∃ c ∈ s.decoder.ctx, c.kind = .dumpDefects ∧ e = freshEntry (cancelledEnd s c)) ∨
      (e ∈ s.bus.slot ∧ (s.print.pass = true → entryKind e ≠ 15) ∧
        (dumping s = true → entryKind e ≠ 11 ∧ entryKind e ≠ 12))) := by
  have hcut : ∀ x, x ∈ cutSlot s ↔ x ∈ s.bus.slot ∧ (s.print.pass = true → entryKind x ≠ 15) := fun x => by
    unfold cutSlot
    cases s.print.pass
    · simp
    · simpa using mem_withdrawnKind h 15 x
  have hnone : noneBegun (cutSlot s) := fun x hx => h x ((hcut x).1 hx).1
  have hend : noneBegun (dumpEnded s (cutSlot s)) := fun x hx => by
    rcases (mem_dumpEnded s hnone x).1 hx with ⟨c, -, -, rfl⟩ | ⟨hx, -⟩
    · rfl
    · exact hnone x hx
  rw [startedSlot, mem_dropUnbegun_iff hend, mem_dumpEnded s hnone, hcut, and_comm, and_assoc]

end Sys2Proof.Machine
end

section
/-! SUPPORT. A detection (R12, R13) as one change of the state, and what its events leave of the transmit slot (R178, R179). -/

namespace Sys2Proof.Machine

/-- The status bits of a detection's events: ADAPTER_REJECTED, bit 4, and ADAPTER_FAULT, bit 5 (R13; 3.11, Codes). -/
def adapterFound (a b : Bool) : BitVec 12 := (if a = true then 16 else 0) ||| (if b = true then 32 else 0)

/-- The unmasked events of a detection, event by event. -/
theorem adapterFound_unmasked (a b : Bool) (m : BitVec 12) :
    adapterFound a b &&& ~~~ m = adapterFound (a && !m.getLsbD 4) (b && !m.getLsbD 5) := by
  have hbit : ∀ a b : Bool, ∀ j : Fin 12, (adapterFound a b).getLsbD j = (a && j.val == 4 || b && j.val == 5) := by decide
  refine BitVec.eq_of_getLsbD_eq fun i hi => ?_
  rw [BitVec.getLsbD_and, BitVec.getLsbD_not, hbit a b ⟨i, hi⟩, hbit _ _ ⟨i, hi⟩]
  by_cases h4 : i = 4
  · subst h4; simp
  · by_cases h5 : i = 5
    · subst h5; simp
    · have e4 : (i == 4) = false := by simpa using h4
      have e5 : (i == 5) = false := by simpa using h5
      simp [e4, e5]

/-- A detection finds an adapter that the allowed set rejects. -/
def rejects (ids : IdCodes) (s : State) : Bool := ids.toList.any fun c => rejected s.blocks.allowed (bandOf c.toNat)

/-- A detection finds a code of the invalid band. -/
def faults (ids : IdCodes) : Bool := ids.toList.any fun c => decide (c.toNat < 32)

theorem foundBits_eq (ids : IdCodes) (s : State) : foundBits s.blocks.allowed ids = adapterFound (rejects ids s) (faults ids) := rfl

/-- The events of a detection, ADAPTER_REJECTED before ADAPTER_FAULT (R13). -/
def adapterRaised (a b : Bool) (s : State) : State :=
  let u := if a then raise .adapterRejected s else s
  if b then raise .adapterFault u else u

/-- A detection records the blocks, then raises its events (R12, R13). -/
theorem detect_raises (ids : IdCodes) {s : State} (h : s.straps.autodet = true) : detect ids s =
    adapterRaised (rejects ids s) (faults ids) (setBlockRecords (ids.toList.map (detectBlock s.blocks.allowed)) s) := by
  unfold detect
  simp only [h, Bool.not_true, Bool.false_eq_true, if_false, List.any_map, Function.comp_def, bandOf_invalid]
  rfl

/-- The NOTICE of a status word, of this station in its run state (R179). -/
def statusNotice (s : State) (x : BitVec 12) : Frame :=
  ownFrame s 28 (.notice (x.setWidth 16) (byte (runStateCode s.run.state)))

/-- The status after a detection's events (R178). -/
theorem adapterRaised_status (a b : Bool) (s : State) :
    (adapterRaised a b s).decoder.status = s.decoder.status ||| adapterFound a b := by
  unfold adapterRaised adapterFound
  cases a <;> cases b <;> simp [eventMask, eventBit, BitVec.or_assoc]

/-- The slot with the NOTICE of each unmasked event of a detection, with the status as it stands then (R179). -/
def adapterSlot (a b : Bool) (s : State) : List TxEntry :=
  let first := if (a && !s.decoder.mask.getLsbD 4) = true then
    putFrame (statusNotice s (s.decoder.status ||| 16)) s.bus.slot else s.bus.slot
  if (b && !s.decoder.mask.getLsbD 5) = true then
    putFrame (statusNotice s (s.decoder.status ||| adapterFound a b)) first
  else first

/-- The slot after a detection's events, at a station that may queue (R178, R179). -/
theorem adapterRaised_slot (a b : Bool) {s : State} (hh : s.bus.held = false) (hs : s.bus.silent = false) :
    (adapterRaised a b s).bus.slot = adapterSlot a b s := by
  have hr : ∀ e (u : State), u.bus.held = false → u.bus.silent = false → (raise e u).bus.slot =
      if (!u.decoder.mask.getLsbD (eventBit e)) = true then putFrame (statusNotice u (u.decoder.status ||| eventMask e)) u.bus.slot
      else u.bus.slot := fun e u k1 k2 => by
    rw [raise_slot, k1, k2]
    cases u.decoder.mask.getLsbD (eventBit e) <;> rfl
  have hframe : ∀ a, (adapterRaised a false s).straps = s.straps ∧ (adapterRaised a false s).run = s.run ∧
      (adapterRaised a false s).bus.held = false ∧ (adapterRaised a false s).bus.silent = false ∧
      (adapterRaised a false s).decoder.mask = s.decoder.mask := fun a => by cases a <;> simp [adapterRaised, hh, hs]
  have hfirst : ∀ a, (adapterRaised a false s).bus.slot = if (a && !s.decoder.mask.getLsbD 4) = true then
      putFrame (statusNotice s (s.decoder.status ||| 16)) s.bus.slot else s.bus.slot := fun a => by
    cases a
    · rfl
    · exact hr .adapterRejected s hh hs
  cases b
  · exact hfirst a
  · obtain ⟨k1, k2, k3, k4, k5⟩ := hframe a
    have hn : ∀ x, statusNotice (adapterRaised a false s) x = statusNotice s x := fun x => by
      rw [statusNotice, statusNotice, ownFrame, ownFrame, k1, k2]
    have hst : (adapterRaised a false s).decoder.status ||| eventMask .adapterFault =
        s.decoder.status ||| adapterFound a true := by
      rw [adapterRaised_status, BitVec.or_assoc]
      cases a <;> rfl
    refine (hr .adapterFault (adapterRaised a false s) k3 k4).trans ?_
    rw [hn, hst, k5, hfirst]
    rfl

/-- The events of a detection change the status and the slot alone (R178, R179). -/
theorem adapterRaised_only (a b : Bool) (s : State) : adapterRaised a b s = { s with
    bus := { s.bus with slot := (adapterRaised a b s).bus.slot }
    decoder := { s.decoder with status := (adapterRaised a b s).decoder.status } } := by
  have hr : ∀ e u, raise e u = { u with
      bus := { u.bus with slot := (raise e u).bus.slot }
      decoder := { u.decoder with status := (raise e u).decoder.status } } := fun e u => by
    conv => lhs; rw [raise_only]
    rw [raise_status]
    rfl
  cases a <;> cases b
  · rfl
  · exact hr .adapterFault s
  · exact hr .adapterRejected s
  · have h := hr .adapterFault (raise .adapterRejected s)
    have hv : adapterRaised true true s = raise .adapterFault (raise .adapterRejected s) := rfl
    rw [hv]
    generalize raise .adapterFault (raise .adapterRejected s) = t at h ⊢
    refine h.trans ?_
    rw [raise_only]
    rfl

/-- The slot after a detection (R12, R13): without AUTODET there is none (R14). -/
def detectedSlot (ids : IdCodes) (s : State) : List TxEntry :=
  if s.straps.autodet = true then adapterSlot (rejects ids s) (faults ids) s else s.bus.slot

/-- The blocks after a detection (R12, R14). -/
def detectedBlocks (ids : IdCodes) (s : State) : Blocks :=
  if s.straps.autodet = true then { s.blocks with records := ids.toList.map (detectBlock s.blocks.allowed) } else s.blocks

/-- The event status after a detection (R13, R14). -/
def detectedStatus (ids : IdCodes) (s : State) : BitVec 12 :=
  if s.straps.autodet = true then s.decoder.status ||| foundBits s.blocks.allowed ids else s.decoder.status

/-- A detection as one change of the state (R12, R13). -/
theorem detect_eq (ids : IdCodes) {s : State} (hh : s.bus.held = false) (hs : s.bus.silent = false) : detect ids s = { s with
    bus := { s.bus with slot := detectedSlot ids s }
    blocks := detectedBlocks ids s
    decoder := { s.decoder with status := detectedStatus ids s } } := by
  unfold detectedSlot detectedBlocks detectedStatus
  by_cases ha : s.straps.autodet = true
  · let u := setBlockRecords (ids.toList.map (detectBlock s.blocks.allowed)) s
    have hslot : (adapterRaised (rejects ids s) (faults ids) u).bus.slot = adapterSlot (rejects ids s) (faults ids) s :=
      adapterRaised_slot _ _ (s := u) hh hs
    rw [if_pos ha, if_pos ha, if_pos ha, detect_raises ids ha, adapterRaised_only, hslot, adapterRaised_status]
    rfl
  · rw [if_neg ha, if_neg ha, if_neg ha]
    exact if_pos (by simpa using ha)

/-! ## The slot after a detection -/

/-- A detection whose events are all masked, or that there is none of, leaves the slot as it was. -/
theorem detectedSlot_quiet {ids : IdCodes} {s : State}
    (h : s.straps.autodet = false ∨ foundBits s.blocks.allowed ids &&& ~~~ s.decoder.mask = 0) :
    detectedSlot ids s = s.bus.slot := by
  have hzero : ∀ a b : Bool, adapterFound a b = 0 → a = false ∧ b = false := by decide
  unfold detectedSlot
  split
  · rename_i ha
    have hm := h.resolve_left (by simp [ha])
    rw [foundBits_eq, adapterFound_unmasked] at hm
    obtain ⟨h4, h5⟩ := hzero _ _ hm
    simp only [adapterSlot, h4, h5, Bool.false_eq_true, if_false]
  · rfl

/-- A detection changes no entry but the NOTICE. -/
theorem detectedSlot_sameBut (ids : IdCodes) (s : State) : sameBut 13 (detectedSlot ids s) s.bus.slot := by
  have hput : ∀ (p : Prop) [Decidable p] x slot, sameBut 13 (if p then putFrame (statusNotice s x) slot else slot) slot :=
    fun p _ x slot => by
      split
      · exact putFrame_sameBut (f := statusNotice s x) (k := 13) rfl slot
      · exact .refl _ _
  unfold detectedSlot
  split
  · exact (hput _ _ _).trans (hput _ _ _)
  · exact .refl _ _

/-- A detection begins no frame. -/
theorem detectedSlot_noneBegun (ids : IdCodes) {s : State} (h : noneBegun s.bus.slot) : noneBegun (detectedSlot ids s) := by
  have hput : ∀ (p : Prop) [Decidable p] f slot, noneBegun slot → noneBegun (if p then putFrame f slot else slot) :=
    fun p _ f slot k => by
      split
      · exact noneBegun_putFrame k f
      · exact k
  unfold detectedSlot
  split
  · exact hput _ _ _ (hput _ _ _ h)
  · exact h

/-- The NOTICE of a detection (R13, R179): of the last event unmasked, with the status as it stood then. -/
theorem detectedSlot_notice {ids : IdCodes} {s : State} (ha : s.straps.autodet = true)
    (hm : foundBits s.blocks.allowed ids &&& ~~~ s.decoder.mask ≠ 0) :
    let found := foundBits s.blocks.allowed ids
    ∃ x ∈ [found &&& 16, found &&& 32, found], found &&& ~~~ s.decoder.mask &&& ~~~ x = 0 ∧
      ∃ slot, detectedSlot ids s = putFrame (statusNotice s (s.decoder.status ||| x)) slot := by
  intro found
  simp only [found, detectedSlot, if_pos ha, adapterSlot]
  rw [foundBits_eq, adapterFound_unmasked] at hm ⊢
  generalize rejects ids s = a at hm ⊢
  generalize faults ids = b at hm ⊢
  by_cases h5 : (b && !s.decoder.mask.getLsbD 5) = true
  · have hsub : ∀ a b p q : Bool, adapterFound (a && p) (b && q) &&& ~~~ adapterFound a b = 0 := by decide
    rw [if_pos h5]
    exact ⟨adapterFound a b, by simp, hsub _ _ _ _, _, rfl⟩
  · have h4 : (a && !s.decoder.mask.getLsbD 4) = true := by
      refine Bool.not_eq_false _ ▸ fun h4 => hm ?_
      rw [h4, Bool.eq_false_iff.2 h5]
      rfl
    have hone : ∀ b : Bool, 16 = adapterFound true b &&& 16 := by decide
    obtain ⟨rfl, -⟩ : a = true ∧ _ := by simpa using h4
    rw [if_neg h5, if_pos h4, h4, Bool.eq_false_iff.2 h5]
    exact ⟨16, by rw [← hone]; simp, by decide, _, rfl⟩

end Sys2Proof.Machine
end

section
/-! SUPPORT. The Net Map built at PREPARE, entry by entry (R17, R18). -/

namespace Sys2Proof.Machine

/-- The records with their local indices, index by index. -/
theorem zipIdx_points (s : State) : s.points.zipIdx = (List.range s.points.length).map fun i => (pointAt s i, i) := by
  refine List.ext_getElem? fun i => ?_
  rw [List.getElem?_zipIdx, List.getElem?_map]
  by_cases hi : i < s.points.length
  · simp [pointAt, hi]
  · simp [hi]

/-- The local indices of the sensable points, in ascending order. -/
def sensableIndices (s : State) : List Nat := (List.range s.points.length).filter fun i => sensable s i (pointAt s i)

theorem mem_sensableIndices {s : State} {i : Nat} :
    i ∈ sensableIndices s ↔ i < s.points.length ∧ sensable s i (pointAt s i) = true := by
  simp [sensableIndices]

/-- The effective nets that the Net Map counts: one for each sensable point (R17). -/
theorem sensableNets_eq (s : State) : (s.points.zipIdx.filterMap fun q =>
    if sensable s q.2 q.1 then some (effNetOf s q.2 q.1) else none) = (sensableIndices s).map (effNet s) := by
  rw [zipIdx_points, List.filterMap_map, sensableIndices, ← List.filterMap_eq_filter, List.map_filterMap]
  refine List.filterMap_congr fun i _ => ?_
  simp only [Function.comp_apply, Option.guard]
  by_cases hs : sensable s i (pointAt s i) = true
  · rw [if_pos hs, if_pos hs]; rfl
  · rw [if_neg hs, if_neg hs]; rfl

/-- A net is barred at the start by a fitted point of it on a block that is not rated (R18). -/
theorem unratedNets_contains (s : State) (n : Nat) : (unratedNets s).contains n = true ↔
    ∃ i < s.points.length, fitted s i = true ∧ rated s i = false ∧ effNet s i = n := by
  rw [List.contains_iff_mem, unratedNets, zipIdx_points, List.filterMap_map, List.mem_filterMap]
  refine exists_congr fun i => ?_
  rw [List.mem_range]
  refine and_congr_right fun _ => ?_
  show (if fitted s i && !rated s i then some (effNet s i) else none) = some n ↔ _
  cases fitted s i <;> cases rated s i <;> simp

/-- A map of nets counted: strictly ascending, an entry for each net of the list and for no other, with its number there, no leader
and no bar (R17). -/
structure Counted (nets : List Nat) (m : List NetEntry) : Prop where
  sorted : m.Pairwise fun x y => x.net < y.net
  complete : ∀ n ∈ nets, ∃ e ∈ m, e.net = n
  entries : ∀ e ∈ m, e.net ∈ nets ∧
    e = { net := e.net, count := nets.count e.net, leader := none, state := .pending, reason := none }

/-- An entry after one more net is counted: one of another net, that of the net with one more, or a new one (R17). -/
theorem countNet_entries {n : Nat} {m : List NetEntry} (h : m.Pairwise fun x y => x.net < y.net) {e : NetEntry}
    (he : e ∈ countNet n m) : (e ∈ m ∧ e.net ≠ n) ∨ (∃ x ∈ m, x.net = n ∧ e = { x with count := x.count + 1 }) ∨
      ((∀ x ∈ m, x.net ≠ n) ∧ e = { net := n, count := 1, leader := none, state := .pending, reason := none }) := by
  induction m with
  | nil => exact .inr (.inr ⟨by simp, by simpa [countNet] using he⟩)
  | cons x m ih =>
      obtain ⟨hx, hm⟩ := List.pairwise_cons.1 h
      unfold countNet at he
      split at he
      · rename_i hn
        have hne : ∀ y ∈ x :: m, y.net ≠ n := fun y hy => by
          rcases List.mem_cons.1 hy with rfl | hy
          · omega
          · have := hx y hy; omega
        rcases List.mem_cons.1 he with rfl | he
        · exact .inr (.inr ⟨hne, rfl⟩)
        · exact .inl ⟨he, hne e he⟩
      · split at he
        · rename_i hn
          rcases List.mem_cons.1 he with rfl | he
          · exact .inr (.inl ⟨x, List.mem_cons_self, hn.symm, rfl⟩)
          · have := hx e he
            exact .inl ⟨List.mem_cons_of_mem _ he, by omega⟩
        · rename_i hn
          rcases List.mem_cons.1 he with rfl | he
          · exact .inl ⟨List.mem_cons_self, fun k => hn k.symm⟩
          rcases ih hm he with ⟨he, hk⟩ | ⟨y, hy, hk⟩ | ⟨hk, rfl⟩
          · exact .inl ⟨List.mem_cons_of_mem _ he, hk⟩
          · exact .inr (.inl ⟨y, List.mem_cons_of_mem _ hy, hk⟩)
          · refine .inr (.inr ⟨fun y hy => ?_, rfl⟩)
            rcases List.mem_cons.1 hy with rfl | hy
            · exact fun k => hn k.symm
            · exact hk y hy

/-- A net counted has an entry, and each net that had one has one still (R17). -/
theorem countNet_complete (n : Nat) (m : List NetEntry) {k : Nat} (h : k = n ∨ ∃ e ∈ m, e.net = k) :
    ∃ e ∈ countNet n m, e.net = k := by
  induction m with
  | nil =>
      obtain rfl := h.resolve_right (by simp)
      exact ⟨_, List.mem_singleton_self _, rfl⟩
  | cons x m ih =>
      have hold : (∃ e ∈ x :: m, e.net = k) → x.net = k ∨ ∃ e ∈ m, e.net = k := by simp
      unfold countNet
      split
      · rcases h with rfl | ⟨e, he, hk⟩
        · exact ⟨_, List.mem_cons_self, rfl⟩
        · exact ⟨e, List.mem_cons_of_mem _ he, hk⟩
      · split
        · rename_i hn
          rcases h.imp_right hold with rfl | hk | ⟨e, he, hk⟩
          · exact ⟨_, List.mem_cons_self, hn.symm⟩
          · exact ⟨_, List.mem_cons_self, hk⟩
          · exact ⟨e, List.mem_cons_of_mem _ he, hk⟩
        · rcases h.imp_right hold with hk | hk | hk
          · obtain ⟨e, he, hk⟩ := ih (.inl hk)
            exact ⟨e, List.mem_cons_of_mem _ he, hk⟩
          · exact ⟨x, List.mem_cons_self, hk⟩
          · obtain ⟨e, he, hk⟩ := ih (.inr hk)
            exact ⟨e, List.mem_cons_of_mem _ he, hk⟩

/-- Counting one more net keeps the map counted. -/
theorem Counted.countNet {nets : List Nat} {m : List NetEntry} (h : Counted nets m) (n : Nat) :
    Counted (nets ++ [n]) (countNet n m) := by
  refine ⟨countNet_sorted n m h.sorted, fun k hk => countNet_complete n m ?_, fun e he => ?_⟩
  · rcases List.mem_append.1 hk with hk | hk
    · exact .inr (h.complete k hk)
    · exact .inl (List.mem_singleton.1 hk)
  rcases countNet_entries h.sorted he with ⟨he, hn⟩ | ⟨x, hx, rfl, rfl⟩ | ⟨hn, rfl⟩
  · obtain ⟨hin, hval⟩ := h.entries e he
    refine ⟨List.mem_append_left _ hin, ?_⟩
    rw [List.count_append, List.count_eq_zero.2 fun k => hn (List.mem_singleton.1 k)]
    exact hval
  · obtain ⟨-, hval⟩ := h.entries x hx
    refine ⟨by simp, ?_⟩
    rw [List.count_append, List.count_singleton_self]
    rw [hval]
  · refine ⟨by simp, ?_⟩
    have hnone : n ∉ nets := fun k => by
      obtain ⟨x, hx, hk⟩ := h.complete n k
      exact hn x hx hk
    rw [List.count_append, List.count_eq_zero.2 hnone, List.count_singleton_self]

/-- The counts of a list of nets. -/
theorem counted_foldl (nets : List Nat) : Counted nets (nets.foldl (fun m n => countNet n m) []) := by
  induction nets using List.reverseRecOn with
  | nil => exact ⟨.nil, by simp, by simp⟩
  | append_singleton nets n ih => rw [List.foldl_append]; exact ih.countNet n

/-- The entries of the Net Map built: those counted, barred with reason RATING where the net is (R17, R18). -/
def ratedEntry (s : State) (e : NetEntry) : NetEntry :=
  if (unratedNets s).contains e.net then { e with state := .barred, reason := some .rating } else e

theorem ratedEntry_net (s : State) (e : NetEntry) : (ratedEntry s e).net = e.net := by
  unfold ratedEntry; split <;> rfl

theorem builtNetMap_eq (s : State) :
    builtNetMap s = (((sensableIndices s).map (effNet s)).foldl (fun m n => countNet n m) []).map (ratedEntry s) := by
  rw [← sensableNets_eq]
  rfl

/-- A station that holds the Net Map as built has it as R17 and R18 say. -/
theorem netMapBuilt_of_eq {t : State} (h : t.netMap = builtNetMap t) : netMapBuilt t := by
  have hc := counted_foldl ((sensableIndices t).map (effNet t))
  rw [builtNetMap_eq] at h
  generalize ((sensableIndices t).map (effNet t)).foldl (fun m n => countNet n m) [] = m at hc h
  have hmem : ∀ n, n ∈ (sensableIndices t).map (effNet t) ↔
      ∃ i < t.points.length, sensable t i (pointAt t i) = true ∧ effNet t i = n := fun n => by
    simp only [List.mem_map, mem_sensableIndices, and_assoc]
  refine ⟨?_, fun i hi hs => ?_, fun e he => ?_⟩
  · have hs : t.netMap.Pairwise fun x y => x.net < y.net := by
      rw [h, List.pairwise_map]
      simpa only [ratedEntry_net] using hc.sorted
    simpa [netMapLawful] using hs
  · obtain ⟨e, he, hn⟩ := hc.complete _ ((hmem (effNet t i)).2 ⟨i, hi, hs, rfl⟩)
    exact ⟨ratedEntry t e, by rw [h]; exact List.mem_map_of_mem he, (ratedEntry_net t e).trans hn⟩
  · rw [h] at he
    obtain ⟨x, hx, rfl⟩ := List.mem_map.1 he
    obtain ⟨hin, hval⟩ := hc.entries x hx
    have hcount : ((sensableIndices t).map (effNet t)).count x.net =
        ((List.range t.points.length).filter fun i => sensable t i (pointAt t i) && effNet t i == x.net).length := by
      rw [List.count_eq_countP, List.countP_map, List.countP_eq_length_filter, sensableIndices, List.filter_filter]
      refine congrArg List.length (List.filter_congr fun i _ => ?_)
      exact Bool.and_comm _ _
    rw [ratedEntry_net, ← hcount]
    refine ⟨(hmem _).1 hin, ?_⟩
    rw [hval]
    unfold ratedEntry
    by_cases hu : ∃ i < t.points.length, fitted t i = true ∧ rated t i = false ∧ effNet t i = x.net
    · rw [if_pos hu, if_pos ((unratedNets_contains t _).2 hu)]
      exact ⟨rfl, rfl, rfl, rfl⟩
    · rw [if_neg hu, if_neg fun k => hu ((unratedNets_contains t _).1 k)]
      exact ⟨rfl, rfl, rfl, rfl⟩

end Sys2Proof.Machine
end

section
/-! START RUN (R75, R76, R78, O8): a request taken whose first frame it may be, the station in PREPARE, and the transmit slot. -/

namespace Sys2Proof.Machine

/-! ## A request that may be the first frame of a bid window -/

/-- A REQUEST frame at a station that takes frames, and the bid window outcome where it is the first frame (R42, R92, R115). -/
theorem request_taken (h : Header) (code : Nat) (act : Form → State → State) {s : State} (ht : takesFrames s = true) :
    request h code act s =
      (let t := act (formOf h { s with bus := heard s }) { s with bus := heard s }
       if isCandidate s then firstFrame 8 t else t) := by
  simp only [takesFrames, listening, Bool.and_eq_true, Bool.not_eq_true'] at ht
  obtain ⟨⟨hi, hh⟩, hl⟩ := ht
  have hu : setWindow (windowAfterClean s.bus.window) (setSlots false false (notSent s)) = { s with bus := heard s } := by
    rw [notSent_only]; rfl
  unfold request
  rw [frameEnd_takes _ _ s hi hh, isOwn_foreign _ s hl rfl]
  simp only [Bool.false_eq_true, if_false, vetoOf, hu]
  rfl

/-- In PREPARE no phase is under way for a first frame to end (R92, R115). -/
theorem firstFrame_prepare (k : Nat) {s : State} (h : s.run.state = .prepare) : firstFrame k s = s := by
  simp [firstFrame, phaseEnd, h]

/-- An addressed request taken stands so after the frame end (R168). -/
theorem formOf_addressed {h : Header} {s : State} (ht : takesAddressed h s = true) :
    h.dst ≠ Config.generalCall ∧ formOf h { s with bus := heard s } = .addressed := by
  simp only [takesAddressed, takesFrames, Bool.and_eq_true, bne_iff_ne, beq_iff_eq, Bool.not_eq_true', answerPending,
    Bool.or_eq_false_iff] at ht
  obtain ⟨⟨⟨⟨⟨⟨-, hl⟩, hc⟩, hd⟩, ha⟩, hs⟩, h9, h10⟩ := ht
  have e9 := notSent_hasPending s hl 9 h9 (heard s) rfl
  have e10 := notSent_hasPending s hl 10 h10 (heard s) rfl
  have haddr : addr { s with bus := heard s } = addr s := rfl
  have hsil : (heard s).silent = s.bus.silent := rfl
  exact ⟨hd, by simp [formOf, answerPending, hc, hd, haddr, hsil, ha, hs, e9, e10]⟩

/-- A general call taken stands so after the frame end (R168). -/
theorem formOf_general {h : Header} {s : State} (ht : takesGeneral h s = true) :
    h.dst = Config.generalCall ∧ formOf h { s with bus := heard s } = .general := by
  simp only [takesGeneral, Bool.and_eq_true, beq_iff_eq] at ht
  obtain ⟨⟨-, hc⟩, hd⟩ := ht
  exact ⟨hd, by simp [formOf, hc, hd]⟩

/-- A station that takes a request of either form takes frames. -/
theorem takesFrames_of_taken {h : Header} {s : State} (ht : takesAddressed h s = true ∨ takesGeneral h s = true) :
    takesFrames s = true := by
  simp only [takesAddressed, takesGeneral, Bool.and_eq_true] at ht
  rcases ht with ⟨⟨⟨⟨⟨ht, -⟩, -⟩, -⟩, -⟩, -⟩ | ⟨⟨ht, -⟩, -⟩ <;> exact ht

/-! ## The station in PREPARE -/

/-- The PREPARE work as one change of the state (R78): run fields and buffer cleared, blocks detected, the Net Map built, the
calibration commanded. -/
theorem prepareWork_eq (ids : IdCodes) {s : State} (hh : s.bus.held = false) (hs : s.bus.silent = false) :
    prepareWork ids s = { s with
      bus := { s.bus with slot := detectedSlot ids s }
      points := (mapPoints (fun _ p => clearRunFields p) s).points
      blocks := detectedBlocks ids s
      sampler := { job := .calibrating, offset := s.sampler.offset, buffer := List.replicate 256 none, ref := none }
      netMap := builtNetMap (prepareWork ids s)
      decoder := { s.decoder with status := detectedStatus ids s } } := by
  let c := setNetMap [] (emptyBuffer (mapPoints (fun _ p => clearRunFields p) s))
  have hw : prepareWork ids s = (let d := detect ids c
      setSampler { d.sampler with job := .calibrating } (setNetMap (builtNetMap d) d)) := rfl
  have hm : builtNetMap (prepareWork ids s) = builtNetMap (detect ids c) := rfl
  rw [hm, hw, detect_eq ids (s := c) hh hs]
  rfl

/-- The station after the frame end of a START RUN taken, its REPLY queued where it was addressed (R76, R168). -/
def startHeard (h : Header) (number : Half) (s : State) : State :=
  { s with bus := if h.dst = Config.generalCall then heard s else answered h (replyTo h 8 (halfBytes number)) s }

/-- The station in PREPARE after a START RUN accepted (R76, R78). -/
def started (h : Header) (number : Half) (ids : IdCodes) (s : State) : State :=
  prepareWork ids (acceptRun number.toNat (startHeard h number s))

/-- The frame end of a START RUN changes the slot and what the frame itself shows on the bus. -/
theorem startHeard_bus (h : Header) (number : Half) (s : State) :
    ∃ slot, (startHeard h number s).bus = busAfter s slot := by
  unfold startHeard
  split <;> exact ⟨_, rfl⟩

theorem startHeard_held (h : Header) (number : Half) (s : State) : (startHeard h number s).bus.held = s.bus.held := by
  obtain ⟨slot, hb⟩ := startHeard_bus h number s
  rw [hb]
  rfl

/-- What acceptance leaves for the detection to find: a station neither in HELD nor SILENT, in PREPARE, with the slot as acceptance
leaves it. -/
theorem accepted_bus (h : Header) (number : Half) {s : State} (hh : s.bus.held = false) (ho : s.lines.holdOut = false) :
    let a := acceptRun number.toNat (startHeard h number s)
    a.bus.held = false ∧ a.bus.silent = false ∧ a.bus.slot = startedSlot (startHeard h number s) ∧ a.straps = s.straps ∧
      a.blocks = s.blocks ∧ a.decoder.mask = s.decoder.mask ∧ a.decoder.status = s.decoder.status ∧
      ∀ x, statusNotice a x = ownFrame s 28 (.notice (x.setWidth 16) 1) := by
  have hv := (startHeard_held h number s).trans hh
  intro a
  have ha : a = _ := acceptRun_eq number.toNat hv ho
  rw [ha]
  exact ⟨hv, rfl, rfl, rfl, rfl, rfl, rfl, fun _ => rfl⟩

/-- The slot of the station in PREPARE is that of its detection (R12, R78). -/
theorem started_slot (h : Header) (number : Half) (ids : IdCodes) {s : State} (hh : s.bus.held = false)
    (ho : s.lines.holdOut = false) : (started h number ids s).bus.slot =
      detectedSlot ids (acceptRun number.toNat (startHeard h number s)) := by
  obtain ⟨hah, has, -⟩ := accepted_bus h number hh ho
  rw [started, prepareWork_eq ids hah has]

/-- The station in PREPARE as one change of the state (R76, R78). -/
theorem started_eq (h : Header) (number : Half) (ids : IdCodes) {s : State} (hh : s.bus.held = false)
    (ho : s.lines.holdOut = false) : started h number ids s = { s with
      bus := { (startHeard h number s).bus with
        slot := (started h number ids s).bus.slot, silent := false, errors := 0 }
      lines := { s.lines with holdOut := true, holdSeen := true }
      points := (mapPoints (fun _ p => clearRunFields p) s).points
      blocks := detectedBlocks ids s
      matrix := { s.matrix with override := .none }
      sampler := { job := .calibrating, offset := s.sampler.offset, buffer := List.replicate 256 none, ref := none }
      run := startedRun number.toNat s
      netMap := builtNetMap (started h number ids s)
      hv := { s.hv with elected := false }
      defects := Defects.empty
      print := cutPrint s.print
      decoder := { s.decoder with
        ctx := dumpCancelled s.decoder.ctx, status := detectedStatus ids s, summary := some 0 } } := by
  have hv := (startHeard_held h number s).trans hh
  obtain ⟨hah, has, -⟩ := accepted_bus h number hh ho
  have hw := prepareWork_eq ids hah has
  have hslot := started_slot h number ids hh ho
  rw [← started] at hw
  refine hw.trans ?_
  rw [hslot, acceptRun_eq number.toNat hv ho]
  rfl

/-! ## The transmit slot -/

/-- An entry that START RUN neither withdraws nor replaces: no service of a delayed request, no REPLY where one is queued, no DATA
or END after a DUMP DEFECTS, no NOTICE where the detection queues one, no LINE after a cut pass. -/
def keptByStart (h : Header) (ids : IdCodes) (s : State) (e : TxEntry) : Bool :=
  !servesRequest e && (entryKind e != 9 || h.dst == Config.generalCall)
    && (entryKind e != 11 && entryKind e != 12 || s.decoder.ctx.all fun c => c.kind != .dumpDefects)
    && (entryKind e != 13 || !s.straps.autodet || foundBits s.blocks.allowed ids &&& ~~~ s.decoder.mask == 0)
    && (entryKind e != 15 || !s.print.pass)

theorem keptByStart_iff {h : Header} {ids : IdCodes} {s : State} {e : TxEntry} : keptByStart h ids s e = true ↔
    servesRequest e = false ∧ (entryKind e ≠ 9 ∨ h.dst = Config.generalCall) ∧
      ((entryKind e ≠ 11 ∧ entryKind e ≠ 12) ∨ dumping s = false) ∧
      (entryKind e ≠ 13 ∨ s.straps.autodet = false ∨ foundBits s.blocks.allowed ids &&& ~~~ s.decoder.mask = 0) ∧
      (entryKind e ≠ 15 ∨ s.print.pass = false) := by
  have hdump : (s.decoder.ctx.all fun c => c.kind != .dumpDefects) = true ↔ dumping s = false := by
    unfold dumping
    cases s.decoder.ctx <;> simp
  simp only [keptByStart, Bool.and_eq_true, Bool.or_eq_true, bne_iff_ne, beq_iff_eq, Bool.not_eq_true', hdump, and_assoc,
    or_assoc]

section
variable {h : Header} {number : Half} {ids : IdCodes} {s : State}

/-- The entries after the frame end of a START RUN: where it was addressed its REPLY, which replaces none pending (R43, R168). -/
theorem mem_startHeard (e : TxEntry) : e ∈ (startHeard h number s).bus.slot ↔
    (h.dst ≠ Config.generalCall ∧ e = freshEntry (ownFrame s h.src (replyTo h 8 (halfBytes number)))) ∨
      (e ∈ (heard s).slot ∧ (h.dst ≠ Config.generalCall → entryKind e ≠ 9)) := by
  unfold startHeard
  by_cases hd : h.dst = Config.generalCall
  · simp [hd]
  · rw [if_neg hd]
    refine (mem_putFrame (noneBegun_heard s) (ownFrame s h.src (replyTo h 8 (halfBytes number))) e).trans ?_
    simp only [hd, ne_eq, not_false_eq_true, true_and, true_implies]
    rfl

theorem startHeard_noneBegun : noneBegun (startHeard h number s).bus.slot := fun e he => by
  rcases (mem_startHeard e).1 he with ⟨-, rfl⟩ | ⟨he, -⟩
  · rfl
  · exact noneBegun_heard s e he

theorem startedSlot_noneBegun : noneBegun (startedSlot (startHeard h number s)) := fun e he => by
  rcases ((mem_startedSlot startHeard_noneBegun e).1 he).2 with ⟨c, -, -, rfl⟩ | ⟨he, -⟩
  · rfl
  · exact startHeard_noneBegun e he

variable (hh : s.bus.held = false) (ho : s.lines.holdOut = false)
include hh ho

/-- No frame of the slot has begun in PREPARE. -/
theorem started_noneBegun : noneBegun (started h number ids s).bus.slot := by
  obtain ⟨-, -, hslot, -⟩ := accepted_bus h number hh ho
  rw [started_slot h number ids hh ho]
  exact detectedSlot_noneBegun ids (hslot ▸ startedSlot_noneBegun)

/-- But for the NOTICE the slot is as acceptance leaves it, and wholly so where the detection queues none. -/
theorem mem_started {e : TxEntry} (he : entryKind e ≠ 13 ∨ s.straps.autodet = false ∨
    foundBits s.blocks.allowed ids &&& ~~~ s.decoder.mask = 0) :
    e ∈ (started h number ids s).bus.slot ↔ e ∈ startedSlot (startHeard h number s) := by
  obtain ⟨-, -, hslot, hstraps, hblocks, hmask, -⟩ := accepted_bus h number hh ho
  rw [started_slot h number ids hh ho, ← hslot]
  rcases he with he | hq
  · exact detectedSlot_sameBut ids _ e he
  · rw [detectedSlot_quiet (by rw [hstraps, hblocks, hmask]; exact hq)]

/-- The NOTICE of the detection waits in PREPARE (R13, R179). -/
theorem started_notice (ha : s.straps.autodet = true) (hm : foundBits s.blocks.allowed ids &&& ~~~ s.decoder.mask ≠ 0) :
    let found := foundBits s.blocks.allowed ids
    ∃ x ∈ [found &&& 16, found &&& 32, found], found &&& ~~~ s.decoder.mask &&& ~~~ x = 0 ∧
      waits (ownFrame s 28 (.notice ((s.decoder.status ||| x).setWidth 16) 1)) (started h number ids s) := by
  obtain ⟨-, -, -, hstraps, hblocks, hmask, hstatus, hnotice⟩ := accepted_bus h number hh ho
  intro found
  obtain ⟨x, hx, hall, slot, hput⟩ := detectedSlot_notice (s := acceptRun number.toNat (startHeard h number s)) (ids := ids)
    (by rw [hstraps]; exact ha) (by rw [hblocks, hmask]; exact hm)
  rw [hblocks] at hx hall
  rw [hmask] at hall
  rw [hnotice, hstatus, ← started_slot h number ids hh ho] at hput
  refine ⟨x, hx, hall, ?_⟩
  obtain ⟨e, he, -, ⟨hb, hf⟩ | ⟨hb, -⟩⟩ := putFrame_stands
    (ownFrame s 28 (.notice ((s.decoder.status ||| x).setWidth 16) 1)) slot
  · exact ⟨e, hput ▸ he, hf, hb⟩
  · exact absurd (hb.symm.trans (started_noneBegun hh ho e (hput ▸ he))) Bool.noConfusion

/-- The REPLY of an addressed START RUN waits in PREPARE (R168). -/
theorem started_reply (hd : h.dst ≠ Config.generalCall) :
    waits (ownFrame s h.src (replyTo h 8 (halfBytes number))) (started h number ids s) := by
  let x := freshEntry (ownFrame s h.src (replyTo h 8 (halfBytes number)))
  have hx : entryKind x = 9 := rfl
  have hin : x ∈ startedSlot (startHeard h number s) := (mem_startedSlot startHeard_noneBegun x).2
    ⟨rfl, .inr ⟨(mem_startHeard x).2 (.inl ⟨hd, rfl⟩), fun _ => by rw [hx]; decide, fun _ => by rw [hx]; decide⟩⟩
  exact ⟨x, (mem_started hh ho (.inl (by rw [hx]; decide))).2 hin, rfl, rfl⟩

/-- A DUMP DEFECTS in progress leaves its END, cancelled, waiting and no DATA (R176). -/
theorem started_dumpEnd {c : Context} (hc : c ∈ s.decoder.ctx) (hk : c.kind = .dumpDefects) :
    waits (ownFrame s c.requester (.answerEnd (byte (delayedCode .dumpDefects)) c.tag (half c.sent) 1))
      (started h number ids s) ∧ ∀ e ∈ (started h number ids s).bus.slot, entryKind e ≠ 11 := by
  let x := freshEntry (cancelledEnd (startHeard h number s) c)
  have hx : entryKind x = 12 := rfl
  have hin : x ∈ startedSlot (startHeard h number s) :=
    (mem_startedSlot startHeard_noneBegun x).2 ⟨rfl, .inl ⟨c, hc, hk, rfl⟩⟩
  refine ⟨⟨x, (mem_started hh ho (.inl (by rw [hx]; decide))).2 hin, by rw [← hk]; rfl, rfl⟩, fun e he h11 => ?_⟩
  rw [mem_started hh ho (.inl (by rw [h11]; decide)), mem_startedSlot startHeard_noneBegun] at he
  rcases he.2 with ⟨_, -, -, rfl⟩ | ⟨-, -, hd⟩
  · cases h11
  · have hdump : dumping (startHeard h number s) = true := Option.any_eq_true _ _ |>.2 ⟨c, hc, by simp [hk]⟩
    exact (hd hdump).1 h11

/-- A cut pass leaves no LINE (R147, R163). -/
theorem started_noLine (hp : s.print.pass = true) : ∀ e ∈ (started h number ids s).bus.slot, entryKind e ≠ 15 := by
  intro e he h15
  rw [mem_started hh ho (.inl (by rw [h15]; decide)), mem_startedSlot startHeard_noneBegun] at he
  rcases he.2 with ⟨_, -, -, rfl⟩ | ⟨-, hcut, -⟩
  · cases h15
  · exact hcut hp h15

/-- The service of a delayed request pauses, HOLD being asserted (R174). -/
theorem started_paused : ∀ e ∈ (started h number ids s).bus.slot, servesRequest e = false := by
  refine fun e he => Bool.eq_false_iff.2 fun hs => ?_
  have h13 : entryKind e ≠ 13 := by
    rcases servesRequest_kind hs with hk | hk <;> rw [hk] <;> decide
  rw [mem_started hh ho (.inl h13), mem_startedSlot startHeard_noneBegun] at he
  exact Bool.noConfusion (hs.symm.trans he.1)

/-- The entries that START RUN neither withdraws nor replaces stay as the frame end leaves them. -/
theorem mem_started_kept {e : TxEntry} (hkept : keptByStart h ids s e = true) :
    e ∈ (started h number ids s).bus.slot ↔ e ∈ (heard s).slot := by
  obtain ⟨hs, h9, hd, h13, h15⟩ := keptByStart_iff.1 hkept
  rw [mem_started hh ho h13, mem_startedSlot startHeard_noneBegun, mem_startHeard]
  have hdump : dumping (startHeard h number s) = dumping s := rfl
  have hpass : (startHeard h number s).print.pass = s.print.pass := rfl
  have hctx : (startHeard h number s).decoder.ctx = s.decoder.ctx := rfl
  have hend : ¬ ∃ c ∈ s.decoder.ctx, c.kind = .dumpDefects ∧ e = freshEntry (cancelledEnd (startHeard h number s) c) := by
    rintro ⟨c, hc, hk, rfl⟩
    have hon : dumping s = true := Option.any_eq_true _ _ |>.2 ⟨c, hc, by simp [hk]⟩
    rcases hd with ⟨-, h12⟩ | hoff
    · exact h12 rfl
    · exact absurd (hon.symm.trans hoff) Bool.noConfusion
  have hreply : ¬ (h.dst ≠ Config.generalCall ∧ e = freshEntry (ownFrame s h.src (replyTo h 8 (halfBytes number)))) := by
    rintro ⟨hne, rfl⟩
    exact h9.elim (fun k => k rfl) hne
  rw [hdump, hpass, hctx]
  constructor
  · rintro ⟨-, k | ⟨k | ⟨he, -⟩, -⟩⟩
    · exact absurd k hend
    · exact absurd k hreply
    · exact he
  · intro he
    refine ⟨hs, .inr ⟨.inr ⟨he, fun hne => h9.resolve_right hne⟩, fun hp => ?_, fun hon => ?_⟩⟩
    · exact h15.resolve_right (by simp [hp])
    · exact hd.resolve_right (by simp [hon])

end

/-! ## The statement -/

/-- START RUN taken in either form and accepted (R75, R76, R78). -/
theorem exec_startRun_accepted {h : Header} {number : Half} {s : State} (ids : IdCodes)
    (ht : takesAddressed h s = true ∨ takesGeneral h s = true) (ho : s.lines.holdOut = false) (ha : runActive s = false)
    (he : s.lines.estop = false) (hn : number ≠ 0) : exec (.startRun h number ids) s = .next (started h number ids s) := by
  have hf := takesFrames_of_taken ht
  have hh : s.bus.held = false := by
    simp only [takesFrames, listening, Bool.and_eq_true, Bool.not_eq_true'] at hf
    exact hf.1.2
  have hrefuse : startRefusal number.toNat { s with bus := heard s } = none := by
    have hact : runActive { s with bus := heard s } = false := ha
    have hzero : number.toNat ≠ 0 := fun k => hn (BitVec.eq_of_toNat_eq k)
    simp [startRefusal, hact, he, hzero]
  have hprep : (started h number ids s).run.state = .prepare := by rw [started_eq h number ids hh ho]; rfl
  have hfirst : ∀ t, t = started h number ids s → (if isCandidate s then firstFrame 8 t else t) = started h number ids s :=
    fun t k => by rw [k, firstFrame_prepare 8 hprep, ite_self]
  refine congrArg Host.Outcome.next ((request_taken h 8 _ hf).trans ?_)
  rcases ht with ht | ht
  · obtain ⟨hd, hform⟩ := formOf_addressed ht
    simp only [hform, hrefuse]
    refine hfirst _ ?_
    rw [started, startHeard, if_neg hd]
    exact congrArg (fun u => prepareWork ids (acceptRun number.toNat u)) (queue_answers ht _ rfl rfl)
  · obtain ⟨hd, hform⟩ := formOf_general ht
    simp only [hform, hrefuse]
    refine hfirst _ ?_
    rw [started, startHeard, if_pos hd]

/-- The refusal code of a START RUN that is not accepted, by the first check that fails (R75, R34). -/
theorem startRefusal_eq {number : Half} {s : State} (h : runActive s = true ∨ s.lines.estop = true ∨ number = 0) :
    startRefusal number.toNat s =
      some (if runActive s = true then .runActive else if s.lines.estop = true then .estop else .range) := by
  unfold startRefusal
  split
  · rfl
  split
  · rfl
  rename_i ha he
  have hn : number = 0 := (h.resolve_left ha).resolve_left he
  exact if_pos (by rw [hn]; rfl)

/-- START RUN taken in either form and ignored (R75): START_IGNORED, and the REFUSED where it was addressed. -/
theorem exec_startRun_ignored {h : Header} {number : Half} {s : State} (ids : IdCodes) (hw : noFirstFrame s = true)
    (ht : takesAddressed h s = true ∨ takesGeneral h s = true)
    (hn : runActive s = true ∨ s.lines.estop = true ∨ number = 0) : exec (.startRun h number ids) s = .next
      (let u := raise .startIgnored { s with bus := heard s }
       if h.dst = Config.generalCall then u
       else withFrame h.src (refusal h 8
         (if runActive s = true then .runActive else if s.lines.estop = true then .estop else .range) 0) u) := by
  have hrefuse : startRefusal number.toNat { s with bus := heard s } = _ := startRefusal_eq hn
  rcases ht with ht | ht
  · obtain ⟨hd, -⟩ := formOf_addressed ht
    refine congrArg Host.Outcome.next ((request_addressed h 8 _ s ht hw).trans ?_)
    simp only [hrefuse, if_neg hd]
    have hfree : s.bus.held = false ∧ s.bus.silent = false := by
      simp only [takesAddressed, takesFrames, listening, Bool.and_eq_true, Bool.not_eq_true'] at ht
      exact ⟨ht.1.1.1.1.1.1.2, ht.1.2⟩
    have hq : ((raise .startIgnored { s with bus := heard s }).bus.held ||
        (raise .startIgnored { s with bus := heard s }).bus.silent) = false := by
      simp [heard, busAfter, hfree]
    exact queue_puts _ _ _ hq
  · obtain ⟨hd, -⟩ := formOf_general ht
    refine congrArg Host.Outcome.next ((request_general h 8 _ s ht hw).trans ?_)
    simp only [hrefuse, if_pos hd]

/-- Settles O8: accepted, the station is `started`, one change of the state; ignored, it sets START_IGNORED and may be refused. -/
theorem startRunIsJudged : Obligations.StartRunIsJudged := by
  refine ⟨fun h number ids s ht hr hl ha he hn => ?_, fun h number ids s hw ht hn => ?_⟩
  · have ho : s.lines.holdOut = false := Bool.eq_false_iff.2 fun k =>
      Bool.noConfusion (ha.symm.trans (((linesLawful_iff s).1 hl).1 k).2)
    have hf := takesFrames_of_taken ht
    simp only [takesFrames, listening, Bool.and_eq_true, Bool.not_eq_true'] at hf
    obtain ⟨⟨hi, hh⟩, -⟩ := hf
    have heq := started_eq h number ids hh ho
    obtain ⟨slot, hbus⟩ := startHeard_bus h number s
    rw [hbus] at heq
    have field : ∀ {α : Type} (f : State → α), f (started h number ids s) = f _ := fun f => congrArg f heq
    have hp : (started h number ids s).points = (mapPoints (fun _ p => clearRunFields p) s).points :=
      field State.points
    have hpoints : eachPoint s (started h number ids s) fun _ p => { p with driven := false, leader := none, last := none } :=
      ⟨(congrArg List.length hp).trans (mapPoints_length _ s), fun j hj =>
        (pointAt_congr hp j).trans (pointAt_mapPoints _ s j hj)⟩
    have hmap : (started h number ids s).netMap = builtNetMap (started h number ids s) := field State.netMap
    refine ⟨_, exec_startRun_accepted ids ht ho ha he hn, field State.run, field State.lines,
      field State.defects, field (·.bus.silent), field (·.bus.errors),
      (field (·.bus.held)).trans hh, (field (·.bus.integrated)).trans hi, field (·.bus.resetCount),
      field State.matrix, hpoints, field State.sampler, field State.blocks, hmap, netMapBuilt_of_eq hmap,
      field (·.decoder.summary), field (·.decoder.mask), field (·.decoder.status),
      fun hauto hm => started_notice hh ho hauto hm, fun c hc hk => started_dumpEnd hh ho hc hk,
      field (·.decoder.ctx), field State.print, fun e he hp => started_noLine hh ho hp e he,
      fun hd => started_reply hh ho hd,
      ⟨fun e he hk => (mem_started_kept hh ho hk).2 he, fun e he hk => (mem_started_kept hh ho hk).1 he, started_paused hh ho⟩,
      field State.hv, field State.params, field State.straps, field State.pending⟩
  · refine ⟨_, exec_startRun_ignored ids hw ht hn, rfl, ?_⟩
    have hd : (raise .startIgnored { s with bus := heard s }).decoder =
        { s.decoder with status := s.decoder.status ||| 128 } := by rw [raise_only]; rfl
    by_cases hg : h.dst = Config.generalCall
    · rw [if_pos hg]; exact hd
    · rw [if_neg hg]; exact hd

end Sys2Proof.Machine
end

section
/-! CONTINUE and SET WATCH (R97, R100, R171, O10), and what one reading means (R19, R20, R105, R106, O34). -/

namespace Sys2Proof.Machine

/-! ## CONTINUE and SET WATCH -/

/-- An accepted CONTINUE as one change of the state (R100). -/
theorem resumeHalt_eq (s : State) : resumeHalt s = { s with
    lines := { s.lines with holdOut := false }, run := { s.run with halt := false, sweepStage := .driveReleased } } := rfl

/-- CONTINUE addressed to a station with the halt flag set: its watch gp answered, the halt ended (R100). -/
theorem exec_continueRun_addressed {h : Header} {s : State} (ht : takesAddressed h s = true) (hw : noFirstFrame s = true)
    (hh : s.run.halt = true) : exec (.continueRun h) s = .next
      (reply h 9 (halfBytes (half (haltedGp s))) (resumeHalt { s with bus := heard s })) := by
  refine congrArg Host.Outcome.next ((request_addressed h 9 _ s ht hw).trans ?_)
  simp only [hh]
  rfl

/-- CONTINUE addressed to a station with the halt flag clear: refused (R100). -/
theorem exec_continueRun_refused {h : Header} {s : State} (ht : takesAddressed h s = true) (hw : noFirstFrame s = true)
    (hh : s.run.halt = false) : exec (.continueRun h) s = .next (refuse h 9 .noHalt 0 { s with bus := heard s }) := by
  refine congrArg Host.Outcome.next ((request_addressed h 9 _ s ht hw).trans ?_)
  simp only [hh]

/-- CONTINUE as a general call: the halt ended where there is one (R100). -/
theorem exec_continueRun_general {h : Header} {s : State} (ht : takesGeneral h s = true) (hw : noFirstFrame s = true) :
    exec (.continueRun h) s = .next
      (if s.run.halt = true then resumeHalt { s with bus := heard s } else { s with bus := heard s }) := by
  refine congrArg Host.Outcome.next ((request_general h 9 _ s ht hw).trans ?_)
  cases s.run.halt <;> rfl

/-- The slot that a SET WATCH stores, by the cases in which it is absent (R171). -/
theorem watchOf_eq (w : WatchArg) : watchOf w =
    if w.flags.getLsbD 0 = false ∨ 6143 < w.gp.toNat then none
    else some { gp := w.gp.toNat, halt := w.flags.getLsbD 1 } := by
  unfold watchOf
  by_cases hp : w.flags.getLsbD 0 = true ∧ w.gp.toNat ≤ Config.maxGp
  · obtain ⟨hf, hg⟩ := hp
    rw [if_pos ⟨hf, hg⟩, if_neg]
    rintro (k | k)
    · exact Bool.noConfusion (hf.symm.trans k)
    · exact absurd k (Nat.not_lt.2 hg)
  · rw [if_neg hp, if_pos]
    by_cases hf : w.flags.getLsbD 0 = true
    · exact .inr (Nat.not_le.1 fun hg => hp ⟨hf, hg⟩)
    · exact .inl (by simpa using hf)

/-- Settles O10: the form of the call and the halt flag decide CONTINUE; SET WATCH stores `watchOf` of both arguments. -/
theorem continueAndSetWatch : Obligations.ContinueAndSetWatch := by
  refine ⟨fun h s hw => ⟨fun ht hh _ => ?_, fun ht hh => ?_, fun ht => ?_⟩, fun h w1 w2 s hw ht => ?_⟩
  · rw [exec_continueRun_addressed ht hw hh]
    exact congrArg Host.Outcome.next (queue_answers ht _ rfl rfl)
  · rw [exec_continueRun_refused ht hw hh]
    exact congrArg Host.Outcome.next (refuse_answers ht 9 .noHalt 0)
  · rw [exec_continueRun_general ht hw]
    rfl
  · exact ⟨_, congrArg Host.Outcome.next (request_general h 10 _ s ht hw), rfl, watchOf_eq w1, watchOf_eq w2⟩

/-! ## One reading -/

/-- Whether the drive is the leader drive of the net's entry (R105). -/
theorem isLeaderDrive_iff (s : State) (d : Drive) :
    isLeaderDrive s d = true ↔ ∃ e ∈ netEntry s d.net, e.leader = some d.gp := by
  unfold isLeaderDrive
  cases netEntry s d.net <;> simp

/-- A bar placed by a reading, row by row of R19: SHORTED stands above the reason held, LEAKAGE below SHORTED alone. -/
theorem strongerReason_eq (held : Option BarReason) :
    strongerReason held .shorted = .shorted ∧
      strongerReason held .leakage = if held = some .shorted then .shorted else .leakage := by
  rcases held with _ | _ | _ | _ <;> decide

/-- The offer that a reading of a point of another net makes: of the pair of nets in ascending order (R106). -/
def otherNetOffer (d : Drive) (n : Nat) (c : Class) (r : Nat) : Option Defect :=
  let lo := if n < d.net then n else d.net
  let hi := if n < d.net then d.net else n
  match c with
  | .connected => some (.short lo hi)
  | .marginal => some (.leakage lo hi r)
  | .isolated => none

/-- What a reading of a point of another net makes of a Net Map entry (R19, R106). -/
def barredBy (n : Nat) (c : Class) (e : NetEntry) : NetEntry :=
  if e.net = n ∧ c ≠ .isolated then
    { e with
      state := .barred
      reason := if c = .connected ∨ e.reason = some .shorted then some .shorted else some .leakage }
  else e

/-- A pair of nets in ascending order, by which is the lower (R106). -/
theorem min_max_nets (n m : Nat) : min n m = (if n < m then n else m) ∧ max n m = if n < m then m else n := by
  split <;> omega

/-- The effect of a reading of a point of another net (R106): its offer, then the bar. -/
theorem readOtherNet_eq (d : Drive) (n : Nat) (c : Class) (r : Nat) (s : State) : readOtherNet d n c r s =
    let u := ((otherNetOffer d n c r).map fun k => offer k s).getD s
    { u with netMap := s.netMap.map (barredBy n c) } := by
  obtain ⟨hlo, hhi⟩ := min_max_nets n d.net
  cases c with
  | isolated =>
      have hbar : barredBy n .isolated = id := by
        funext e
        simp [barredBy]
      simp [readOtherNet, otherNetOffer, hbar]
  | connected =>
      have hbar : (fun e => if e.net = n then barNet .shorted e else e) = barredBy n .connected := by
        funext e
        simp [barredBy, barNet, (strongerReason_eq _).1]
      simp [readOtherNet, otherNetOffer, hlo, hhi, updateNet, setNetMap, hbar]
  | marginal =>
      have hbar : (fun e => if e.net = n then barNet .leakage e else e) = barredBy n .marginal := by
        funext e
        simp only [barredBy, barNet, (strongerReason_eq _).2]
        split_ifs <;> simp_all
      simp [readOtherNet, otherNetOffer, hlo, hhi, updateNet, setNetMap, hbar]

/-- Settles O34: the drive net by the point's leader and the class, another net by `readOtherNet_eq`. -/
theorem readingMeansWhatTheTablesSay : Obligations.ReadingMeansWhatTheTablesSay := by
  refine fun d i c x s _ => ⟨fun _ => ?_, fun n _ => ?_⟩
  · unfold readSameNet
    cases hl : (pointAt s i).leader with
    | some g => simp
    | none =>
        refine Eq.trans ?_ (if_neg (by simp)).symm
        cases c with
        | connected => rfl
        | marginal => rfl
        | isolated => exact ite_congr (propext (isLeaderDrive_iff s d)) (fun _ => rfl) fun _ => rfl
  · rw [readOtherNet_eq]
    cases c <;> exact ⟨rfl, by simp [otherNetOffer], rfl⟩

end Sys2Proof.Machine
end

section
/-! SUPPORT. A batch in a stage that may await its report (R27, R28): the station with the points moved and the complete batches
gone, then the one report that the run awaits. -/

namespace Sys2Proof.Machine

/-- The station with a batch requested and the complete batches gone, before any report (R27, R28). -/
def requested (why : Purpose) (targets : List (Nat × Switch)) (s : State) : State :=
  (takeComplete (requestBatch why targets s)).2

/-- A batch requested moves points and batches alone. -/
theorem requested_eq (why : Purpose) (targets : List (Nat × Switch)) (s : State) : requested why targets s = { s with
    points := (batch why targets s).points
    matrix := { s.matrix with batches := (batch why targets s).matrix.batches } } := by
  have hp : (batch why targets s).points = (requestBatch why targets s).points := by simp [batch]
  rw [hp, batch_batches, requested, takeComplete, requestBatch_only]
  rfl

/-- What the laws of a run read, a batch requested leaves as it was. -/
theorem requested_sound {s : State} (h : RunSound s) (why : Purpose) (targets : List (Nat × Switch)) :
    RunSound (requested why targets s) := by
  rw [requested_eq]
  exact h.congr ⟨rfl, rfl, rfl, rfl, rfl, rfl, rfl, rfl, fun _ => id⟩

/-- The batches complete at the request of one (R28). -/
def completeAt (why : Purpose) (targets : List (Nat × Switch)) (s : State) : List Purpose :=
  (takeComplete (requestBatch why targets s)).1

/-- A batch in a run that awaits a report: that report, where its batch is complete (R28). -/
theorem batch_awaited (why : Purpose) (targets : List (Nat × Switch)) {s : State} (h : RunSound s) {q : Purpose}
    (hq : awaited s = some q) : batch why targets s =
      if q ∈ completeAt why targets s then report (requested why targets s) q else requested why targets s :=
  reports_awaited (requested_sound h why targets) (by rw [requested_eq]; exact hq) _

/-- A batch in a run that awaits no report moves points and batches alone (R28). -/
theorem batch_unheard (why : Purpose) (targets : List (Nat × Switch)) {s : State} (h : RunSound s)
    (hn : awaited s = none) : batch why targets s = requested why targets s :=
  reports_none (requested_sound h why targets) (by rw [requested_eq]; exact hn) _

/-- One point requested in a batch, its report awaited or not (R27, R32). -/
theorem batch_one_requests (why : Purpose) (i : Nat) (x : Switch) (s : State) :
    eachPoint s (batch why [(i, x)] s) fun j p => if j = i then requestedTo s x p else p := by
  refine ⟨batch_length _ _ s, fun j hj => ?_⟩
  rw [pointAt_batch why _ hj, requestedPoint, targetOf_one]
  by_cases hi : j = i
  · simp only [if_pos hi]
    rfl
  · simp only [if_neg hi, ite_self]

/-- Every point requested in a batch, each to its own target, its report awaited or not (R27, R32). -/
theorem batch_by_requests (why : Purpose) (f : Nat → Point → Switch) (s : State) :
    eachPoint s (batch why (targetsBy s f) s) fun j p => requestedTo s (f j p) p := by
  refine ⟨batch_length _ _ s, fun j hj => ?_⟩
  rw [pointAt_batch why _ hj, requestedPoint, targetOf_targetsBy f hj]
  rfl

end Sys2Proof.Machine
end

section
/-! The barriers of the sweep (R3, R77, R101, R104, O22) and the DRIVE that opens its step (R93 to R95, O32). -/

namespace Sys2Proof.Machine

/-! ## HOLD seen released in the sweep -/

/-- The state on which the drive barrier's end works: the timer restarted, REF awaited (R77, R101). -/
def refAwaited (s : State) : State := { s with
  lines := { s.lines with holdSeen := false }
  run := { s.run with
    sweepStage := .awaitingRef, timer := { mode := .running, elapsed := 0, limit := s.params.stepLimit } } }

/-- A station that awaits REF is in a sound run, which awaits no report. -/
theorem refAwaited_sound {s : State} (h : RunSound s) (hg : s.run.sweepStage = .driveReleased) :
    RunSound (refAwaited s) ∧ awaited (refAwaited s) = none := by
  have hw : s.run.state = .sweep := h.sweep (by rw [hg]; decide)
  have h1 : RunSound (timerRestart .running { s with lines := { s.lines with holdSeen := false } }) :=
    (h.congr ⟨rfl, rfl, rfl, rfl, rfl, rfl, rfl, rfl, fun _ => id⟩).congr
      (timerRestart_run .running (show runActive { s with lines := { s.lines with holdSeen := false } } = true by
        simp [runActive, hw]))
  have h2 : RunSound (refAwaited s) := leaveStage_sound h1 hw (by simp [hg]) (by simp [hg]) .awaitingRef
  exact ⟨h2, awaited_sweep h2 (by simp [refAwaited])⟩

/-- The driver's point after its drive, marked in the records (R3, R101). -/
def driveMarked (gp : Nat) (s : State) : State :=
  updatePoint (localOf gp) (fun p => { p with driven := true, leader := some gp }) s

/-- The drive barrier's end (R101): at the driver the point marked and requested back to SENSE, and the REF queued. -/
theorem driveBarrierEnd_eq (s : State) : driveBarrierEnd s = (drivenHere s).elim (setSweepStage .awaitingRef s) fun gp =>
    let v := batch .toSense [(localOf gp, .sense)] (driveMarked gp (setSweepStage .awaitingRef s))
    (v.sampler.ref.map refPayload).elim v fun p => queue Config.generalCall p v := by
  have hd : drivenHere (setSweepStage .awaitingRef s) = drivenHere s := rfl
  unfold driveBarrierEnd
  simp only [hd]
  cases drivenHere s with
  | none => rfl
  | some gp =>
      simp only [Option.elim_some, driveMarked]
      cases (batch .toSense _ _).sampler.ref <;> rfl

/-- The records after the drive barrier's end at the driver: its point marked and requested to SENSE (R3, R101). -/
theorem driverBatch_each (gp : Nat) (s : State) :
    eachPoint s (batch .toSense [(localOf gp, .sense)] (driveMarked gp (refAwaited s))) fun j p =>
      if j = gp % 256 then requestedTo s .sense { p with driven := true, leader := some gp } else p := by
  obtain ⟨hlen, heach⟩ := batch_one_requests .toSense (localOf gp) .sense (driveMarked gp (refAwaited s))
  have hmark : (driveMarked gp (refAwaited s)).points.length = s.points.length := updatePoint_length _ _ _
  refine ⟨hlen.trans hmark, fun j hj => (heach j (hmark.symm ▸ hj)).trans ?_⟩
  have hpoint : pointAt (driveMarked gp (refAwaited s)) j = if localOf gp = j then
      { pointAt s j with driven := true, leader := some gp } else pointAt s j :=
    pointAt_updatePoint _ _ _ (refAwaited s) hj
  rw [hpoint]
  by_cases hi : j = gp % 256
  · subst hi
    simp only [localOf, Config.pointCount, if_true]
    exact requestedTo_congr (s := s) rfl rfl rfl rfl .sense _
  · simp only [localOf, Config.pointCount, hi, Ne.symm hi, if_false]

/-- The batch of the drive barrier's end moves points and batches alone: no stage awaits its report (R101). -/
theorem driverBatch_only {s : State} (h : RunSound s) (hg : s.run.sweepStage = .driveReleased) (gp : Nat) :
    let v := batch .toSense [(localOf gp, .sense)] (driveMarked gp (refAwaited s))
    v = { refAwaited s with points := v.points, matrix := { s.matrix with batches := v.matrix.batches } } := by
  obtain ⟨hsound, hnone⟩ := refAwaited_sound h hg
  have hb := batch_unheard .toSense [(localOf gp, .sense)] (s := driveMarked gp (refAwaited s))
    (hsound.congr ⟨rfl, rfl, rfl, rfl, rfl, rfl, rfl, rfl, fun _ => id⟩) hnone
  rw [requested_eq] at hb
  exact hb

/-- HOLD seen released at the end of the drive barrier (R77, R101). -/
theorem barrierEnd_driveReleased {s : State} (h : RunSound s) (hg : s.run.sweepStage = .driveReleased) (busy : Bool) :
    barrierEnd busy { s with lines := { s.lines with holdSeen := false } } =
      (drivenHere s).elim (refAwaited s) fun gp => setSlot (withBid (s.sampler.ref.map refPayload) s)
        (batch .toSense [(localOf gp, .sense)] (driveMarked gp (refAwaited s))) := by
  have hw : s.run.state = .sweep := h.sweep (by rw [hg]; decide)
  obtain ⟨hh, hs⟩ := h.activeFree (show runActive s = true by simp [runActive, hw])
  have hx : barrierEnd busy { s with lines := { s.lines with holdSeen := false } } =
      driveBarrierEnd (timerRestart .running { s with lines := { s.lines with holdSeen := false } }) := by
    simp only [barrierEnd, hw, hg]
  have hdriven : drivenHere (timerRestart .running { s with lines := { s.lines with holdSeen := false } }) =
      drivenHere s := rfl
  rw [hx, driveBarrierEnd_eq, hdriven]
  cases drivenHere s with
  | none => rfl
  | some gp =>
      obtain ⟨v, hv⟩ : ∃ v, v = batch .toSense [(localOf gp, .sense)] (driveMarked gp (refAwaited s)) := ⟨_, rfl⟩
      have hb : v = { refAwaited s with points := v.points, matrix := { s.matrix with batches := v.matrix.batches } } := by
        rw [hv]; exact driverBatch_only h hg gp
      have hbid := queueBid_eq (v.sampler.ref.map refPayload) (s := v) (by rw [hb]; exact hh) (by rw [hb]; exact hs)
      have hslot : withBid (v.sampler.ref.map refPayload) v = withBid (s.sampler.ref.map refPayload) s := by rw [hb]; rfl
      rw [hslot, hv] at hbid
      exact hbid

/-- Settles O22: the drive barrier ends at the driver with its batch, whose report no stage awaits; the step's completion is one
change of the state. -/
theorem sweepBarriersEnd : Obligations.SweepBarriersEnd := by
  intro busy s hseen hout hl hw
  have hr := (runLawful_iff s).1 hl
  rw [exec_holdSeenReleased busy hseen hout]
  refine ⟨fun hg => ⟨_, rfl, ?_⟩, fun hg => ?_⟩
  · rw [barrierEnd_driveReleased hr hg busy]
    cases drivenHere s with
    | none => exact ⟨rfl, rfl, rfl, rfl⟩
    | some gp => exact ⟨congrArg (setSlot _) (driverBatch_only hr hg gp), rfl, driverBatch_each gp s⟩
  · obtain ⟨hh, hs⟩ := hr.activeFree (show runActive s = true by simp [runActive, hw])
    have hx : barrierEnd busy { s with lines := { s.lines with holdSeen := false } } =
        stepCompletion busy { s with lines := { s.lines with holdSeen := false } } := by
      simp only [barrierEnd, hw, hg]
    rw [hx]
    exact congrArg Host.Outcome.next (bidDrive_eq (s := setSweepStage .bidding (markStep busy (timerStop
      { s with lines := { s.lines with holdSeen := false } }))) hh hs)

/-! ## The DRIVE that opens a step -/

/-- A clean frame end at a station that listens (R42): the frame's own effect, and the outcome of a bid window of which it is
the first frame (R92, R115). -/
theorem frameEnd_listening (f : Frame) (act : Bool → State → State) {s : State} (hl : listening s = true) :
    frameEnd f act s =
      (let t := act (isOwn f s) { s with bus := frameSeen f s }
       if isCandidate s then firstFrame (kindCode f.payload) t else t) := by
  simp only [listening, Bool.and_eq_true, Bool.not_eq_true'] at hl
  have hs : setWindow (windowAfterClean s.bus.window) (setSlots false (vetoOf s f.payload)
      (notSent (if isOwn f s then sentClean (kindCode f.payload) s else s))) = { s with bus := frameSeen f s } := by
    unfold frameSeen
    rw [notSent_only]
    cases isOwn f s <;> rfl
  rw [frameEnd_takes f act s hl.1 hl.2, hs]

/-- A withdrawal where none has begun removes the entries of its kind (R43). -/
theorem withdraw_noneBegun {k : Nat} {s : State} (h : noneBegun s.bus.slot) :
    withdraw k s = setSlot (s.bus.slot.filter fun e => entryKind e != k) s := by
  have hf : s.bus.slot.filterMap (fun e => if entryKind e = k then withdrawn e else some e) =
      s.bus.slot.filter fun e => entryKind e != k := by
    rw [← List.filterMap_eq_filter]
    refine List.filterMap_congr fun e he => ?_
    by_cases hk : entryKind e = k
    · simp [hk, withdrawn, h e he, Option.guard]
    · simp [hk, Option.guard]
  rw [withdraw, hf]

/-- The station in the settling stage of the step that a DRIVE opens (R93, R95), HOLD asserted. -/
def stepOpened (src gp net : Nat) (s : State) : State := { s with
  bus := { s.bus with slot := dropUnbegun servesRequest (s.bus.slot.filter fun e => entryKind e != 2) }
  lines := { s.lines with holdOut := true, holdSeen := true }
  run := { s.run with
    step := .point gp src, driveNet := net, sweepStage := .settling
    settleWait := some (1 + s.params.s), driveDone := false, timer := timerAtHold s } }

/-- A DRIVE that opens a step (R93, R94): the driver requests its point to DRIVE. -/
theorem openSweepStep_eq (src gp net : Nat) {s : State} (ha : runActive s = true) (ho : s.lines.holdOut = false)
    (hn : noneBegun s.bus.slot) : openSweepStep src gp net s =
      if src = addr s ∧ gp / 256 = addr s then batch .toDrive [(localOf gp, .drive)] (stepOpened src gp net s)
      else stepOpened src gp net s := by
  let w := setRun { s.run with
    step := .point gp src, driveNet := net, settleWait := some (Config.breakMs + s.params.s), driveDone := false } s
  have hopen : setSweepStage .settling (assertHold (withdraw 2 w)) = stepOpened src gp net s := by
    rw [withdraw_noneBegun (s := w) hn, assertHold_eq (s := setSlot _ w) ha ho]
    rfl
  have hdriven : drivenHere (stepOpened src gp net s) = if src = addr s ∧ gp / 256 = addr s then some gp else none := by
    have h : drivenHere (stepOpened src gp net s) = if src = addr s ∧ owns s gp = true then some gp else none := rfl
    exact h.trans (if_congr (and_congr_right fun _ => decide_eq_true_iff) rfl rfl)
  have hx : openSweepStep src gp net s = (drivenHere (stepOpened src gp net s)).elim (stepOpened src gp net s) fun g =>
      batch .toDrive [(localOf g, .drive)] (stepOpened src gp net s) := by
    unfold openSweepStep
    simp only
    rw [hopen]
    cases drivenHere (stepOpened src gp net s) <;> rfl
  rw [hx, hdriven]
  split_ifs <;> rfl

/-- The opening of a step leaves the run state as it was. -/
theorem openSweepStep_state (src gp net : Nat) (s : State) : (openSweepStep src gp net s).run.state = s.run.state := by
  unfold openSweepStep
  simp only
  split <;> simp [setRun]

/-- A step opened in a sound run leaves it sound, in the stage that awaits the driver's batch (R93, R95). -/
theorem stepOpened_sound {s : State} (h : RunSound s) (hg : s.run.sweepStage = .bidding) (src gp net : Nat) :
    RunSound (stepOpened src gp net s) ∧ awaited (stepOpened src gp net s) = some .toDrive := by
  have hw : s.run.state = .sweep := h.sweep (by rw [hg]; decide)
  have ha : runActive (stepOpened src gp net s) = true := by simp [stepOpened, runActive, hw]
  have hs : RunSound (stepOpened src gp net s) :=
    ⟨fun _ => hw, h.ins, fun k => absurd (ha.symm.trans k) (by decide),
      fun k => absurd ((h.haltClear (by rw [hg]; decide)).symm.trans k) (by decide),
      fun n d k => absurd k (h.passNone (by rw [hg]; decide) n d), h.summary, h.held, h.silent⟩
  exact ⟨hs, awaited_sweep hs (by simp [stepOpened])⟩

/-- The driver's batch at the opening of a step (R94, R95): the batch done where the point has reached DRIVE already; the settle
wait still runs. -/
theorem stepOpened_batch {s : State} (h : RunSound s) (hg : s.run.sweepStage = .bidding) (src gp net : Nat) :
    let u := stepOpened src gp net s
    let t := batch .toDrive [(localOf gp, .drive)] u
    t = { u with
      run := { u.run with driveDone := t.run.driveDone }, points := t.points
      matrix := { s.matrix with batches := t.matrix.batches } } := by
  obtain ⟨hs, hw⟩ := stepOpened_sound h hg src gp net
  intro u t
  have hb : t = _ := batch_awaited .toDrive [(localOf gp, .drive)] hs hw
  have hq := requested_eq .toDrive [(localOf gp, .drive)] u
  by_cases hd : Purpose.toDrive ∈ completeAt .toDrive [(localOf gp, .drive)] u
  · rw [if_pos hd] at hb
    have hr : t = setRun { u.run with driveDone := true } (requested .toDrive [(localOf gp, .drive)] u) := by
      rw [hb, report_toDrive (by rw [hq]; rfl), if_neg (by rw [hq]; exact Option.some_ne_none _), hq]
    rw [hr, hq]
    rfl
  · rw [if_neg hd] at hb
    rw [hb, hq]
    rfl

/-- What the laws of a run read, a clean frame end leaves as it was. -/
theorem frameSeen_sameRun (f : Frame) (s : State) : sameRun s { s with bus := frameSeen f s } := by
  refine ⟨rfl, rfl, rfl, rfl, rfl, rfl, ?_, ?_, fun _ => id⟩ <;> cases hk : isOwn f s <;> simp [frameSeen, hk]

/-- No frame has begun after a clean frame end (R42, R44). -/
theorem frameSeen_noneBegun (f : Frame) (s : State) : noneBegun (frameSeen f s).slot := fun _ he => notSent_unbegun he

/-- A DRIVE taken in the bidding stage opens the step, also as the first frame of a bid window (R92, R93). -/
theorem exec_driveFrame {r : Route} {s : State} (gp net : Half) (ht : takesRunFrame r s = true)
    (hw : s.run.state = .sweep) (hg : s.run.sweepStage = .bidding) : exec (.driveFrame r gp net) s = .next
      (openSweepStep r.src.toNat gp.toNat net.toNat { s with bus := frameSeen (onRoute r (.drive gp net)) s }) := by
  simp only [takesRunFrame, takesFrames, Bool.and_eq_true] at ht
  obtain ⟨⟨hl, -⟩, hr⟩ := ht
  let u : State := { s with bus := frameSeen (onRoute r (.drive gp net)) s }
  have hact : (if toStepEngine r then (if u.run.state = .sweep ∧ u.run.sweepStage = .bidding then
      openSweepStep r.src.toNat gp.toNat net.toNat u else u) else u) = openSweepStep r.src.toNat gp.toNat net.toNat u :=
    (if_pos hr).trans (if_pos ⟨hw, hg⟩)
  have hfirst : firstFrame 2 (openSweepStep r.src.toNat gp.toNat net.toNat u) =
      openSweepStep r.src.toNat gp.toNat net.toNat u := if_pos (.inl ⟨by simp [openSweepStep_state, u, hw], rfl⟩)
  refine congrArg Host.Outcome.next ((frameEnd_listening _ _ hl).trans ?_)
  refine (congrArg (fun x => if isCandidate s then firstFrame 2 x else x) hact).trans ?_
  simp only [hfirst, ite_self]
  rfl

/-- Settles O32: in the bidding stage the DRIVE opens the step, also as the first frame of the bid window; elsewhere nothing. -/
theorem driveOpensTheSweepStep : Obligations.DriveOpensTheSweepStep := by
  intro r gp net s ht hl
  refine ⟨fun ⟨hw, hg⟩ ho => ?_, fun hn hwin => ?_⟩
  · let u : State := { s with bus := frameSeen (onRoute r (.drive gp net)) s }
    have hr : RunSound u := ((runLawful_iff s).1 hl).congr (frameSeen_sameRun _ s)
    rw [exec_driveFrame gp net ht hw hg,
      openSweepStep_eq _ _ _ (s := u) (by simp [runActive, u, hw]) ho (frameSeen_noneBegun _ s)]
    refine ⟨_, rfl, ?_⟩
    intro here
    by_cases hd : r.src.toNat = addr s ∧ gp.toNat / 256 = addr s
    · have hh : here = true := decide_eq_true hd
      have ht := stepOpened_batch hr hg r.src.toNat gp.toNat net.toNat
      obtain ⟨hlen, heach⟩ := batch_one_requests .toDrive (localOf gp.toNat) .drive
        (stepOpened r.src.toNat gp.toNat net.toNat u)
      rw [if_pos (show r.src.toNat = addr u ∧ gp.toNat / 256 = addr u from hd)]
      refine ⟨ht, fun k => absurd (hh.symm.trans k) (by decide), hlen, fun j hj => (heach j hj).trans ?_⟩
      by_cases hi : j = gp.toNat % 256
      · exact (if_pos hi).trans ((requestedTo_congr (s := s) rfl rfl rfl rfl .drive _).trans (if_pos ⟨hh, hi⟩).symm)
      · exact (if_neg hi).trans (if_neg fun k => hi k.2).symm
    · have hh : here = false := decide_eq_false hd
      rw [if_neg (show ¬ (r.src.toNat = addr u ∧ gp.toNat / 256 = addr u) from hd)]
      exact ⟨rfl, fun _ => rfl, rfl, fun j hj => by simp [hh]; rfl⟩
  · exact congrArg Host.Outcome.next ((runFrame_taken _ _ ht hwin).trans (if_neg hn))

end Sys2Proof.Machine
end

section
/-! The first frame of a bid window that opens no step (R56, R92, R115, O29). -/

namespace Sys2Proof.Machine

/-- The frame end of another frame reads nothing of the bid window test (R44, R56). -/
theorem notSent_setWindow (w : Window) (s : State) : notSent (setWindow w s) = setWindow w (notSent s) := by
  unfold notSent pauseService
  cases hh : s.lines.holdOut <;> simp [setWindow, setSlot, hh]

/-- The first frame of a bid window leaves the bus as a frame does where no test runs (R56). -/
theorem frameSeen_candidate (f : Frame) {s : State} (hw : s.bus.window = .running false) :
    frameSeen f (setWindow .off s) = frameSeen f s := by
  have hown : isOwn f (setWindow .off s) = isOwn f s := rfl
  have hsent : (if isOwn f s then sentClean (kindCode f.payload) (setWindow .off s) else setWindow .off s) =
      setWindow .off (if isOwn f s then sentClean (kindCode f.payload) s else s) := by
    cases isOwn f s <;> rfl
  unfold frameSeen
  rw [hown, hsent, notSent_setWindow, hw]
  rfl

/-- Whether a clean frame of a kind opens the next step of the phase (R92, R115). -/
def opensStep (k : Nat) (s : State) : Prop := (s.run.state = .sweep ∧ k = 2) ∨ (s.run.state = .insulate ∧ k = 4)

/-- No frame but a DRIVE and a NET opens a step. -/
theorem not_opensStep {k : Nat} (h2 : k ≠ 2) (h4 : k ≠ 4) (s : State) : ¬ opensStep k s :=
  fun h => h.elim (fun k => h2 k.2) fun k => h4 k.2

/-- A first frame that opens no step: its own effects, as if no test ran, then the end of the phase (R92, R115; log entry 17). -/
theorem frameEnd_endsPhase (f : Frame) (act : Bool → State → State) {s : State} (hl : listening s = true)
    (hw : s.bus.window = .running false) (hn : ¬ opensStep (kindCode f.payload) (frameEnd f act (setWindow .off s))) :
    frameEnd f act s = phaseEnd (frameEnd f act (setWindow .off s)) := by
  have hoff : frameEnd f act (setWindow .off s) = act (isOwn f s) { s with bus := frameSeen f s } := by
    rw [frameEnd_listening f act (s := setWindow .off s) hl, frameSeen_candidate f hw]
    rfl
  have hc : isCandidate s = true := by simp [isCandidate, hw]
  rw [frameEnd_listening f act hl, ← hoff]
  simp only [hc, if_true]
  exact if_neg hn

/-- A frame whose effect leaves the run state alone leaves it so where no bid window test runs. -/
theorem frameEnd_state (f : Frame) {act : Bool → State → State} {s : State} (hl : listening s = true)
    (ha : ∀ own u, (act own u).run.state = u.run.state) :
    (frameEnd f act (setWindow .off s)).run.state = s.run.state := by
  rw [frameEnd_listening f act (s := setWindow .off s) hl]
  exact ha _ _

/-- The opening of an insulation step leaves the run state as it was. -/
theorem openInsStep_state (n : Nat) (vetoed : Bool) (s : State) : (openInsStep n vetoed s).run.state = s.run.state := by
  unfold openInsStep
  simp only
  split
  · simp [markStep, updateNet, setRun]
  · simp [setRun]

/-- A RESET at a station out of HELD is judged as a request (R168, R183). -/
theorem resetFrame_request (full : Bool) (h : Header) (ids : IdCodes) {s : State} (hl : listening s = true) :
    resetFrame full h ids s = request h 22 (fun form u =>
      match form with
      | .unheard => u
      | .addressed => refuse h 22 .range 0 u
      | .general => resetStation full ids u) s := by
  simp only [listening, Bool.and_eq_true, Bool.not_eq_true'] at hl
  exact if_neg (by simp [hl.2])

/-- A RESET as first frame, at a station out of HELD, ends the phase after its own effects (R56, R168). -/
theorem resetFrame_endsPhase (full : Bool) (h : Header) (ids : IdCodes) {s : State} (hl : listening s = true)
    (hw : s.bus.window = .running false) :
    resetFrame full h ids s = phaseEnd (resetFrame full h ids (setWindow .off s)) := by
  rw [resetFrame_request full h ids hl, resetFrame_request full h ids (s := setWindow .off s) hl]
  exact frameEnd_endsPhase _ _ hl hw (not_opensStep (fun k => by cases k) (fun k => by cases k) _)

/-- Settles O29: a frame of another kind than DRIVE and NET opens no step, and those two leave the run state as it was. -/
theorem firstFrameEndsThePhase : Obligations.FirstFrameEndsThePhase := by
  intro c k s t u hk hreset hl hw hdrive hnet ht hu
  have hsame : ∀ v : State, v.run.state = s.run.state → ¬ opensStep k v := by
    rintro v hv (⟨hs, h2⟩ | ⟨hs, h4⟩)
    · exact hdrive (hv ▸ hs) h2
    · exact hnet (hv ▸ hs) h4
  cases c <;> cases hk
  case heldFrame =>
    obtain ⟨h, hr, -⟩ := hreset rfl
    cases hr
  case otherCleanFrame f =>
    cases ht; cases hu
    exact frameEnd_endsPhase f _ hl hw (hsame _ (frameEnd_state f hl fun _ _ => rfl))
  case driveFrame r gp net =>
    cases ht; cases hu
    refine frameEnd_endsPhase _ _ hl hw (hsame _ (frameEnd_state _ hl fun _ v => ?_))
    split
    · dsimp only
      split <;> [exact openSweepStep_state _ _ _ v; rfl]
    · rfl
  case netFrame r n veto =>
    cases ht; cases hu
    refine frameEnd_endsPhase _ _ hl hw (hsame _ (frameEnd_state _ hl fun _ v => ?_))
    split
    · dsimp only
      split <;> [exact openInsStep_state _ _ v; rfl]
    · rfl
  case resetRun h ids => cases ht; cases hu; exact resetFrame_endsPhase false h ids hl hw
  case resetFull h ids => cases ht; cases hu; exact resetFrame_endsPhase true h ids hl hw
  all_goals
    cases ht; cases hu
    exact frameEnd_endsPhase _ _ hl hw (not_opensStep (fun k => by cases k) (fun k => by cases k) _)

end Sys2Proof.Machine
end

section
/-! SUPPORT. Offers beside other changes of the station (R139 to R143): what they read and what they leave; and the batches that
name every point, complete where every point has come to rest (R28). -/

namespace Sys2Proof.Machine

/-! ## Offers beside other changes -/

/-- A station with the Defect List, the event status and the bus of another: what offers change. -/
def withListOf (u s : State) : State := { u with bus := s.bus, defects := s.defects, decoder := s.decoder }

/-- Two stations whose NOTICE frames tell of the same address and run state (R179). -/
def noticesAlike (u s : State) : Prop := u.straps = s.straps ∧ u.run.state = s.run.state

/-- An event reads the bus, the status, the address and the run state (R178, R179). -/
theorem raise_withListOf (e : Event) {u s : State} (h : noticesAlike u s) :
    raise e (withListOf u s) = withListOf u (raise e s) := by
  obtain ⟨hstraps, hstate⟩ := h
  have hslot : (raise e (withListOf u s)).bus.slot = (raise e s).bus.slot := by
    rw [raise_slot, raise_slot]
    simp only [withListOf, ownFrame, hstraps, hstate]
  rw [raise_only e (withListOf u s), hslot]
  conv => rhs; rw [raise_only e s]
  rfl

/-- An offer reads the list besides (R141). -/
theorem offer_withListOf (d : Defect) {u s : State} (h : noticesAlike u s) :
    offer d (withListOf u s) = withListOf u (offer d s) := by
  have hholds : ∀ id, holdsIdent (withListOf u s) id = holdsIdent s id := fun _ => rfl
  have hstore : ∀ d, storeOffer d (withListOf u s) = withListOf u (storeOffer d s) := fun d => by
    have hlen : (withListOf u s).defects.records.length = s.defects.records.length := rfl
    unfold storeOffer
    rw [hlen]
    split
    · rfl
    · exact raise_withListOf .listFull (s := setDefects _ s) h
  unfold offer
  simp only [hholds, hstore]
  repeat' split
  all_goals rfl

/-- Offers of one job beside other changes of the station (R140). -/
theorem offerAll_withListOf (ds : List Defect) {u s : State} (h : noticesAlike u s) :
    offerAll ds (withListOf u s) = withListOf u (offerAll ds s) := by
  induction ds generalizing s with
  | nil => rfl
  | cons d ds ih =>
      show offerAll ds (offer d (withListOf u s)) = withListOf u (offerAll ds (offer d s))
      rw [offer_withListOf d h]
      exact ih (by simpa [noticesAlike] using h)

/-- Offers of one job leave the rest of the station as it was. -/
theorem offerAll_eq_withListOf (ds : List Defect) (s : State) : offerAll ds s = withListOf s (offerAll ds s) :=
  offerAll_withListOf ds (u := s) (s := s) ⟨rfl, rfl⟩

/-- One job's offers, made in two parts (R140). -/
theorem offerAll_append (ds es : List Defect) (s : State) : offerAll (ds ++ es) s = offerAll es (offerAll ds s) :=
  List.foldl_append

/-- A batch request reads nothing that offers change (R27, R32). -/
theorem requestBatch_withListOf (why : Purpose) (targets : List (Nat × Switch)) (u s : State) :
    requestBatch why targets (withListOf u s) = withListOf (requestBatch why targets u) s := by
  have hf : heldAtFloat (withListOf u s) = heldAtFloat u := rfl
  unfold requestBatch
  rw [hf]
  split <;> rfl

/-! ## Batches that name every point -/

/-- Every point at rest, local index by local index. -/
theorem allAtRest_iff (s : State) : allAtRest s = true ↔ ∀ j < s.points.length, inTransit s j = false := by
  rw [allAtRest, all_points_iff _ rfl s]
  simp only [inTransit, bne_eq_false_iff_eq, beq_iff_eq]
  refine ⟨fun h j _ => h j, fun h j => ?_⟩
  rcases Nat.lt_or_ge j s.points.length with hj | hj
  · exact h j hj
  · rw [pointAt_beyond s j hj]; rfl

/-- A batch of every point, the only one of its purpose, is complete at the request where every point is at rest then, as every
point is that is held at FLOAT (R27, R28, R32). -/
theorem complete_iff_allAtRest {q : Purpose} {targets : List (Nat × Switch)} {s : State}
    (hall : targets.map Prod.fst = List.range s.points.length) (hf : floatHoldLawful s = true)
    (hq : ∀ b ∈ s.matrix.batches, b.purpose ≠ q) :
    q ∈ completeAt q targets s ↔ allAtRest (requestBatch q targets s) = true := by
  cases hs : heldAtFloat s
  · have hmem : q ∈ completeAt q targets s ↔
        ((List.range s.points.length).filter (inTransit (requestBatch q targets s))) = [] := by
      simp only [completeAt, takeComplete, requestBatch_batches q targets s hs, hall, List.mem_map, List.mem_filter,
        List.mem_append, List.mem_singleton, List.isEmpty_iff]
      constructor
      · rintro ⟨b, ⟨⟨x, hx, rfl⟩ | rfl, hb⟩, hp⟩
        · exact absurd hp (hq x hx)
        · exact hb
      · exact fun he => ⟨_, ⟨.inr rfl, he⟩, rfl⟩
    rw [hmem, allAtRest_iff, requestBatch_length, List.filter_eq_nil_iff]
    simp
  · have hrest : allAtRest (requestBatch q targets s) = true := by
      refine (allAtRest_iff _).2 fun j _ => ?_
      have hp := (floatHoldLawful_iff s).1 hf (by simp [mustFloat, hs]) j
      simp only [pointFloats, Bool.and_eq_true, beq_iff_eq] at hp
      rw [inTransit, pointAt_congr (requestBatch_held q targets s hs), hp.2]
      rfl
    have hmem : q ∈ completeAt q targets s := by
      simp only [completeAt, takeComplete, requestBatch, hs, if_true, setBatches, List.filter_append, List.map_append,
        List.mem_append]
      exact .inr (by simp)
    simp only [hrest, hmem]

/-- A batch with one target for every point names every point. -/
theorem everyPoint_indices (s : State) (t : Switch) : (everyPoint s t).map Prod.fst = List.range s.points.length := by
  simp [everyPoint, Function.comp_def]

/-- A batch with a target for every record names every point. -/
theorem targetsBy_indices (s : State) (f : Nat → Point → Switch) :
    (targetsBy s f).map Prod.fst = List.range s.points.length := by
  rw [targetsBy, List.map_map]
  exact (List.zipIdx_map_snd _ _).trans List.range_eq_range'.symm

end Sys2Proof.Machine
end

section
/-! The bid window that expires (R56, R82, R92, R107, R108, R134, O30), and the ends of the settle wait and of a calibration (R60,
R61, R63, R78, R95, O45). -/

namespace Sys2Proof.Machine

/-- A batch of every point in a run that awaits its report, the only one of its purpose: reported where every point is at rest
with it (R28). -/
theorem batch_awaited_all {q : Purpose} {targets : List (Nat × Switch)} {s : State} (h : RunSound s)
    (hq : awaited s = some q) (hall : targets.map Prod.fst = List.range s.points.length) (hf : floatHoldLawful s = true)
    (hn : ∀ b ∈ s.matrix.batches, b.purpose ≠ q) : batch q targets s =
      if allAtRest (batch q targets s) = true then report (requested q targets s) q else requested q targets s := by
  have hrest : allAtRest (requestBatch q targets s) = allAtRest (batch q targets s) := by simp [allAtRest, batch]
  have hc := complete_iff_allAtRest hall hf hn
  rw [hrest] at hc
  exact (batch_awaited q targets h hq).trans (if_congr hc rfl rfl)

/-! ## The end of the sweep -/

/-- The offers of the sweep's end, in order (R107, R108). -/
def endOffers (s : State) : List Defect :=
  undrivenOffers s ++ (if s.run.insOn = true ∧ s.run.elected ≠ none then notTestedOffers s else [])

/-- The station in the ending stage, its bid withdrawn and HOLD asserted (R107). -/
def sweepEnding (s : State) : State := { s with
  bus := { s.bus with slot := dropUnbegun servesRequest (s.bus.slot.filter fun e => entryKind e != 2) }
  lines := { s.lines with holdOut := true, holdSeen := true }
  run := { s.run with sweepStage := .ending, timer := timerAtHold s } }

/-- The offers of the sweep's end read the Net Map and the phase settings (R108). -/
theorem endWork_offers {s u : State} (hn : u.netMap = s.netMap) (hr : u.run.insOn = s.run.insOn)
    (he : u.run.elected = s.run.elected) (v : State) :
    (if checkWillRun u then offerAll (notTestedOffers u) v else v) =
      offerAll (if s.run.insOn = true ∧ s.run.elected ≠ none then notTestedOffers s else []) v := by
  have ho : notTestedOffers u = notTestedOffers s := by simp [notTestedOffers, hn]
  have hc : checkWillRun u = true ↔ s.run.insOn = true ∧ s.run.elected ≠ none := by
    simp [checkWillRun, hr, he, Option.isSome_iff_ne_none]
  rw [ho]
  by_cases hk : s.run.insOn = true ∧ s.run.elected ≠ none
  · rw [if_pos (hc.2 hk), if_pos hk]
  · rw [if_neg fun k => hk (hc.1 k), if_neg hk]
    rfl

/-- The end of the sweep (R107, R108): its offers bear on no point, so the FLOAT batch may as well follow them all. -/
theorem sweepEnd_eq {s : State} (ha : runActive s = true) (ho : s.lines.holdOut = false) (hn : noneBegun s.bus.slot) :
    sweepEnd s = floatAll .endFloat (offerAll (endOffers s) (sweepEnding s)) := by
  have hend : assertHold (setSweepStage .ending (withdraw 2 s)) = sweepEnding s := by
    rw [withdraw_noneBegun hn]
    exact assertHold_eq (s := setSweepStage .ending (setSlot (s.bus.slot.filter fun e => entryKind e != 2) s)) ha ho
  let more := if s.run.insOn = true ∧ s.run.elected ≠ none then notTestedOffers s else []
  let v := offerAll (undrivenOffers s) (sweepEnding s)
  let w := requestBatch .endFloat (everyPoint v .float) v
  have hw : sweepEnd s = reportAll (if checkWillRun w then offerAll (notTestedOffers w) w else w) := by
    unfold sweepEnd
    simp only [hend]
    rfl
  have hmore : (if checkWillRun w then offerAll (notTestedOffers w) w else w) = offerAll more w :=
    endWork_offers (by simp [w, v, sweepEnding]) (by simp [w, v, sweepEnding]) (by simp [w, v, sweepEnding]) w
  have hafter : offerAll more w = requestBatch .endFloat (everyPoint v .float) (offerAll more v) := by
    have hwv : w = withListOf w v := requestBatch_withListOf .endFloat (everyPoint v .float) v v
    rw [hwv, offerAll_withListOf more (by simp [noticesAlike, w]), offerAll_eq_withListOf more v,
      requestBatch_withListOf]
    rfl
  have hevery : everyPoint v .float = everyPoint (offerAll more v) .float := by simp [everyPoint]
  rw [hw, hmore, hafter, hevery, endOffers, offerAll_append]
  rfl

/-- The ending stage is one of a sound run, and awaits the FLOAT batch (R108). -/
theorem sweepEnding_sound {s : State} (h : RunSound s) (hg : s.run.sweepStage = .bidding) :
    RunSound (sweepEnding s) ∧ awaited (sweepEnding s) = some .endFloat := by
  have hw : s.run.state = .sweep := h.sweep (by rw [hg]; decide)
  have ha : runActive (sweepEnding s) = true := by simp [sweepEnding, runActive, hw]
  have hs : RunSound (sweepEnding s) :=
    ⟨fun _ => hw, h.ins, fun k => absurd (ha.symm.trans k) (by decide),
      fun k => absurd ((h.haltClear (by rw [hg]; decide)).symm.trans k) (by decide),
      fun n d k => absurd k (h.passNone (by rw [hg]; decide) n d), h.summary, h.held, h.silent⟩
  exact ⟨hs, awaited_sweep hs (by simp [sweepEnding])⟩

/-- The end of the sweep as one change of the state (R107, R108): the stage is left where every point is at rest. -/
theorem sweepEnd_ends {s : State} (h : RunSound s) (hg : s.run.sweepStage = .bidding)
    (ho : s.lines.holdOut = false) (hn : noneBegun s.bus.slot) (hf : floatHoldLawful s = true)
    (hb : ∀ b ∈ s.matrix.batches, b.purpose ≠ .endFloat) :
    let t := sweepEnd s
    eachPoint s t (fun _ p => requestedTo s .float p) ∧
      t = { withListOf s (offerAll (endOffers s) (sweepEnding s)) with
        lines := { s.lines with holdOut := !allAtRest t, holdSeen := true }, points := t.points
        matrix := { s.matrix with batches := t.matrix.batches }
        run := { s.run with
          sweepStage := if allAtRest t = true then .endReleased else .ending, timer := timerAtHold s } } := by
  intro t
  have hw : s.run.state = .sweep := h.sweep (by rw [hg]; decide)
  obtain ⟨hsound, hawaits⟩ := sweepEnding_sound h hg
  obtain ⟨v, hv⟩ : ∃ v, v = offerAll (endOffers s) (sweepEnding s) := ⟨_, rfl⟩
  have hvl : v = withListOf (sweepEnding s) v := by rw [hv]; exact offerAll_eq_withListOf _ _
  have hvs : RunSound v := hsound.congr (.ofFrame (by simp [hv]))
  have hva : awaited v = some .endFloat := by rw [hvl]; exact hawaits
  have hvf : floatHoldLawful v = true := by
    simpa [floatHoldLawful, heldAtFloat, hv, sweepEnding] using hf
  have ht : t = batch .endFloat (everyPoint v .float) v := by rw [hv]; exact sweepEnd_eq (by simp [runActive, hw]) ho hn
  have hbatch := batch_awaited_all hvs hva (everyPoint_indices v .float) hvf (by rw [hvl]; exact hb)
  have hq := requested_eq .endFloat (everyPoint v .float) v
  obtain ⟨hlen, heach⟩ : eachPoint v t fun _ p => requestedTo v .float p := by rw [ht]; exact floatAll_requests .endFloat v
  rw [← ht] at hbatch hq
  have hpoints : v.points = s.points := by rw [hvl]; rfl
  refine ⟨⟨hlen.trans (congrArg _ hpoints), fun j hj => ?_⟩, ?_⟩
  · refine (heach j (by rw [hpoints]; exact hj)).trans ?_
    rw [pointAt_congr hpoints]
    rw [hvl]
    exact requestedTo_congr (s := s) rfl rfl rfl rfl .float _
  · rw [← hv]
    by_cases hrest : allAtRest t = true
    · rw [if_pos hrest] at hbatch
      simp only [hrest, if_true, Bool.not_true]
      have hr : report (requested .endFloat (everyPoint v .float) v) .endFloat =
        setSweepStage .endReleased (releaseHold (requested .endFloat (everyPoint v .float) v)) := by
        refine if_pos ?_
        rw [hq, hvl]
        rfl
      rw [hr, hq, hvl] at hbatch
      exact hbatch
    · rw [if_neg hrest, hq, hvl] at hbatch
      simp only [Bool.eq_false_iff.2 hrest, Bool.false_eq_true, if_false, Bool.not_false]
      exact hbatch

/-! ## The bid window that expires -/

/-- A bid window test that runs expires where no frame of the station has begun (R56). -/
theorem exec_bidWindowExpired {s : State} (hw : s.bus.window = .running false) (hn : noneBegun s.bus.slot) :
    exec .bidWindowExpired s = .next (phaseEnd (setWindow .off s)) := by
  have hc : isCandidate s = true := by simp [isCandidate, hw]
  have hb : s.bus.slot.any TxEntry.begun = false := List.any_eq_false.2 fun e he => by simp [hn e he]
  exact congrArg Host.Outcome.next (if_pos (by rw [hc, hb]; rfl))

/-- A bid window test that does not run, or has a frame of the station on the bus, does not expire (R56; log entry 3). -/
theorem exec_bidWindowExpired_ignored {s : State}
    (h : s.bus.window ≠ .running false ∨ s.bus.slot.any TxEntry.begun = true) : exec .bidWindowExpired s = .next s := by
  refine congrArg Host.Outcome.next (if_neg ?_)
  rcases h with h | h
  · simp [isCandidate, h]
  · simp [h]

/-- The sweep ends where its bid window expires (R56, R92, R107, R108). -/
theorem expired_sweepEnds {s : State} (h : RunSound s) (hg : s.run.sweepStage = .bidding) (hn : noneBegun s.bus.slot)
    (ho : s.lines.holdOut = false) (hf : floatHoldLawful s = true)
    (hb : ∀ b ∈ s.matrix.batches, b.purpose ≠ .endFloat) :
    let t := sweepEnd (setWindow .off s)
    let u := offerAll (endOffers s) { s with bus := { s.bus with
      window := .off, slot := dropUnbegun servesRequest (s.bus.slot.filter fun e => entryKind e != 2) } }
    t.run = { s.run with sweepStage := if allAtRest t = true then .endReleased else .ending, timer := timerAtHold s } ∧
    t.lines = { s.lines with holdOut := !allAtRest t, holdSeen := true } ∧
    eachPoint s t (fun _ p => requestedTo s .float p) ∧
    t = { u with
      lines := t.lines, points := t.points, matrix := { s.matrix with batches := t.matrix.batches }, run := t.run } := by
  intro t u
  let w : State := { s with bus := { s.bus with
    window := .off, slot := dropUnbegun servesRequest (s.bus.slot.filter fun e => entryKind e != 2) } }
  have hs : RunSound (setWindow .off s) := h.congr ⟨rfl, rfl, rfl, rfl, rfl, rfl, rfl, rfl, fun _ => id⟩
  obtain ⟨heach, ht⟩ := sweepEnd_ends hs hg ho hn hf hb
  have hoffers : offerAll (endOffers (setWindow .off s)) (sweepEnding (setWindow .off s)) =
      withListOf (sweepEnding (setWindow .off s)) u :=
    offerAll_withListOf (endOffers s) (u := sweepEnding (setWindow .off s)) (s := w) ⟨rfl, rfl⟩
  have hu : u = withListOf w u := offerAll_eq_withListOf _ w
  rw [hoffers] at ht
  have hrun := congrArg State.run ht
  have hlines := congrArg State.lines ht
  refine ⟨hrun, hlines, heach, ?_⟩
  rw [hrun, hlines, hu]
  exact ht

/-- Settles O30: in the bidding stage of the sweep the phase ends as `expired_sweepEnds` says, in that of the insulation check the
run completes; no other stage is a phase to end. -/
theorem expiredWindowEndsThePhase : Obligations.ExpiredWindowEndsThePhase := by
  refine ⟨fun s hw hg hwin hn ho hl hf _ _ hb => ?_, fun s hl => ⟨fun hwin hn hi hg => ?_, fun hwin hn hg hi => ?_,
    exec_bidWindowExpired_ignored⟩⟩
  · have hphase : phaseEnd (setWindow .off s) = sweepEnd (setWindow .off s) := if_pos ⟨hw, hg⟩
    rw [exec_bidWindowExpired hwin hn, hphase]
    exact ⟨_, rfl, expired_sweepEnds ((runLawful_iff s).1 hl) hg hn ho hf hb⟩
  · have hphase : phaseEnd (setWindow .off s) = insulationEnd (setWindow .off s) := by
      simp [phaseEnd, hi, hg]
    rw [exec_bidWindowExpired hwin hn, hphase, insulationEnd, withdraw_noneBegun (s := setWindow .off s) hn]
    exact ⟨_, rfl, enterComplete_completes _⟩
  · have hphase : phaseEnd (setWindow .off s) = setWindow .off s := by
      simp [phaseEnd, hi, hg]
    rw [exec_bidWindowExpired hwin hn, hphase]
    rfl

/-! ## The settle wait -/

/-- The settle wait that ends where one runs (R95; log entries 3 and 4): the pass is commanded, unless the driver waits. -/
theorem exec_settleWaitEnd (s : State) : exec .settleWaitEnd s = .next
    (if s.run.sweepStage ≠ .settling ∨ s.run.settleWait = none then s
     else if drivenHere s ≠ none ∧ s.run.driveDone = false then { s with run := { s.run with settleWait := none } }
     else commandPass { s with run := { s.run with settleWait := none } }) := by
  have hk : s.run.sweepStage = .settling ∧ s.run.settleWait.isSome = true ↔
      ¬ (s.run.sweepStage ≠ .settling ∨ s.run.settleWait = none) := by
    simp [Option.isSome_iff_ne_none]
  have hd : ((drivenHere s).isSome && !s.run.driveDone) = true ↔ drivenHere s ≠ none ∧ s.run.driveDone = false := by
    simp [Option.isSome_iff_ne_none]
  exact congrArg Host.Outcome.next ((if_congr hk (if_congr hd rfl rfl) rfl).trans (ite_not _ _ _))

/-- A pass commanded at a station with a sensable point (R60, R63, R95). -/
theorem commandPass_samples {s : State} (ha : anySensable s = true) : commandPass s = { s with
    run := { s.run with sweepStage := .sampling }
    sampler := { job := .sampling s.params.n (drivenHere s), offset := s.sampler.offset
                 buffer := List.replicate 256 none, ref := none } } := if_pos ha

/-! ## The calibration -/

/-- The offset before clamping is the sum of the codes divided by 8, toward zero (R61). -/
theorem rawOffset_eq (codes : Vector Code12 8) : rawOffset codes = Int.tdiv (codes.toList.map BitVec.toInt).sum 8 := by
  rw [rawOffset, List.sum_eq_foldl, List.foldl_map]

/-- The offset is clamped where it lies outside −64 to 63 (R61). -/
theorem clampOffset_eq_self_iff (o : Int) : clampOffset o = o ↔ -64 ≤ o ∧ o ≤ 63 := by
  unfold clampOffset
  omega

/-- The station with the offset of a calibration set, and OFFSET_LIMIT where it was clamped (R61). -/
def calibrated (o : Int) (s : State) : State :=
  let u := setSampler { s.sampler with job := .free, offset := clampOffset o } s
  if -64 ≤ o ∧ o ≤ 63 then u else raise .offsetLimit u

/-- A calibration changes the Sampling Engine, and for OFFSET_LIMIT the status and the slot (R61, R178). -/
theorem calibrated_only (o : Int) (s : State) : calibrated o s = { s with
    sampler := { s.sampler with job := .free, offset := clampOffset o }
    bus := { s.bus with slot := (calibrated o s).bus.slot }
    decoder := { s.decoder with status := (calibrated o s).decoder.status } } := by
  unfold calibrated
  simp only
  split
  · rfl
  · rw [raise_only]
    rfl

/-- CALIBRATION_COMPLETE (R61, R78; log entry 3): no event without a calibration; in PREPARE its batch is requested. -/
theorem exec_calibrationComplete (codes : Vector Code12 8) (s : State) : exec (.calibrationComplete codes) s = .next
    (if s.sampler.job ≠ .calibrating then s
     else
      let u := calibrated (rawOffset codes) s
      if s.run.state ≠ .prepare then u else batch .prepare (targetsBy u (prepareTarget u)) u) := by
  have hu : (if clampOffset (rawOffset codes) = rawOffset codes then
        setSampler { s.sampler with job := .free, offset := clampOffset (rawOffset codes) } s
      else raise .offsetLimit (setSampler { s.sampler with job := .free, offset := clampOffset (rawOffset codes) } s)) =
      calibrated (rawOffset codes) s := if_congr (clampOffset_eq_self_iff _) rfl rfl
  have hstate : (calibrated (rawOffset codes) s).run.state = s.run.state := by rw [calibrated_only]
  refine congrArg Host.Outcome.next ?_
  simp only [hu, hstate, ne_eq, ite_not]

/-- The PREPARE batch at the end of the calibration (R78, R5): with no point in transit the source bids SOURCE_READY, and any
other station releases HOLD. -/
theorem prepareBatch_leads {s : State} (h : RunSound s) (hs : s.run.state = .prepare) (hf : floatHoldLawful s = true)
    (hb : ∀ b ∈ s.matrix.batches, b.purpose ≠ .prepare) (f : Nat → Point → Switch) :
    let t := batch .prepare (targetsBy s f) s
    let source := s.straps.hvsrc && s.run.insOn
    t = { s with
      bus := if source = true ∧ allAtRest t = true then
        (withFrame 31 (.sourceReady (half s.run.number)) s).bus else s.bus
      points := t.points
      matrix := { s.matrix with batches := t.matrix.batches }
      lines := { s.lines with holdOut := s.lines.holdOut && (source || !allAtRest t) } } ∧
    (source = true ∧ allAtRest t = true → standsQueued (ownFrame s 31 (.sourceReady (half s.run.number))) t) := by
  intro t source
  have hbatch := batch_awaited_all h (if_pos hs) (targetsBy_indices s f) hf hb
  have hq := requested_eq .prepare (targetsBy s f) s
  have hleads := prepare_leads (requested_sound h .prepare (targetsBy s f)) (by rw [hq]; exact hs)
  change t = if allAtRest t = true then _ else _ at hbatch
  rw [hq] at hbatch hleads
  by_cases hr : allAtRest t = true
  · rw [if_pos hr] at hbatch
    rw [← hbatch] at hleads
    by_cases hk : s.straps.hvsrc = true ∧ s.run.insOn = true
    · have hsource : source = true := by simp [source, hk]
      rw [if_pos hk] at hleads
      obtain ⟨hbid, hstands⟩ := hleads
      simp only [hsource, hr, and_true, if_true, Bool.true_or, Bool.and_true]
      exact ⟨hbid, fun _ => hstands⟩
    · have hsource : source = false := by simpa [source] using hk
      rw [if_neg hk] at hleads
      simp only [hsource, hr, and_true, Bool.false_or, Bool.and_false, Bool.not_true]
      exact ⟨hleads, fun k => by cases k⟩
  · rw [if_neg hr] at hbatch
    simp only [Bool.eq_false_iff.2 hr, Bool.not_false, Bool.or_true, Bool.and_true, Bool.false_eq_true, and_false, if_false]
    exact ⟨hbatch, fun k => k.elim⟩

/-- The PREPARE batch requested at the end of the calibration (R5, R78), in the words of the station before it. -/
theorem calibrated_prepares {s : State} (hl : runLawful s = true) (hf : floatHoldLawful s = true)
    (hb : ∀ b ∈ s.matrix.batches, b.purpose ≠ .prepare) (hp : s.run.state = .prepare) (o : Int) :
    let u := calibrated o s
    let t := batch .prepare (targetsBy u (prepareTarget u)) u
    let source := s.straps.hvsrc && s.run.insOn
    t = { u with
      bus := if source = true ∧ allAtRest t = true then (withFrame 31 (.sourceReady (half s.run.number)) u).bus else u.bus
      points := t.points
      matrix := { s.matrix with batches := t.matrix.batches }
      lines := { s.lines with holdOut := s.lines.holdOut && (source || !allAtRest t) } } ∧
    eachPoint s t (fun j p => requestedTo s (if sensable s j p = true then .sense else .float) p) ∧
    (source = true ∧ allAtRest t = true → standsQueued (ownFrame s 31 (.sourceReady (half s.run.number))) t) := by
  intro u t source
  have hr := (runLawful_iff s).1 hl
  obtain ⟨slot, status, hu⟩ : ∃ slot status, u = { s with
      sampler := { s.sampler with job := .free, offset := clampOffset o }
      bus := { s.bus with slot := slot }, decoder := { s.decoder with status := status } } := ⟨_, _, calibrated_only o s⟩
  have hsound : RunSound u := by
    rw [hu]
    exact ⟨hr.sweep, hr.ins, hr.timer, hr.halt, fun n d k => Job.noConfusion k, hr.summary, hr.held, hr.silent⟩
  have hfloat : floatHoldLawful u = true := by rw [hu]; exact hf
  obtain ⟨ht, hstands⟩ := prepareBatch_leads hsound (by rw [hu]; exact hp) hfloat (by rw [hu]; exact hb) (prepareTarget u)
  obtain ⟨hlen, heach⟩ := batch_by_requests .prepare (prepareTarget u) u
  have hpoints : u.points = s.points := by rw [hu]
  rw [hpoints] at hlen heach
  have hsource : (u.straps.hvsrc && u.run.insOn) = source := by rw [hu]
  have hnumber : u.run.number = s.run.number := by rw [hu]
  rw [hsource, hnumber] at ht hstands
  refine ⟨?_, ⟨hlen, fun j hj => (heach j hj).trans ?_⟩, ?_⟩
  · have hlines : u.lines = s.lines := by rw [hu]
    have hmatrix : u.matrix = s.matrix := by rw [hu]
    rw [hlines, hmatrix] at ht
    exact ht
  · have htarget : prepareTarget u j (pointAt s j) = if sensable s j (pointAt s j) = true then .sense else .float := by
      rw [hu]; rfl
    rw [pointAt_congr hpoints]
    beta_reduce
    rw [htarget]
    exact requestedTo_congr (s := s) (by rw [hu]) (by rw [hu]) (by rw [hu]) (by rw [hu]) _ _
  · have hframe : ownFrame u 31 (.sourceReady (half s.run.number)) = ownFrame s 31 (.sourceReady (half s.run.number)) := by
      rw [hu]; rfl
    rw [hframe] at hstands
    exact hstands

/-- Settles O45: the settle wait's end commands the pass or leaves it to the driver's batch; the calibration's end sets the
offset, and in PREPARE requests the batch. -/
theorem settleWaitAndCalibrationEnd : Obligations.SettleWaitAndCalibrationEnd := by
  refine ⟨fun s => ⟨_, exec_settleWaitEnd s, ?_⟩, fun codes s _ hf hl hb => ⟨_, exec_calibrationComplete codes s, ?_⟩⟩
  · by_cases hn : s.run.sweepStage ≠ .settling ∨ s.run.settleWait = none
    · rw [if_pos hn, if_pos hn]
    rw [if_neg hn, if_neg hn]
    by_cases hd : drivenHere s ≠ none ∧ s.run.driveDone = false
    · rw [if_pos hd, if_pos hd]
    rw [if_neg hd, if_neg hd]
    by_cases ha : anySensable s = true
    · rw [if_pos ha]
      exact commandPass_samples (s := { s with run := { s.run with settleWait := none } }) ha
    · rw [if_neg ha]
      exact commandPass_ends (v := { s with run := { s.run with settleWait := none } }) (Bool.eq_false_iff.2 ha)
  · by_cases hj : s.sampler.job ≠ .calibrating
    · rw [if_pos hj, if_pos hj]
    rw [if_neg hj, if_neg hj]
    intro o s1 u
    have hu : calibrated (rawOffset codes) s = u := by rw [rawOffset_eq]; rfl
    simp only [hu]
    by_cases hp : s.run.state ≠ .prepare
    · rw [if_pos hp, if_pos hp]
    rw [if_neg hp, if_neg hp]
    exact hu ▸ calibrated_prepares hl hf hb (not_not.1 hp) (rawOffset codes)

end Sys2Proof.Machine
end

section
/-! The step's REF (R20, R66, R70, R71, R77, R102, R103, R105, R106, O33): what each point reads, the classification of a step as
one change of the station, and the two outcomes of the frame. -/

namespace Sys2Proof.Machine

/-! ## What a point reads -/

/-- What a point reads against a REF (R67, R69): a point that is not sensable, and the driven one, read nothing (R70). -/
def readingOf (d : Drive) (ref : Nat) (s : State) (j : Nat) : Option (Nat × Class) :=
  if gpOf s j = d.gp ∨ sensable s j (pointAt s j) = false then none
  else (s.sampler.buffer.getD j none).map fun c =>
    (resistance c ref, classify s.params.l (effectiveH s.params) (resistance c ref))

/-- The leader that a reading of the drive net sets, where the point has none (R105). -/
def ledBy (d : Drive) (c : Class) (p : Point) : Point :=
  { p with leader := if p.leader = none ∧ c ≠ .isolated then some d.gp else p.leader }

/-- A leader once set is kept (R105). -/
theorem ledBy_of_leader {d : Drive} {c : Class} {p : Point} (h : p.leader ≠ none) : ledBy d c p = p := by
  simp [ledBy, h]

/-- What a reading makes of the record of its point (R70, R105). -/
def pointRead (d : Drive) (n : Nat) (x : Nat × Class) (p : Point) : Point :=
  { p with
    last := some { cls := x.2, r := x.1 }
    leader := if n = d.net ∧ p.leader = none ∧ x.2 ≠ .isolated then some d.gp else p.leader }

/-- The offer that a reading of a point of the drive net makes, by whether the drive is the net's first and the point's leader
(R105). -/
def sameNetOffers (d : Drive) (first : Bool) (gp : Nat) (leader : Option Nat) (x : Nat × Class) : List Defect :=
  if leader ≠ none then []
  else
    match x.2 with
    | .connected => []
    | .marginal => [.highResistance d.net gp x.1 d.gp]
    | .isolated => if first = true then [.opn d.net gp] else []

/-- What a reading makes of a Net Map entry (R19): a point of the drive net bars none. -/
def entryRead (d : Drive) (n : Nat) (x : Nat × Class) (e : NetEntry) : NetEntry :=
  if n = d.net then e else barredBy n x.2 e

/-- The offers of one reading (R105, R106). -/
def readingOffers (d : Drive) (s : State) (j : Nat) (x : Nat × Class) : List Defect :=
  if effNet s j = d.net then sameNetOffers d (isLeaderDrive s d) (gpOf s j) (pointAt s j).leader x
  else (otherNetOffer d (effNet s j) x.2 x.1).toList

/-- Two changes of one record agree where they agree on what the record is. -/
theorem modify_points_congr {i : Nat} {f g : Point → Point} {s : State} (h : f (pointAt s i) = g (pointAt s i)) :
    s.points.modify i f = s.points.modify i g := by
  refine List.ext_getElem (by simp) fun j hj _ => ?_
  have hlt : j < s.points.length := by simpa using hj
  have hp : pointAt s j = s.points[j] := by simp [pointAt, List.getD_eq_getElem?_getD, hlt]
  rw [List.getElem_modify, List.getElem_modify]
  split
  · rename_i hi
    subst hi
    rw [← hp, h]
  · rfl

/-- A change that leaves a record as it is leaves the records as they are. -/
theorem modify_points_same {i : Nat} {f : Point → Point} {s : State} (h : f (pointAt s i) = pointAt s i) :
    s.points.modify i f = s.points :=
  (modify_points_congr (g := id) h).trans (List.modify_id _ _)

/-- An offer beside a change of a record (R141). -/
theorem offer_updatePoint (x : Defect) (i : Nat) (f : Point → Point) (s : State) :
    offer x (updatePoint i f s) = { withListOf s (offer x s) with points := s.points.modify i f } :=
  offer_withListOf x (u := updatePoint i f s) (s := s) ⟨rfl, rfl⟩

/-- The effect of a reading of a point of the drive net (R105): its offers and its leader. -/
theorem readSameNet_eq (d : Drive) (i : Nat) (x : Nat × Class) (s : State) : readSameNet d i x.2 x.1 s =
    let offers := sameNetOffers d (isLeaderDrive s d) (gpOf s i) (pointAt s i).leader x
    { withListOf s (offerAll offers s) with points := s.points.modify i (ledBy d x.2) } := by
  obtain ⟨r, c⟩ := x
  cases hl : (pointAt s i).leader with
  | some g =>
      have hsame : s.points.modify i (ledBy d c) = s.points := modify_points_same (ledBy_of_leader (by simp [hl]))
      simp only [readSameNet, hl, hsame]
      rfl
  | none =>
      have hled : ∀ c, c ≠ .isolated →
          s.points.modify i (ledBy d c) = s.points.modify i fun p => { p with leader := some d.gp } := fun c hc =>
        modify_points_congr (by simp [ledBy, hl, hc])
      cases c with
      | connected =>
          simp only [readSameNet, hl, hled .connected (by decide)]
          rfl
      | marginal =>
          simp only [readSameNet, hl, hled .marginal (by decide), offer_updatePoint]
          rfl
      | isolated =>
          have hsame : s.points.modify i (ledBy d .isolated) = s.points := modify_points_same (by simp [ledBy])
          simp only [readSameNet, hl, hsame]
          cases isLeaderDrive s d
          · rfl
          · exact offerAll_eq_withListOf [_] s

/-- The effect of a reading of a point of another net (R19, R106): its offer and its bar. -/
theorem readOtherNet_offers (d : Drive) (n : Nat) (x : Nat × Class) (s : State) : readOtherNet d n x.2 x.1 s =
    { withListOf s (offerAll (otherNetOffer d n x.2 x.1).toList s) with netMap := s.netMap.map (barredBy n x.2) } := by
  have hoffers : ((otherNetOffer d n x.2 x.1).map fun k => offer k s).getD s =
      withListOf s (offerAll (otherNetOffer d n x.2 x.1).toList s) := by
    rw [← offerAll_eq_withListOf]
    cases otherNetOffer d n x.2 x.1 <;> rfl
  rw [readOtherNet_eq]
  simp only [hoffers]

/-- The record of a point with a reading as its last (R70). -/
def withLast (x : Nat × Class) (p : Point) : Point := { p with last := some { cls := x.2, r := x.1 } }

/-- The classification of one point by what it reads (R70). -/
theorem classifyPoint_reads (d : Drive) (ref i : Nat) (s : State) :
    classifyPoint d ref (s.params.l, effectiveH s.params) i s = (readingOf d ref s i).elim s fun x =>
      if effNet s i = d.net then readSameNet d i x.2 x.1 (updatePoint i (withLast x) s)
      else readOtherNet d (effNet s i) x.2 x.1 (updatePoint i (withLast x) s) := by
  have hread : gpOf s i = d.gp ∨ sensable s i (pointAt s i) = false ↔
      ¬ (sensable s i (pointAt s i) && gpOf s i != d.gp) = true := by
    cases sensable s i (pointAt s i) <;> simp
  unfold classifyPoint readingOf
  simp only [hread]
  cases sensable s i (pointAt s i) && gpOf s i != d.gp <;> cases s.sampler.buffer.getD i none <;> rfl

/-- The record after a reading of the drive net: last reading, then leader (R70, R105). -/
theorem ledBy_withLast {d : Drive} {n : Nat} (hn : n = d.net) (x : Nat × Class) :
    ledBy d x.2 ∘ withLast x = pointRead d n x := by
  funext p
  have hlead : (if p.leader = none ∧ x.2 ≠ .isolated then some d.gp else p.leader) =
      if n = d.net ∧ p.leader = none ∧ x.2 ≠ .isolated then some d.gp else p.leader :=
    if_congr (by simp [hn]) rfl rfl
  exact congrArg (fun l => { withLast x p with leader := l }) hlead

/-- The record after a reading of another net: last reading alone (R70, R106). -/
theorem withLast_eq {d : Drive} {n : Nat} (hn : n ≠ d.net) (x : Nat × Class) : withLast x = pointRead d n x := by
  funext p
  simp [withLast, pointRead, hn]

/-- A reading of a point of the drive net, its last reading set (R70, R105). -/
theorem readSameNet_withLast (d : Drive) {i : Nat} (x : Nat × Class) {s : State} (hi : i < s.points.length)
    (hn : effNet s i = d.net) : readSameNet d i x.2 x.1 (updatePoint i (withLast x) s) =
      { withListOf s (offerAll (readingOffers d s i x) s) with
        points := s.points.modify i (pointRead d (effNet s i) x) } := by
  have hleader : (pointAt (updatePoint i (withLast x) s) i).leader = (pointAt s i).leader := by
    rw [pointAt_updatePoint _ _ _ _ hi, if_pos rfl]
    rfl
  have hpoints : (s.points.modify i (withLast x)).modify i (ledBy d x.2) =
      s.points.modify i (pointRead d (effNet s i) x) := by
    rw [List.modify_modify_eq, ledBy_withLast hn]
  have hoffers : offerAll (sameNetOffers d (isLeaderDrive s d) (gpOf s i) (pointAt s i).leader x)
      (updatePoint i (withLast x) s) = withListOf (updatePoint i (withLast x) s) (offerAll (readingOffers d s i x) s) := by
    rw [readingOffers, if_pos hn]
    exact offerAll_withListOf _ (u := updatePoint i (withLast x) s) (s := s) ⟨rfl, rfl⟩
  rw [readSameNet_eq, hleader, ← hpoints]
  exact congrArg (fun u => { withListOf (updatePoint i (withLast x) s) u with
    points := (s.points.modify i (withLast x)).modify i (ledBy d x.2) }) hoffers

/-- A reading of a point of another net, its last reading set (R70, R106). -/
theorem readOtherNet_withLast (d : Drive) {i : Nat} (x : Nat × Class) {s : State} (hn : effNet s i ≠ d.net) :
    readOtherNet d (effNet s i) x.2 x.1 (updatePoint i (withLast x) s) =
      { withListOf s (offerAll (readingOffers d s i x) s) with
        points := s.points.modify i (pointRead d (effNet s i) x), netMap := s.netMap.map (entryRead d (effNet s i) x) } := by
  have hentries : entryRead d (effNet s i) x = barredBy (effNet s i) x.2 := funext fun e => if_neg hn
  have hoffers : offerAll (otherNetOffer d (effNet s i) x.2 x.1).toList (updatePoint i (withLast x) s) =
      withListOf (updatePoint i (withLast x) s) (offerAll (readingOffers d s i x) s) := by
    rw [readingOffers, if_neg hn]
    exact offerAll_withListOf _ (u := updatePoint i (withLast x) s) (s := s) ⟨rfl, rfl⟩
  rw [readOtherNet_offers, hoffers, hentries, ← withLast_eq hn]
  rfl

/-- The classification of one point as one change of the station (R70, R105, R106). -/
theorem classifyPoint_eq (d : Drive) (ref : Nat) {i : Nat} {s : State} (hi : i < s.points.length) :
    classifyPoint d ref (s.params.l, effectiveH s.params) i s = (readingOf d ref s i).elim s fun x =>
      { withListOf s (offerAll (readingOffers d s i x) s) with
        points := s.points.modify i (pointRead d (effNet s i) x), netMap := s.netMap.map (entryRead d (effNet s i) x) } := by
  rw [classifyPoint_reads]
  cases readingOf d ref s i with
  | none => rfl
  | some x =>
      simp only [Option.elim_some]
      by_cases hn : effNet s i = d.net
      · have hentries : s.netMap.map (entryRead d (effNet s i) x) = s.netMap := by
          have hid : entryRead d (effNet s i) x = id := funext fun e => if_pos hn
          rw [hid, List.map_id]
        rw [if_pos hn, readSameNet_withLast d x hi hn, hentries]
        rfl
      · rw [if_neg hn, readOtherNet_withLast d x hn]

/-! ## The classification of a step -/

/-- The offers of a local index in a step (R70). -/
def stepOffers (d : Drive) (ref : Nat) (s : State) (j : Nat) : List Defect :=
  (readingOf d ref s j).elim [] (readingOffers d s j)

/-- A local index's record after the step (R70). -/
def stepPoint (d : Drive) (ref : Nat) (s : State) (j : Nat) (p : Point) : Point :=
  (readingOf d ref s j).elim p fun x => pointRead d (effNet s j) x p

/-- A Net Map entry after the reading of a local index (R19, R106). -/
def stepEntry (d : Drive) (ref : Nat) (s : State) (e : NetEntry) (j : Nat) : NetEntry :=
  (readingOf d ref s j).elim e fun x => entryRead d (effNet s j) x e

/-- The station with the local indices below `k` classified (R70), by what each reads at the start of the step. -/
def classified (d : Drive) (ref : Nat) (s : State) (k : Nat) : State :=
  { withListOf s (offerAll ((List.range k).flatMap (stepOffers d ref s)) s) with
    points := (mapPoints (fun j p => if j < k then stepPoint d ref s j p else p) s).points
    netMap := s.netMap.map fun e => (List.range k).foldl (stepEntry d ref s) e }

/-- A reading changes of a Net Map entry its bar alone (R19). -/
theorem stepEntry_key (d : Drive) (ref : Nat) (s : State) (e : NetEntry) (j : Nat) :
    (stepEntry d ref s e j).net = e.net ∧ (stepEntry d ref s e j).leader = e.leader ∧
      (stepEntry d ref s e j).count = e.count := by
  unfold stepEntry
  cases readingOf d ref s j with
  | none => exact ⟨rfl, rfl, rfl⟩
  | some x =>
      simp only [Option.elim_some, entryRead, barredBy]
      split_ifs <;> exact ⟨rfl, rfl, rfl⟩

/-- Readings that keep the key of every entry keep it in turn. -/
theorem stepEntries_key (d : Drive) (ref : Nat) (s : State) (js : List Nat) (e : NetEntry) :
    (js.foldl (stepEntry d ref s) e).net = e.net ∧ (js.foldl (stepEntry d ref s) e).leader = e.leader ∧
      (js.foldl (stepEntry d ref s) e).count = e.count := by
  induction js generalizing e with
  | nil => exact ⟨rfl, rfl, rfl⟩
  | cons j js ih =>
      obtain ⟨hn, hl, hc⟩ := stepEntry_key d ref s e j
      obtain ⟨kn, kl, kc⟩ := ih (stepEntry d ref s e j)
      exact ⟨kn.trans hn, kl.trans hl, kc.trans hc⟩

/-- Whether a drive is the net's first reads the entries' nets and leaders alone (R105). -/
theorem isLeaderDrive_congr {s t : State} {f : NetEntry → NetEntry} (d : Drive) (ht : t.netMap = s.netMap.map f)
    (hf : ∀ e, (f e).net = e.net ∧ (f e).leader = e.leader) : isLeaderDrive t d = isLeaderDrive s d := by
  have hentry : netEntry t d.net = (netEntry s d.net).map f := by
    have hkey : (fun e : NetEntry => e.net == d.net) ∘ f = fun e => e.net == d.net :=
      funext fun e => by simp [(hf e).1]
    rw [netEntry, ht, List.find?_map, hkey]
    rfl
  unfold isLeaderDrive
  rw [hentry]
  cases netEntry s d.net with
  | none => rfl
  | some e => simp [(hf e).2]

/-- The local index that comes next in a step is as the step began (R70). -/
theorem classified_next (d : Drive) (ref : Nat) {s : State} {k : Nat} (hk : k < s.points.length) :
    let u := classified d ref s k
    pointAt u k = pointAt s k ∧ effNet u k = effNet s k ∧ readingOf d ref u k = readingOf d ref s k ∧
      readingOffers d u k = readingOffers d s k := by
  intro u
  have hpoint : pointAt u k = pointAt s k := by
    have hmap : pointAt u k = pointAt (mapPoints (fun j p => if j < k then stepPoint d ref s j p else p) s) k := rfl
    rw [hmap, pointAt_mapPoints _ _ _ hk, if_neg (lt_irrefl k)]
  have hnet : effNet u k = effNet s k := by
    rw [effNet, hpoint]
    rfl
  have hfirst : isLeaderDrive u d = isLeaderDrive s d :=
    isLeaderDrive_congr d rfl fun e => ⟨(stepEntries_key d ref s _ e).1, (stepEntries_key d ref s _ e).2.1⟩
  refine ⟨hpoint, hnet, ?_, ?_⟩
  · unfold readingOf
    rw [hpoint]
    rfl
  · funext x
    unfold readingOffers
    rw [hnet, hpoint, hfirst]
    rfl

/-- The records with one more local index classified. -/
theorem classified_points_succ (d : Drive) (ref : Nat) (s : State) (k : Nat) :
    (classified d ref s (k + 1)).points = (classified d ref s k).points.modify k (stepPoint d ref s k) := by
  refine List.ext_getElem (by simp [classified, mapPoints]) fun j hj _ => ?_
  rw [List.getElem_modify]
  simp only [classified, mapPoints, List.getElem_map, List.getElem_zipIdx, Nat.zero_add]
  by_cases hjk : k = j
  · subst hjk
    simp
  · have hiff : j < k + 1 ↔ j < k := by omega
    simp [hjk, hiff]

/-- One more local index classified, as one change of the station (R70). -/
theorem classified_succ (d : Drive) (ref : Nat) (s : State) (k : Nat) :
    let u := classified d ref s k
    classified d ref s (k + 1) =
      { withListOf u (offerAll (stepOffers d ref s k) u) with
        points := u.points.modify k (stepPoint d ref s k), netMap := u.netMap.map fun e => stepEntry d ref s e k } := by
  intro u
  have hoffers : offerAll (stepOffers d ref s k) u =
      withListOf u (offerAll ((List.range (k + 1)).flatMap (stepOffers d ref s)) s) := by
    rw [List.range_succ, List.flatMap_append, offerAll_append, List.flatMap_singleton]
    exact offerAll_withListOf _ (u := u) (s := offerAll ((List.range k).flatMap (stepOffers d ref s)) s)
      ⟨by simp [u, classified, withListOf], by simp [u, classified, withListOf]⟩
  have hentries : (classified d ref s (k + 1)).netMap = u.netMap.map fun e => stepEntry d ref s e k := by
    simp only [u, classified, List.map_map, List.range_succ, List.foldl_append, List.foldl_cons, List.foldl_nil]
    rfl
  rw [hoffers, ← classified_points_succ, ← hentries]
  rfl

/-- The model's classification of the next local index (R70). -/
theorem classifyPoint_classified (d : Drive) (ref : Nat) {s : State} {k : Nat} (hk : k < s.points.length) :
    classifyPoint d ref (s.params.l, effectiveH s.params) k (classified d ref s k) = classified d ref s (k + 1) := by
  obtain ⟨-, hnet, hreading, hoffers⟩ := classified_next d ref hk
  have hpoint := classifyPoint_eq d ref (i := k) (s := classified d ref s k) (by simpa [classified] using hk)
  rw [hreading, hoffers, hnet] at hpoint
  refine hpoint.trans ((classified_succ d ref s k).trans ?_).symm
  cases hr : readingOf d ref s k with
  | none =>
      have hp : stepPoint d ref s k = id := funext fun p => by simp [stepPoint, hr]
      have he : (fun e => stepEntry d ref s e k) = id := funext fun e => by simp [stepEntry, hr]
      have ho : stepOffers d ref s k = [] := by simp [stepOffers, hr]
      rw [hp, he, ho, List.modify_id, List.map_id]
      rfl
  | some x =>
      have hp : stepPoint d ref s k = pointRead d (effNet s k) x := funext fun p => by simp [stepPoint, hr]
      have he : (fun e => stepEntry d ref s e k) = entryRead d (effNet s k) x := funext fun e => by simp [stepEntry, hr]
      have ho : stepOffers d ref s k = readingOffers d s k x := by simp [stepOffers, hr]
      rw [hp, he, ho]
      rfl

/-- Before the first local index the step has changed nothing. -/
theorem classified_zero (d : Drive) (ref : Nat) (s : State) : classified d ref s 0 = s := by
  have hp : (mapPoints (fun j p => if j < 0 then stepPoint d ref s j p else p) s).points = s.points := by
    simp only [mapPoints, Nat.not_lt_zero, if_false]
    exact List.zipIdx_map_fst _ _
  have he : (fun e => (List.range 0).foldl (stepEntry d ref s) e) = id := rfl
  rw [classified, hp, he, List.map_id]
  rfl

/-- The classification of a step as one change of the station (R70). -/
theorem classifyStep_eq (d : Drive) (ref : Nat) (s : State) :
    classifyStep d ref s = classified d ref s s.points.length := by
  have hfold : ∀ k ≤ s.points.length, (List.range k).foldl
      (fun u i => classifyPoint d ref (s.params.l, effectiveH s.params) i u) s = classified d ref s k := fun k => by
    induction k with
    | zero => exact fun _ => (classified_zero d ref s).symm
    | succ k ih =>
        intro hk
        rw [List.range_succ, List.foldl_append, ih (by omega)]
        exact classifyPoint_classified d ref (by omega)
  exact hfold _ le_rfl

/-! ## The bars of a step -/

/-- Whether a local index reads a class on a net other than the drive net (R106). -/
def hitBy (d : Drive) (ref : Nat) (s : State) (c : Class) (n : Nat) (js : List Nat) : Bool :=
  n != d.net && js.any fun j => effNet s j == n && (readingOf d ref s j).any fun x => x.2 == c

/-- A Net Map entry barred by a CONNECTED reading, a MARGINAL one, or both (R19). -/
def barredAs (short leak : Bool) (e : NetEntry) : NetEntry :=
  { e with
    state := if short || leak then .barred else e.state
    reason := if short then some .shorted else if leak && e.reason != some .shorted then some .leakage else e.reason }

/-- Bars placed in turn are the bar of both: SHORTED stands above LEAKAGE (R19). -/
theorem barredAs_barredAs (a b a' b' : Bool) (e : NetEntry) :
    barredAs a' b' (barredAs a b e) = barredAs (a || a') (b || b') e := by
  by_cases hr : e.reason = some .shorted
  · cases a <;> cases a' <;> cases b <;> simp [barredAs, hr]
  · cases a <;> cases a' <;> cases b <;> simp [barredAs, hr]

/-- The bar that a reading of another net places (R19, R106). -/
theorem barredBy_eq (n : Nat) (c : Class) (e : NetEntry) :
    barredBy n c e = barredAs (n == e.net && c == .connected) (n == e.net && c == .marginal) e := by
  by_cases he : e.net = n
  · have hb : (n == e.net) = true := by simp [he]
    rw [hb, barredBy]
    cases c with
    | connected => simp [barredAs, he]
    | marginal =>
        by_cases hr : e.reason = some .shorted
        · simp [barredAs, he, hr]
        · simp [barredAs, he, hr]
    | isolated => exact if_neg (by simp)
  · have hb : (n == e.net) = false := by simpa using Ne.symm he
    rw [hb, barredBy, if_neg fun k => he k.1]
    rfl

/-- The bar that one local index places (R19, R106). -/
theorem stepEntry_eq (d : Drive) (ref : Nat) (s : State) (e : NetEntry) (j : Nat) : stepEntry d ref s e j =
    barredAs (hitBy d ref s .connected e.net [j]) (hitBy d ref s .marginal e.net [j]) e := by
  unfold stepEntry
  cases hr : readingOf d ref s j with
  | none => simp [hitBy, hr, barredAs]
  | some x =>
      have hhit : ∀ c, hitBy d ref s c e.net [j] = (e.net != d.net && (effNet s j == e.net && x.2 == c)) :=
        fun c => by simp [hitBy, hr]
      rw [hhit, hhit, Option.elim_some, entryRead]
      by_cases hn : effNet s j = d.net
      · have hnone : ∀ b, (e.net != d.net && (effNet s j == e.net && b)) = false := fun b => by
          by_cases he : e.net = d.net
          · simp [he]
          · simp [hn, Ne.symm he]
        rw [if_pos hn, hnone, hnone]
        rfl
      · have hall : ∀ b, (e.net != d.net && (effNet s j == e.net && b)) = (effNet s j == e.net && b) := fun b => by
          by_cases he : e.net = d.net
          · simp [he, hn]
          · simp [he]
        rw [if_neg hn, hall, hall, barredBy_eq]

/-- The bars of a step (R19, R106): each entry is barred by what its net's points read. -/
theorem stepEntries_eq (d : Drive) (ref : Nat) (s : State) (js : List Nat) (e : NetEntry) :
    js.foldl (stepEntry d ref s) e =
      barredAs (hitBy d ref s .connected e.net js) (hitBy d ref s .marginal e.net js) e := by
  induction js generalizing e with
  | nil => simp [hitBy, barredAs]
  | cons j js ih =>
      have hcons : ∀ c, hitBy d ref s c e.net (j :: js) = (hitBy d ref s c e.net [j] || hitBy d ref s c e.net js) :=
        fun c => by simp [hitBy, Bool.and_or_distrib_left]
      rw [List.foldl_cons, ih, (stepEntry_key d ref s e j).1, stepEntry_eq, barredAs_barredAs, hcons, hcons]

/-! ## The step's REF -/

/-- A station at the step's REF, HOLD asserted for the classification (R71, R77, R102). -/
def refHeld (s : State) : State := { s with
  bus := { s.bus with slot := dropUnbegun servesRequest s.bus.slot }
  lines := { s.lines with holdOut := true, holdSeen := true }
  run := { s.run with
    sweepStage := .classifying
    timer := timerAtHold { s with run := { s.run with timer := { s.run.timer with mode := .stopped } } } } }

/-- The station at the start of the classification: the drive net's entry has its first leader (R20, R102). -/
def refLed (gp : Nat) (s : State) : State := updateNet s.run.driveNet (leadNet gp) (refHeld s)

/-- The step's REF (R102, R103): classified or weak, HOLD asserted and released. -/
theorem takeRef_eq (gp code : Nat) (weak : Bool) {s : State} (ha : runActive s = true) (ho : s.lines.holdOut = false) :
    takeRef gp code weak s = setSweepStage .stepReleased (releaseHold (if weak = true then
        (if drivenHere s = some gp then offer (.driveFault gp code) (refHeld s) else refHeld s)
      else classifyStep { gp := gp, net := s.run.driveNet } code (refLed gp s))) := by
  have hheld : assertHold (timerStop (setSweepStage .classifying s)) = refHeld s :=
    assertHold_eq (s := timerStop (setSweepStage .classifying s)) ha ho
  unfold takeRef
  simp only [hheld]
  rfl

/-- The step's REF at a station that awaits it (R102). -/
theorem exec_refFrame {r : Route} {gp : Half} (code : Half) (flags : Byte) {s : State} (ht : takesRunFrame r s = true)
    (hn : noFirstFrame s = true) (hw : s.run.state = .sweep) (hg : s.run.sweepStage = .awaitingRef)
    (hs : s.run.step = .point gp.toNat r.src.toNat) : exec (.refFrame r gp code flags) s = .next
      (takeRef gp.toNat code.toNat (flags.getLsbD 0) { s with bus := frameSeen (onRoute r (.ref gp code flags)) s }) :=
  congrArg Host.Outcome.next ((runFrame_taken _ _ ht hn).trans (if_pos ⟨hw, hg, hs⟩))

/-- The driver of a step is the station that sent its DRIVE, of a point of its own (R93). -/
theorem drivenHere_iff {s : State} {gp src : Nat} (hs : s.run.step = .point gp src) :
    drivenHere s = some gp ↔ src = addr s ∧ gp / 256 = addr s := by
  have howns : owns s gp = true ↔ gp / 256 = addr s := decide_eq_true_iff
  simp [drivenHere, hs, howns]

/-- The drive net's entry takes its leader, and no entry anything else (R20). -/
theorem ledEntry_eq (m gp : Nat) (e : NetEntry) : (if e.net = m then leadNet gp e else e) =
    { e with leader := if e.net = m ∧ e.leader = none then some gp else e.leader } := by
  obtain ⟨net, count, leader, state, reason⟩ := e
  by_cases hm : net = m
  · cases leader <;> simp [hm, leadNet]
  · simp [hm]

/-- After the drive net's entry has taken its leader, the drive is the net's first where the entry had no leader of another
drive (R20, R105). -/
theorem isLeaderDrive_led (m gp : Nat) (s : State) :
    isLeaderDrive (updateNet m (leadNet gp) s) { gp := gp, net := m } =
      (s.netMap.find? fun e => e.net == m).any fun e => e.leader.all (· == gp) := by
  let led (e : NetEntry) : NetEntry := if e.net = m then leadNet gp e else e
  have hkey : (fun e : NetEntry => e.net == m) ∘ led = fun e => e.net == m :=
    funext fun e => by simp [led, ledEntry_eq]
  have hentry : netEntry (updateNet m (leadNet gp) s) m = (s.netMap.find? fun e => e.net == m).map led :=
    List.find?_map.trans (by rw [hkey])
  unfold isLeaderDrive
  simp only [hentry]
  cases hf : s.netMap.find? fun e => e.net == m with
  | none => rfl
  | some e =>
      have hm : e.net = m := by simpa using List.find?_some hf
      cases hl : e.leader <;> simp [led, ledEntry_eq, hm, hl]

/-- HOLD released after the step's REF: the step completes at its barrier (R71, R103). -/
theorem refHeld_released {s : State} (ho : s.lines.holdOut = false) (v : State) :
    setSweepStage .stepReleased (releaseHold (withListOf (refHeld s) v)) = { s with
      bus := v.bus
      lines := { s.lines with holdSeen := true }
      run := { s.run with
        sweepStage := .stepReleased
        timer := timerAtHold { s with run := { s.run with timer := { s.run.timer with mode := .stopped } } } }
      defects := v.defects, decoder := v.decoder } := by
  let t := setSweepStage .stepReleased (releaseHold (withListOf (refHeld s) v))
  have hlines : t.lines = { s.lines with holdSeen := true } :=
    congrArg (fun b => { s.lines with holdOut := b, holdSeen := true }) ho.symm
  exact congrArg (fun l => { t with lines := l }) hlines

/-- The offer of a reading of another net names the lower net first (R106). -/
theorem otherNetOffer_minmax (d : Drive) (n : Nat) (c : Class) (r : Nat) : otherNetOffer d n c r =
    if c = .connected then some (.short (min n d.net) (max n d.net))
    else if c = .marginal then some (.leakage (min n d.net) (max n d.net) r) else none := by
  obtain ⟨hlo, hhi⟩ := min_max_nets n d.net
  rw [hlo, hhi]
  cases c <;> rfl

/-- The offers of a step's readings, in the words of the station before the frame (R105, R106). -/
theorem refOffers_eq (gp code : Nat) (s : State) (j : Nat) :
    stepOffers { gp := gp, net := s.run.driveNet } code (refLed gp s) j =
      (readingOf { gp := gp, net := s.run.driveNet } code s j).elim [] fun x =>
        if effNet s j = s.run.driveNet then sameNetOffers { gp := gp, net := s.run.driveNet }
          ((s.netMap.find? fun e => e.net == s.run.driveNet).any fun e => e.leader.all (· == gp))
          (gpOf s j) (pointAt s j).leader x
        else (otherNetOffer { gp := gp, net := s.run.driveNet } (effNet s j) x.2 x.1).toList := by
  have hfirst : isLeaderDrive (refLed gp s) { gp := gp, net := s.run.driveNet } = _ :=
    isLeaderDrive_led s.run.driveNet gp (refHeld s)
  have hoffers : readingOffers { gp := gp, net := s.run.driveNet } (refLed gp s) j = _ :=
    funext fun x => by rw [readingOffers, hfirst]
  exact congrArg ((readingOf { gp := gp, net := s.run.driveNet } code s j).elim []) hoffers

/-- The station after a strong REF (R102, R103): classified, HOLD released. -/
def refClassified (gp code : Nat) (s : State) : State :=
  setSweepStage .stepReleased
    (releaseHold (classified { gp := gp, net := s.run.driveNet } code (refLed gp s) s.points.length))

/-- A strong REF as one change of the station (R71, R77, R102, R103). -/
theorem refClassified_eq {s : State} (ho : s.lines.holdOut = false) (gp code : Nat) :
    let t := refClassified gp code s
    let u := offerAll ((List.range s.points.length).flatMap
        (stepOffers { gp := gp, net := s.run.driveNet } code (refLed gp s)))
      { s with bus := { s.bus with slot := dropUnbegun servesRequest s.bus.slot } }
    t = { s with
      bus := u.bus
      lines := { s.lines with holdSeen := true }
      run := { s.run with
        sweepStage := .stepReleased
        timer := timerAtHold { s with run := { s.run with timer := { s.run.timer with mode := .stopped } } } }
      points := t.points, netMap := t.netMap, defects := u.defects, decoder := u.decoder } := by
  intro t u
  have hlist : offerAll ((List.range s.points.length).flatMap
      (stepOffers { gp := gp, net := s.run.driveNet } code (refLed gp s))) (refLed gp s) = withListOf (refLed gp s) u :=
    offerAll_withListOf _ (u := refLed gp s)
      (s := { s with bus := { s.bus with slot := dropUnbegun servesRequest s.bus.slot } }) ⟨rfl, rfl⟩
  have ht : t = { setSweepStage .stepReleased (releaseHold (withListOf (refHeld s) u)) with
      points := t.points, netMap := t.netMap } :=
    congrArg (fun v => { setSweepStage .stepReleased (releaseHold (withListOf (refHeld s) v)) with
      points := t.points, netMap := t.netMap }) hlist
  rw [refHeld_released ho u] at ht
  exact ht

/-- The records after a strong REF (R70, R105). -/
theorem refClassified_points (gp code : Nat) (s : State) : eachPoint s (refClassified gp code s) fun j p =>
    (readingOf { gp := gp, net := s.run.driveNet } code s j).elim p fun x =>
      pointRead { gp := gp, net := s.run.driveNet } (effNet s j) x p := by
  let f (j : Nat) (p : Point) : Point :=
    if j < s.points.length then stepPoint { gp := gp, net := s.run.driveNet } code (refLed gp s) j p else p
  have hmap : (refClassified gp code s).points = (mapPoints f (refLed gp s)).points := rfl
  refine ⟨by rw [hmap, mapPoints_length]; rfl, fun j hj => ?_⟩
  exact (pointAt_congr hmap j).trans ((pointAt_mapPoints f (refLed gp s) j hj).trans (if_pos hj))

/-- The Net Map after a strong REF, entry by entry (R19, R20, R106). -/
theorem refClassified_netMap (gp code : Nat) (s : State) : (refClassified gp code s).netMap = s.netMap.map fun e =>
    let hit c := hitBy { gp := gp, net := s.run.driveNet } code s c e.net (List.range s.points.length)
    barredAs (hit .connected) (hit .marginal)
      { e with leader := if e.net = s.run.driveNet ∧ e.leader = none then some gp else e.leader } := by
  refine (List.map_map (l := s.netMap)).trans (List.map_congr_left fun e _ => ?_)
  simp only [Function.comp_apply]
  rw [stepEntries_eq, ledEntry_eq]
  rfl

/-- A weak REF as one change of the station (R66, R102, R103): the driver alone offers DRIVE_FAULT. -/
theorem takeRef_weak {s : State} {gp src : Nat} (code : Nat) (ha : runActive s = true) (ho : s.lines.holdOut = false)
    (hs : s.run.step = .point gp src) :
    let s1 : State := { s with bus := { s.bus with slot := dropUnbegun servesRequest s.bus.slot } }
    let u := if src = addr s ∧ gp / 256 = addr s then offer (.driveFault gp code) s1 else s1
    takeRef gp code true s = { s with
      bus := u.bus
      lines := { s.lines with holdSeen := true }
      run := { s.run with
        sweepStage := .stepReleased
        timer := timerAtHold { s with run := { s.run with timer := { s.run.timer with mode := .stopped } } } }
      defects := u.defects, decoder := u.decoder } := by
  intro s1 u
  have hu : (if drivenHere s = some gp then offer (.driveFault gp code) (refHeld s) else refHeld s) =
      withListOf (refHeld s) u := by
    by_cases hd : src = addr s ∧ gp / 256 = addr s
    · rw [if_pos ((drivenHere_iff hs).2 hd), show u = offer _ s1 from if_pos hd]
      exact offer_withListOf (.driveFault gp code) (u := refHeld s) (s := s1) ⟨rfl, rfl⟩
    · rw [if_neg fun k => hd ((drivenHere_iff hs).1 k), show u = s1 from if_neg hd]
      rfl
  rw [takeRef_eq gp code true ha ho, if_pos rfl, hu]
  exact refHeld_released ho u

/-- A strong REF (R102, R103): the step classified. -/
theorem takeRef_strong {s : State} (gp code : Nat) (ha : runActive s = true) (ho : s.lines.holdOut = false) :
    takeRef gp code false s = refClassified gp code s := by
  rw [takeRef_eq gp code false ha ho, if_neg (by decide), classifyStep_eq]
  rfl

/-- Settles O33: a strong REF by `refClassified`, in its offers, its records and its Net Map; a weak one by `takeRef_weak`. -/
theorem refIsTaken : Obligations.RefIsTaken := by
  refine ⟨fun r gp code flags s ht hn _ hw hg hs ho hf => ?_, fun r gp code flags s ht hn _ hw hg hs ho hf => ?_⟩
  · let w : State := { s with bus := frameSeen (onRoute r (.ref gp code flags)) s }
    rw [exec_refFrame code flags ht hn hw hg hs, hf, takeRef_strong (s := w) _ _ (by simp [w, runActive, hw]) ho]
    refine ⟨_, rfl, ?_⟩
    intro m reads first offers seen u
    have hreads : readingOf { gp := gp.toNat, net := w.run.driveNet } code.toNat w = reads := rfl
    refine ⟨?_, ?_, ?_, ?_⟩
    · have hoffers : offers = (List.range s.points.length).flatMap
          (stepOffers { gp := gp.toNat, net := m } code.toNat (refLed gp.toNat w)) := by
        rw [List.flatMap_def]
        refine congrArg List.flatten (List.map_congr_left fun j _ => Eq.trans ?_ (refOffers_eq gp.toNat code.toNat w j).symm)
        rw [hreads]
        cases reads j with
        | none => rfl
        | some x =>
            obtain ⟨x, c⟩ := x
            refine ite_congr rfl (fun _ => ?_) fun _ => ?_
            · cases c <;> rfl
            · rw [otherNetOffer_minmax]
              cases c <;> rfl
      have ht := refClassified_eq (s := w) ho gp.toNat code.toNat
      rw [← hoffers] at ht
      exact ht
    · obtain ⟨hlen, heach⟩ := refClassified_points gp.toNat code.toNat w
      refine ⟨hlen, fun j hj => (heach j hj).trans ?_⟩
      beta_reduce
      rw [hreads]
      cases reads j <;> rfl
    · refine (congrArg (List.map NetEntry.net) (refClassified_netMap gp.toNat code.toNat w)).trans ?_
      simp [barredAs, w]
    · intro k _ e he e' he' hit
      have hentry := congrArg (·[k]?) (refClassified_netMap gp.toNat code.toNat w)
      have hw' : w.netMap[k]? = some e := he
      simp only [List.getElem?_map, hw', Option.map_some] at hentry
      obtain rfl := Option.some.inj (hentry.symm.trans he')
      exact ⟨rfl, rfl, rfl, rfl⟩
  · let w : State := { s with bus := frameSeen (onRoute r (.ref gp code flags)) s }
    rw [exec_refFrame code flags ht hn hw hg hs, hf]
    exact ⟨_, congrArg Host.Outcome.next (takeRef_weak (s := w) code.toNat (by simp [w, runActive, hw]) ho hs), rfl⟩

end Sys2Proof.Machine
end

section
/-! The user profile and the profile in force (R121, R122, O7, O53). -/

namespace Sys2Proof.Machine

/-- A range that begins at 0 bounds a number from above alone. -/
theorem clamp_zero (hi n : Nat) : clamp 0 hi n = min hi n := Nat.zero_max _

/-! ## The user profile -/

/-- PROFILE SEGMENT taken as a general call (R122). -/
theorem exec_profileSegment {h : Header} {s : State} (index level : Byte) (duration : Half) (ht : takesGeneral h s = true)
    (hw : noFirstFrame s = true) : exec (.profileSegment h index level duration) s = .next
      (if s.straps.hvsrc = true ∧ index.toNat ≤ 15 then
        storeSegment index.toNat level.toNat duration.toNat { s with bus := heard s }
      else { s with bus := heard s }) := by
  have hk : (s.straps.hvsrc && decide (index.toNat < Config.segmentCount)) = true ↔
      s.straps.hvsrc = true ∧ index.toNat ≤ 15 := by
    simp [Config.segmentCount, Nat.lt_succ_iff]
  exact congrArg Host.Outcome.next ((request_general h 6 _ s ht hw).trans (if_congr hk rfl rfl))

/-- The user segments after one is stored: the one named clamped, every other as it was (R122). -/
theorem storeSegment_getElem? (index level duration : Nat) {s : State} {j : Nat} (hj : j < s.hv.segments.length) :
    (storeSegment index level duration s).hv.segments[j]? =
      if j = index then some { level := min 100 level, ms := min 10000 duration } else s.hv.segments[j]? := by
  have hset : (storeSegment index level duration s).hv.segments =
      s.hv.segments.set index { level := min 100 level, ms := min 10000 duration } := by
    rw [← clamp_zero 100, ← clamp_zero 10000]
    rfl
  rw [hset, List.getElem?_set]
  by_cases hi : j = index
  · subst hi
    simp [hj]
  · simp [hi, Ne.symm hi]

/-- PROFILE LENGTH taken as a general call (R122). -/
theorem exec_profileLength {h : Header} {s : State} (length : Byte) (ht : takesGeneral h s = true)
    (hw : noFirstFrame s = true) : exec (.profileLength h length) s = .next { s with
      bus := heard s
      hv := { s.hv with
        userLength := if s.straps.hvsrc = true then min 16 length.toNat else s.hv.userLength } } := by
  refine congrArg Host.Outcome.next ((request_general h 7 _ s ht hw).trans ?_)
  rw [← clamp_zero 16]
  by_cases hv : s.straps.hvsrc = true
  · exact (if_pos hv).trans (by rw [if_pos hv]; rfl)
  · exact (if_neg hv).trans (by rw [if_neg hv])

/-- Settles O7: the calls store clamped values at a station strapped HVSRC, and change the bus fields alone elsewhere. -/
theorem profileCallsStoreClamped : Obligations.ProfileCallsStoreClamped := by
  intro h s hw ht
  refine ⟨fun index level duration => ⟨_, exec_profileSegment index level duration ht hw, ?_⟩,
    fun length => ⟨_, exec_profileLength length ht hw, rfl⟩⟩
  by_cases hk : s.straps.hvsrc = true ∧ index.toNat ≤ 15
  · rw [if_pos hk]
    refine ⟨rfl, List.length_set, fun j hj => ?_⟩
    rw [storeSegment_getElem? _ _ _ (s := { s with bus := heard s }) hj]
    simp only [hk, and_true]
  · rw [if_neg hk]
    refine ⟨rfl, rfl, fun j _ => ?_⟩
    rw [if_neg fun k => hk k.2]

/-! ## The profile in force -/

/-- The final target is that of the last segment, and 0 where there is none (R121). -/
theorem finalTarget_eq (x : HvSettings) : finalTarget x = (x.segments.getLast?.map (segmentTarget x.volt)).getD 0 := by
  unfold finalTarget
  cases x.segments.getLast? <;> rfl

/-- Settles O53: each profile by its number, the user profile by its length, and the final target by the last segment. -/
theorem profileGivesItsSegments : Obligations.ProfileGivesItsSegments := by
  refine ⟨fun s => ⟨?_, ?_, ?_, ?_, ?_, ?_⟩, fun x g => ⟨rfl, fun hg => ?_⟩⟩
  iterate 4
    intro hp
    simp only [profileSegments, hp]
  · intro hp h0
    simp only [profileSegments, hp, h0, if_true]
  · intro hp h0
    simp only [profileSegments, hp, Nat.ne_of_gt h0, if_false]
  · rw [finalTarget_eq, hg]
    rfl

end Sys2Proof.Machine
end

section
/-! The HV interval of the Insulation Engine: the ramp, the check and the dwell, millisecond by millisecond (R121, R123 to R127,
O47, O48, O49). -/

namespace Sys2Proof.Machine

/-! ## A leakage sample -/

/-- The engine with a leakage sample taken (R124). -/
def sampled (sample : Half) (h : Hv) : Hv := { h with elapsed := h.elapsed + 1, lastSample := sample.toNat }

/-- A millisecond that judges its sample, where the rest of it changes the engine alone (R124). -/
theorem takeSample_eq (x : HvSettings) (sample : Half) (monitor : Code12) {rest : State → State} {f : Hv → Hv} {s : State}
    (hr : rest { s with hv := sampled sample s.hv } = { s with hv := f (sampled sample s.hv) }) :
    takeSample x sample.toNat monitor rest s = { s with hv := afterSample x sample monitor s.hv f } := by
  unfold afterSample
  by_cases ht : x.trip < sample.toNat
  · simp only [if_pos ht]
    exact if_pos ht
  · simp only [if_neg ht]
    exact (if_neg ht).trans hr

/-! ## The ramp -/

/-- The setpoint once a segment is over: the ramp through the others starts at its target (R123). -/
theorem rampSetpoint_after (volt p : Nat) (g : Segment) (rest : List Segment) (t : Nat) :
    rampSetpoint volt p (g :: rest) (g.ms + t) = rampSetpoint volt (segmentTarget volt g) rest t := by
  refine (if_pos (Nat.le_add_right _ _)).trans ?_
  rw [Nat.add_sub_cancel_left]

/-- The setpoint once the segments `pre` are over: the ramp through the others starts at the last target of `pre` (R123). -/
theorem rampSetpoint_append (volt : Nat) (pre post : List Segment) (p t : Nat) :
    rampSetpoint volt p (pre ++ post) ((pre.map Segment.ms).sum + t) =
      rampSetpoint volt ((pre.getLast?.map (segmentTarget volt)).getD p) post t := by
  induction pre generalizing p with
  | nil => simp
  | cons g pre ih =>
      have hlast : ((g :: pre).getLast?.map (segmentTarget volt)).getD p =
          (pre.getLast?.map (segmentTarget volt)).getD (segmentTarget volt g) := by
        rw [List.getLast?_cons]
        cases pre.getLast? <;> rfl
      have hsum : ((g :: pre).map Segment.ms).sum + t = g.ms + ((pre.map Segment.ms).sum + t) := by
        simp [Nat.add_assoc]
      rw [hlast, hsum]
      exact (rampSetpoint_after volt p g (pre ++ post) _).trans (ih _)

/-- A ramp begins at the voltage it starts from, unless its first segment has no duration (R123). -/
theorem rampSetpoint_zero (volt p : Nat) {segments : List Segment} (h : ∀ q ∈ segments.head?, 0 < q.ms) :
    rampSetpoint volt p segments 0 = p := by
  cases segments with
  | nil => rfl
  | cons g rest =>
      refine (if_neg (Nat.not_le.2 (h g rfl))).trans ?_
      simp

/-- The setpoint within a segment: the floor of its share of the way from the target before (R123). -/
theorem rampSetpoint_within (volt p : Nat) {g : Segment} (rest : List Segment) {t : Nat} (h : t < g.ms) :
    rampSetpoint volt p (g :: rest) t =
      if p ≤ segmentTarget volt g then p + (segmentTarget volt g - p) * t / g.ms
      else p - (p - segmentTarget volt g) * t / g.ms := if_neg (Nat.not_le.2 h)

/-- A millisecond of the ramp (R123, R124). -/
theorem exec_rampMillisecond {x : HvSettings} {s : State} (hg : s.hv.stage = .ramp) (hx : s.hv.settings = some x)
    (sample : Half) (monitor : Code12) : exec (.rampMillisecond sample monitor) s = .next
      (if s.hv.elapsed < rampLength x then
        { s with hv := afterSample x sample monitor s.hv fun h =>
          { h with setpoint := rampSetpoint x.volt 0 x.segments (s.hv.elapsed + 1) } }
      else s) := by
  have he : engineIn .ramp s = some x := engineIn_eq_some.2 ⟨hg, hx⟩
  show execRampMillisecond sample monitor s = _
  simp only [execRampMillisecond, he]
  rw [takeSample_eq x sample monitor
    (f := fun h => { h with setpoint := rampSetpoint x.volt 0 x.segments (s.hv.elapsed + 1) }) (rest := moveSetpoint x) rfl]

/-- The end of the ramp (R123). -/
theorem exec_rampEnd {x : HvSettings} {s : State} (hg : s.hv.stage = .ramp) (hx : s.hv.settings = some x) :
    exec .rampEnd s = .next
      (if rampLength x ≤ s.hv.elapsed then { s with hv := { s.hv with stage := .check } } else s) := by
  have he : engineIn .ramp s = some x := engineIn_eq_some.2 ⟨hg, hx⟩
  show execRampEnd s = _
  simp only [execRampEnd, he]
  rfl

/-- Settles O47: the ramp's commands by their equations, the setpoint by the segments that are over. -/
theorem rampMovesTheSetpoint : Obligations.RampMovesTheSetpoint := by
  refine ⟨fun x s hg hx => ⟨exec_rampMillisecond hg hx, exec_rampEnd hg hx⟩, ?_⟩
  intro volt t pre post g before p target
  refine ⟨fun _ ht => ?_, fun hpost => ?_, ?_⟩
  · exact (rampSetpoint_append volt pre (g :: post) 0 t).trans (rampSetpoint_within volt p post ht)
  · refine (rampSetpoint_append volt pre (g :: post) 0 g.ms).trans ?_
    exact (rampSetpoint_after volt p g post 0).trans (rampSetpoint_zero volt target hpost)
  · rw [Nat.add_assoc]
    exact (rampSetpoint_append volt pre [g] 0 (g.ms + t)).trans (rampSetpoint_after volt p g [] t)

/-! ## The check -/

/-- What a check reading makes of an engine in the check stage (R125). -/
def checkRead (x : HvSettings) (monitor : Code12) (h : Hv) : Hv :=
  { h with
    checkHigh := max h.checkHigh (volts monitor), checkNext := h.checkNext + 1
    stage := if 9 * finalTarget x / 10 ≤ volts monitor then .dwell else .check
    dwellStart := if 9 * finalTarget x / 10 ≤ volts monitor then h.elapsed else h.dwellStart }

/-- A check reading changes the engine alone (R125). -/
theorem checkMonitor_eq (x : HvSettings) (monitor : Code12) {s : State} (hg : s.hv.stage = .check) :
    checkMonitor x monitor s = { s with hv := checkRead x monitor s.hv } := by
  unfold checkRead
  by_cases hv : 9 * finalTarget x / 10 ≤ volts monitor
  · simp only [if_pos hv]
    exact if_pos hv
  · simp only [if_neg hv, ← hg]
    exact if_neg hv

/-- A check reading: the first falls in a millisecond that the ramp has judged, a later one judges its own (R124, R125). -/
theorem exec_checkReading {x : HvSettings} {s : State} (hg : s.hv.stage = .check) (hx : s.hv.settings = some x)
    (sample : Half) (monitor : Code12) : exec (.checkReading sample monitor) s = .next
      (if 50 < s.hv.checkNext then s
      else if s.hv.checkNext = 0 then { s with hv := checkRead x monitor s.hv }
      else { s with hv := afterSample x sample monitor s.hv (checkRead x monitor) }) := by
  have he : engineIn .check s = some x := engineIn_eq_some.2 ⟨hg, hx⟩
  show execCheckReading sample monitor s = _
  simp only [execCheckReading, he]
  rw [checkMonitor_eq x monitor hg, takeSample_eq x sample monitor (f := checkRead x monitor)
    (checkMonitor_eq x monitor (s := { s with hv := sampled sample s.hv }) hg)]
  rfl

/-- UNDERVOLT: the reading t = 50 was below the threshold (R125, R127). -/
theorem exec_undervolt {x : HvSettings} {s : State} (hg : s.hv.stage = .check) (hx : s.hv.settings = some x) :
    exec .undervolt s = .next
      (if 50 < s.hv.checkNext then
        { s with hv := dropped ⟨.undervolt, s.hv.checkHigh, s.hv.lastSample, irOf s.hv.checkHigh s.hv.lastSample,
          s.hv.elapsed⟩ s.hv }
      else s) := by
  have he : engineIn .check s = some x := engineIn_eq_some.2 ⟨hg, hx⟩
  show execUndervolt s = _
  simp only [execUndervolt, he]
  rfl

/-- Settles O48: a check reading by `checkRead`, whose threshold is of the final target. -/
theorem checkJudgesTheOutput : Obligations.CheckJudgesTheOutput := by
  intro x s hg hx target
  have htarget : target = finalTarget x := (finalTarget_eq x).symm
  refine ⟨fun sample monitor => ?_, exec_undervolt hg hx⟩
  rw [htarget]
  exact exec_checkReading hg hx sample monitor

/-! ## The dwell -/

/-- What a sample that is no breakdown makes of an engine in the dwell (R126). -/
def dwellSampled (x : HvSettings) (sample : Nat) (h : Hv) : Hv :=
  { h with
    window := appendSample x.w sample h.window
    peak := if x.peak = true ∧ (appendSample x.w sample h.window).length = x.w then
        some (max (h.peak.getD 0) (windowAverage (appendSample x.w sample h.window))) else h.peak }

/-- The greatest average: of none held before, the new one (R126). -/
theorem peakAfter_eq (held : Option Nat) (average : Nat) : peakAfter held average = some (max (held.getD 0) average) := by
  cases held
  · exact congrArg some (Nat.zero_max average).symm
  · rfl

/-- A dwell sample changes the engine alone (R126). -/
theorem dwellSample_eq (x : HvSettings) (sample : Nat) (s : State) :
    dwellSample x sample s = { s with hv := dwellSampled x sample s.hv } := by
  unfold dwellSampled
  rw [← peakAfter_eq]
  rfl

/-- A millisecond of the dwell (R124, R126). -/
theorem exec_dwellMillisecond {x : HvSettings} {s : State} (hg : s.hv.stage = .dwell) (hx : s.hv.settings = some x)
    (sample : Half) (monitor : Code12) : exec (.dwellMillisecond sample monitor) s = .next
      (if s.hv.dwellStart + x.dwell ≤ s.hv.elapsed then s
      else { s with hv := afterSample x sample monitor s.hv (dwellSampled x sample.toNat) }) := by
  have he : engineIn .dwell s = some x := engineIn_eq_some.2 ⟨hg, hx⟩
  show execDwellMillisecond sample monitor s = _
  simp only [execDwellMillisecond, he]
  rw [takeSample_eq x sample monitor (dwellSample_eq x sample.toNat { s with hv := sampled sample s.hv }), ← ite_not]
  exact congrArg Host.Outcome.next (if_congr Nat.not_lt rfl rfl)

/-- The end of the dwell: V, I, IR and the verdict (R126, R127). -/
theorem exec_dwellEnd {x : HvSettings} {s : State} (hg : s.hv.stage = .dwell) (hx : s.hv.settings = some x)
    (monitor : Code12) : exec (.dwellEnd monitor) s = .next
      (if s.hv.dwellStart + x.dwell ≤ s.hv.elapsed then
        { s with hv := dropped ⟨dwellVerdict x.irMin (irOf (volts monitor) (dwellCurrent x s)), volts monitor,
          dwellCurrent x s, irOf (volts monitor) (dwellCurrent x s), s.hv.elapsed⟩ s.hv }
      else s) := by
  have he : engineIn .dwell s = some x := engineIn_eq_some.2 ⟨hg, hx⟩
  show execDwellEnd monitor s = _
  simp only [execDwellEnd, he]
  rfl

/-- Settles O49: a dwell sample by `dwellSampled`, the end of the dwell by its equation. -/
theorem dwellMeasuresTheCurrent : Obligations.DwellMeasuresTheCurrent :=
  fun _ _ hg hx => ⟨exec_dwellMillisecond hg hx, exec_dwellEnd hg hx⟩

end Sys2Proof.Machine
end

section
/-! The discharge and the following stage of the Insulation Engine (R128, R129, O50). -/

namespace Sys2Proof.Machine

/-! ## The discharge -/

/-- The RESULT of a measured result, with the verdict it carries, in a step of the net `n` (R128, R130). -/
def resultBid (n : Nat) (v : Verdict) (m : HvResult) : Payload :=
  .result (half n) (byte (verdictCode v)) (half m.v) (half m.i) (wide m.ir) (wide m.ms)

/-- The RESULT queued at a station that may queue (R128, R130). -/
theorem queueResult_eq (v : Option Verdict) {s : State} {n : Nat} {m : HvResult} (hn : s.run.step = .net n)
    (hm : s.hv.result = some m) (hh : s.bus.held = false) (hs : s.bus.silent = false) :
    queueResult v s = withFrame 31 (resultBid n (v.getD m.verdict) m) s := by
  have hp : resultPayload s (v.getD m.verdict) m = resultBid n (v.getD m.verdict) m := by
    simp only [resultPayload, resultBid, stepNet, hn]
  simp only [queueResult, hm, hp]
  exact queue_puts _ _ s (by rw [hh, hs]; rfl)

/-- A frame queued stands in the slot (R43). -/
theorem withFrame_stands (dst : Addr) (p : Payload) (u : State) : standsQueued (ownFrame u dst p) (withFrame dst p u) := by
  obtain ⟨e, he, -, hs⟩ := putFrame_stands (ownFrame u dst p) u.bus.slot
  exact ⟨e, he, hs⟩

/-- A discharge reading (R128). -/
theorem exec_dischargeReading {s : State} {n : Nat} {m : HvResult} (hg : s.hv.stage = .discharge) (hn : s.run.step = .net n)
    (hm : s.hv.result = some m) (hh : s.bus.held = false) (hs : s.bus.silent = false) (monitor : Code12) :
    exec (.dischargeReading monitor) s = .next
      (if 2000 < s.hv.dischargeNext then s
      else if 76 < monitor.toNat then { s with hv := { s.hv with dischargeNext := s.hv.dischargeNext + 1 } }
      else withFrame 31 (resultBid n m.verdict m) { s with
        lines := { s.lines with liveOut := false }, hv := { s.hv with stage := .reporting } }) := by
  have hq := queueResult_eq none (s := setHv { s.hv with stage := .reporting } (releaseLive s)) hn hm hh hs
  have hk : s.hv.stage = .discharge ∧ s.hv.dischargeNext ≤ Config.dischargeLimit ↔ ¬ 2000 < s.hv.dischargeNext := by
    simp [hg, Config.dischargeLimit]
  show execDischargeReading monitor s = _
  rw [execDischargeReading, hq, if_congr hk rfl rfl, ite_not, ← ite_not (76 < monitor.toNat)]
  exact congrArg Host.Outcome.next (if_congr Iff.rfl rfl (if_congr Nat.not_lt.symm rfl rfl))

/-- DISCHARGE_FAULT: the reading t = 2000 still exceeded 76 (R128). -/
theorem exec_dischargeFault {s : State} {n : Nat} {m : HvResult} (hg : s.hv.stage = .discharge) (hn : s.run.step = .net n)
    (hm : s.hv.result = some m) (hh : s.bus.held = false) (hs : s.bus.silent = false) :
    exec .dischargeFault s = .next
      (if s.hv.dischargeNext ≤ 2000 then s
      else withFrame 31 (resultBid n .dischargeFault m) { s with hv := { s.hv with stage := .following } }) := by
  have hq := queueResult_eq (some .dischargeFault) (s := setHv { s.hv with stage := .following } s) hn hm hh hs
  have hk : s.hv.stage = .discharge ∧ Config.dischargeLimit < s.hv.dischargeNext ↔ ¬ s.hv.dischargeNext ≤ 2000 := by
    simp [hg, Config.dischargeLimit]
  show execDischargeFault s = _
  rw [execDischargeFault, hq, if_congr hk rfl rfl, ite_not]
  rfl

/-! ## The following stage -/

/-- LIVE asserted by a station whose asserted output is seen asserted (R53, R55, R77): a running step timer of an active run is
suspended where the line was released. -/
theorem assertLive_eq {s : State} (hl : s.lines.liveOut = true → s.lines.liveSeen = true) : assertLive s = { s with
    lines := { s.lines with liveOut := true, liveSeen := true }
    run := { s.run with timer := { s.run.timer with
      mode := if s.lines.liveSeen = false ∧ runActive s = true ∧ s.run.timer.mode = .running then .suspended false
        else s.run.timer.mode } } } := by
  cases hs : s.lines.liveSeen
  · have ho : s.lines.liveOut = false := Bool.eq_false_iff.2 fun k => Bool.noConfusion (hs.symm.trans (hl k))
    have hr : assertLive s = liveRises { s with lines := { s.lines with liveOut := true } } := by
      simp [assertLive, ho, hs]
    rw [hr]
    unfold liveRises
    simp only
    split
    · rename_i ha hm
      rw [if_pos ⟨trivial, ha, hm⟩]
      rfl
    · rename_i hn
      rw [if_neg fun k => hn k.2.1 k.2.2]
  · have hr : assertLive s = { s with lines := { s.lines with liveOut := true } } := by
      cases ho : s.lines.liveOut
      · simp [assertLive, ho, hs]
      · rw [← ho]
        exact if_pos ho
    rw [hr, ← hs, if_neg fun k => by simp [hs] at k]

/-- A reading of the following stage (R129; log entry 18). -/
theorem exec_followingReading {s : State} (hg : s.hv.stage = .following) (hv : s.straps.hvsrc = true) (monitor : Code12) :
    exec (.followingReading monitor) s = .next
      (if 76 < monitor.toNat then (if 24 ≤ addr s ∨ s.bus.silent = true then s else assertLive s)
      else { s with hv := { s.hv with stage := .quiet }, lines := { s.lines with liveOut := false } }) := by
  have hm : mayAssertLive s = true ↔ ¬ (24 ≤ addr s ∨ s.bus.silent = true) := by
    have hf : strapFault s = decide (24 ≤ addr s) := rfl
    simp [mayAssertLive, hf]
  show execFollowingReading monitor s = _
  rw [execFollowingReading, if_pos ⟨hv, hg⟩, if_congr hm rfl rfl, ite_not]
  rfl

/-- Settles O50: the discharge's commands queue the RESULT, which stands in the slot; in the following stage LIVE follows the
readings where the station may assert it. -/
theorem dischargeReleasesLive : Obligations.DischargeReleasesLive := by
  refine ⟨fun s n m hg hn hm hh hs => ⟨fun monitor => ⟨_, exec_dischargeReading hg hn hm hh hs monitor, ?_⟩,
    ⟨_, exec_dischargeFault hg hn hm hh hs, ?_⟩⟩, fun monitor s hg hv => ⟨fun hc => ?_, fun hc hl => ?_⟩⟩
  · by_cases hend : 2000 < s.hv.dischargeNext
    · rw [if_pos hend, if_pos hend]
    rw [if_neg hend, if_neg hend]
    by_cases hc : 76 < monitor.toNat
    · rw [if_pos hc, if_pos hc]
    rw [if_neg hc, if_neg hc]
    exact ⟨rfl, withFrame_stands 31 _ _⟩
  · by_cases hend : s.hv.dischargeNext ≤ 2000
    · rw [if_pos hend, if_pos hend]
    rw [if_neg hend, if_neg hend]
    exact ⟨rfl, withFrame_stands 31 _ _⟩
  · rw [exec_followingReading hg hv, if_neg (Nat.not_lt.2 hc)]
  · refine ⟨_, exec_followingReading hg hv monitor, ?_⟩
    rw [if_pos hc]
    by_cases hq : 24 ≤ addr s ∨ s.bus.silent = true
    · rw [if_pos hq, if_pos hq]
    rw [if_neg hq, if_neg hq]
    exact assertLive_eq fun k => (((linesLawful_iff s).1 hl).2 k).1

end Sys2Proof.Machine
end

section
/-! Run frames that the run state and the stage do not call for (R88, R102, R112, R132, O35). -/

namespace Sys2Proof.Machine

/-- A RESULT that the step does not call for, or that is not the step's, at a station that is not its source (R112, R132). -/
theorem exec_resultFrame_uncalled {r : Route} {net : Half} {s : State} (verdict : Byte) (v i : Half) (ir ms : Wide)
    (ht : takesRunFrame r s = true) (hw : noFirstFrame s = true)
    (hn : ¬ (s.run.state = .insulate ∧ s.run.step = .net net.toNat ∧ s.run.elected = some r.src.toNat
      ∧ (s.run.insStage = .awaitingResult ∨ s.run.insStage = .hvInterval))) :
    exec (.resultFrame r net verdict v i ir ms) s =
      .next { s with bus := frameSeen (onRoute r (.result net verdict v i ir ms)) s } := by
  refine congrArg Host.Outcome.next ((runFrame_taken _ _ ht hw).trans ?_)
  by_cases hk : s.run.state = .insulate ∧ s.run.step = .net net.toNat ∧ s.run.elected = some r.src.toNat
  · obtain ⟨hi, hstep, hsource⟩ := hk
    refine (if_pos ⟨hi, hstep, hsource⟩).trans ?_
    split
    next hg => exact absurd ⟨hi, hstep, hsource, .inl hg⟩ hn
    next hg _ => exact absurd ⟨hi, hstep, hsource, .inr hg⟩ hn
    next => rfl
  · exact if_neg hk

/-- Settles O35: the frame is taken, and its effect is none where the state and the stage do not call for it. -/
theorem uncalledRunFramesDisregarded : Obligations.UncalledRunFramesDisregarded := by
  refine fun r s ht hw => ⟨fun gp code flags hn => ?_, fun net verdict v i ir ms hn => ?_, fun run hn => ?_,
    fun gp watch hn => ?_⟩
  · exact congrArg Host.Outcome.next ((runFrame_taken _ _ ht hw).trans (if_neg hn))
  · exact exec_resultFrame_uncalled verdict v i ir ms ht hw hn
  · exact congrArg Host.Outcome.next ((runFrame_taken _ _ ht hw).trans (if_neg hn))
  · have hk : ¬ (s.run.state = .sweep ∨ s.run.state = .prepare) := by
      rintro (h | h) <;> rcases hn with ha | hi <;> simp_all [runActive]
    exact congrArg Host.Outcome.next ((runFrame_taken _ _ ht hw).trans (if_neg hk))

end Sys2Proof.Machine
end

section
/-! HOLD seen released in the insulation check (R77, R118, R119, R132, R133), and where it completes nothing (R53, R54, R77)
(O24). -/

namespace Sys2Proof.Machine

/-! ## The HV interval -/

/-- A timer that runs unless LIVE is seen asserted is suspended where LIVE is asserted in an active run (R77). -/
theorem suspended_of_live (live : Bool) {active : Bool} (ha : active = true) :
    (if live = false ∧ active = true ∧ (if live then TimerMode.suspended false else .running) = .running then .suspended false
      else if live then .suspended false else .running) = TimerMode.suspended false := by
  subst ha
  cases live <;> rfl

/-- The HV interval opened at the elected source (R118, R119): its engine started, HOLD and LIVE asserted. HOLD rises and restarts
the step timer, which LIVE suspends at elapsed 0 (R77). -/
theorem hvIntervalStart_eq {s : State} (ha : runActive s = true) (ho : s.lines.holdOut = false)
    (hs : s.lines.holdSeen = false) (hl : s.lines.liveOut = true → s.lines.liveSeen = true) (he : s.hv.elected = true) :
    hvIntervalStart s = { s with
      bus := { s.bus with slot := dropUnbegun servesRequest s.bus.slot }
      lines := { s.lines with holdOut := true, holdSeen := true, liveOut := true, liveSeen := true }
      run := { s.run with
        insStage := .hvInterval, timer := { mode := .suspended false, elapsed := 0, limit := s.params.stepLimit } }
      hv := (startEngine s).hv } := by
  let w := startEngine (setInsStage .hvInterval s)
  have htimer : timerAtHold w = { mode := if s.lines.liveSeen then .suspended false else .running, elapsed := 0
                                  limit := s.params.stepLimit } := if_neg (by rw [show w.lines = s.lines from rfl, hs]; decide)
  have hhold : hvIntervalStart s = assertLive (assertHold w) := if_pos he
  refine (hhold.trans (congrArg assertLive (assertHold_eq (s := w) ha ho))).trans ((assertLive_eq (by exact hl)).trans ?_)
  rw [htimer]
  exact congrArg (fun m => { s with
    bus := { s.bus with slot := dropUnbegun servesRequest s.bus.slot }
    lines := { s.lines with holdOut := true, holdSeen := true, liveOut := true, liveSeen := true }
    run := { s.run with insStage := .hvInterval, timer := { mode := m, elapsed := 0, limit := s.params.stepLimit } }
    hv := (startEngine s).hv }) (suspended_of_live s.lines.liveSeen ha)

/-! ## The completion of a step -/

/-- A completed step: the timer stopped, the completion marked, the next NET bid (R56, R114, R132, R133). -/
theorem insStepCompletes (busy : Bool) {s : State} (hh : s.bus.held = false) (hs : s.bus.silent = false) :
    bidNet (setInsStage .bidding (markStep busy (timerStop s))) = { s with
      run := { s.run with insStage := .bidding, timer := { s.run.timer with mode := .stopped } }
      bus := busBidding (netBid s) busy s } :=
  bidNet_eq (s := setInsStage .bidding (markStep busy (timerStop s))) hh hs

/-- A step without result requests every point to FLOAT, in a batch whose report no stage awaits (R133). -/
theorem stepWithoutResult_eq (busy : Bool) {s : State} (h : RunSound s) (hg : s.run.insStage = .awaitingResult) :
    let t := stepWithoutResult busy s
    t = { s with
      run := { s.run with insStage := .bidding, timer := { s.run.timer with mode := .stopped } }
      bus := busBidding (netBid s) busy s, points := t.points
      matrix := { s.matrix with batches := t.matrix.batches } } ∧
    eachPoint s t (fun _ p => requestedTo s .float p) := by
  have hw : s.run.state = .insulate := h.ins (by rw [hg]; decide)
  obtain ⟨hh, hs⟩ := h.activeFree (show runActive s = true by simp [runActive, hw])
  have hn : awaited s = none := by rw [awaited_insulate h (by rw [hg]; decide), hg]; rfl
  have heach := floatAll_requests .noResult s
  obtain ⟨points, batches, hb⟩ : ∃ points batches, floatAll .noResult s =
      { s with points := points, matrix := { s.matrix with batches := batches } } :=
    ⟨_, _, (batch_unheard .noResult (everyPoint s .float) h hn).trans (requested_eq _ _ _)⟩
  rw [hb] at heach
  have ht : stepWithoutResult busy s = _ := insStepCompletes busy (s := floatAll .noResult s) (by simp [hh]) (by simp [hs])
  rw [ht, hb]
  exact ⟨rfl, heach⟩

/-! ## Where nothing completes -/

/-- Outside an active run a release of HOLD completes nothing. -/
theorem barrierEnd_inactive (busy : Bool) {s : State} (h : runActive s = false) : barrierEnd busy s = s := by
  cases hs : s.run.state <;> simp [runActive, hs] at h
  all_goals simp only [barrierEnd, hs]

/-- In a stage that no release of HOLD ends, it stops the step timer and completes nothing (R77). -/
theorem barrierEnd_stops (busy : Bool) {s : State}
    (h : (s.run.state = .sweep ∧ s.run.sweepStage ≠ .driveReleased ∧ s.run.sweepStage ≠ .stepReleased
        ∧ s.run.sweepStage ≠ .endReleased) ∨
      (s.run.state = .insulate ∧ s.run.insStage ≠ .switched ∧ s.run.insStage ≠ .awaitingResult
        ∧ s.run.insStage ≠ .restored)) : barrierEnd busy s = timerStop s := by
  rcases h with ⟨hw, hdrive, hstep, hend⟩ | ⟨hw, hswitched, hawaits, hrestored⟩
  · simp only [barrierEnd, hw]
  · simp only [barrierEnd, hw]

/-- While the station asserts HOLD, or the line stands released, no release is seen (R53; log entry 3). -/
theorem exec_holdSeenReleased_ignored (busy : Bool) {s : State} (h : s.lines.holdSeen = false ∨ s.lines.holdOut = true) :
    exec (.holdSeenReleased busy) s = .next s := by
  refine congrArg Host.Outcome.next (if_neg ?_)
  rcases h with h | h <;> simp [h]

/-! ## The statement -/

/-- Settles O24: each stage of the insulation check by what its barrier completes; elsewhere the timer stops, or nothing
happens. -/
theorem insulationBarriersEnd : Obligations.InsulationBarriersEnd := by
  refine ⟨fun busy s hseen hout hl hlines hw => ?_, fun busy s => ⟨fun hseen hout ha => ?_, fun hseen hout hg => ?_,
    exec_holdSeenReleased_ignored busy⟩⟩
  · have hr := (runLawful_iff s).1 hl
    have ha : runActive s = true := by simp [runActive, hw]
    obtain ⟨hh, hs⟩ := hr.activeFree ha
    let u : State := { s with lines := { s.lines with holdSeen := false } }
    have hu : RunSound u := hr.congr ⟨rfl, rfl, rfl, rfl, rfl, rfl, rfl, rfl, fun _ => id⟩
    have hswitched : s.run.insStage = .switched → barrierEnd busy u = hvIntervalStart (timerRestart .running u) :=
      fun hg => by simp only [barrierEnd, u, hw, hg]
    rw [exec_holdSeenReleased busy hseen hout]
    refine ⟨fun hg he => ?_, fun hg he => ⟨_, rfl, ?_⟩, fun hg => ?_, fun hg => ⟨_, rfl, ?_⟩⟩
    · rw [hswitched hg]
      exact congrArg Host.Outcome.next (if_neg (by simp [timerRestart, setTimer, u, he]))
    · rw [hswitched hg]
      exact hvIntervalStart_eq (s := timerRestart .running u) ha hout rfl
        (fun k => (((linesLawful_iff s).1 hlines).2 k).1) he
    · have hx : barrierEnd busy u = insStepComplete busy u := by simp only [barrierEnd, u, hw, hg]
      rw [hx]
      exact congrArg Host.Outcome.next (insStepCompletes busy (s := u) hh hs)
    · have hx : barrierEnd busy u = stepWithoutResult busy u := by simp only [barrierEnd, u, hw, hg]
      rw [hx]
      exact stepWithoutResult_eq busy hu hg
  · rw [exec_holdSeenReleased busy hseen hout,
      barrierEnd_inactive busy (s := { s with lines := { s.lines with holdSeen := false } }) ha]
  · rw [exec_holdSeenReleased busy hseen hout,
      barrierEnd_stops busy (s := { s with lines := { s.lines with holdSeen := false } }) hg]
    rfl

end Sys2Proof.Machine
end

section
/-! SUPPORT. The batches of an insulation step and their reports (R28, R117, R132). -/

namespace Sys2Proof.Machine

/-- A batch of every point that an insulation stage awaits, the only one of its purpose: its report releases HOLD and enters the
stage `g`, at once where every point is at rest (R28, R117, R132). -/
theorem insBatch_leads {q : Purpose} {g : InsStage} {targets : List (Nat × Switch)} {s : State} (h : RunSound s)
    (hq : awaited s = some q) (hall : targets.map Prod.fst = List.range s.points.length) (hf : floatHoldLawful s = true)
    (hb : ∀ b ∈ s.matrix.batches, b.purpose ≠ q)
    (hr : report (requested q targets s) q = setInsStage g (releaseHold (requested q targets s))) :
    let t := batch q targets s
    t = { s with
      lines := { s.lines with holdOut := s.lines.holdOut && !allAtRest t }
      run := { s.run with insStage := if allAtRest t = true then g else s.run.insStage }, points := t.points
      matrix := { s.matrix with batches := t.matrix.batches } } := by
  intro t
  have ht : t = if allAtRest t = true then _ else _ := batch_awaited_all h hq hall hf hb
  rw [hr, requested_eq] at ht
  by_cases hrest : allAtRest t = true
  · rw [if_pos hrest] at ht
    simp only [hrest, if_true, Bool.not_true, Bool.and_false]
    exact ht
  · rw [if_neg hrest] at ht
    simp only [Bool.eq_false_iff.2 hrest, Bool.false_eq_true, if_false, Bool.not_false, Bool.and_true]
    exact ht

end Sys2Proof.Machine
end

section
/-! The NET that opens an insulation step (R20, R48, R77, R114, R116, R117, O36). -/

namespace Sys2Proof.Machine

/-- A NET taken in the bidding stage opens the step, also as the first frame of a bid window (R115, R116): vetoed where another
station drives VETO, or this one. -/
theorem exec_netFrame {r : Route} {s : State} (n : Half) (othersVeto : Bool) (ht : takesRunFrame r s = true)
    (hw : s.run.state = .insulate) (hg : s.run.insStage = .bidding) : exec (.netFrame r n othersVeto) s = .next
      (openInsStep n.toNat (othersVeto || drivesVeto s n.toNat) { s with bus := frameSeen (onRoute r (.net n)) s }) := by
  simp only [takesRunFrame, takesFrames, Bool.and_eq_true] at ht
  obtain ⟨⟨hl, -⟩, hr⟩ := ht
  let u : State := { s with bus := frameSeen (onRoute r (.net n)) s }
  let t := openInsStep n.toNat (othersVeto || drivesVeto s n.toNat) u
  have hfirst : firstFrame 4 t = t := if_pos (.inr ⟨by simp [openInsStep_state, t, u, hw], rfl⟩)
  refine congrArg Host.Outcome.next ((frameEnd_listening _ _ hl).trans ?_)
  refine (congrArg (fun x => if isCandidate s then firstFrame 4 x else x) ((if_pos hr).trans (if_pos ⟨hw, hg⟩))).trans ?_
  exact (congrArg (fun x => if isCandidate s then x else t) hfirst).trans (ite_self t)

/-! ## A vetoed step -/

/-- A vetoed step (R20, R48, R114, R116): its entry VETOED, the completion marked, and the next bid. -/
theorem openInsStep_vetoed (n : Nat) {s : State} (hh : s.bus.held = false) (hs : s.bus.silent = false)
    (hn : noneBegun s.bus.slot) :
    let t := openInsStep n true s
    t = { s with
      bus := { s.bus with
        window := .running false
        slot := withBid (netBid t) { s with bus := { s.bus with slot := s.bus.slot.filter fun e => entryKind e != 4 } } }
      run := { s.run with step := .net n }
      netMap := s.netMap.map fun e => if e.net = n then { e with state := .vetoed } else e } := by
  let w := updateNet n vetoNet (setSlot (s.bus.slot.filter fun e => entryKind e != 4) (setRun { s.run with step := .net n } s))
  have hopen : openInsStep n true s = bidNet (markStep false w) := by
    unfold openInsStep
    rw [withdraw_noneBegun (s := setRun { s.run with step := .net n } s) hn]
    rfl
  have hbegun : w.bus.slot.any TxEntry.begun = false :=
    List.any_eq_false.2 fun e he => by simp [hn e (List.mem_of_mem_filter he)]
  have hmark : markStep false w = setWindow (.running false) w := by rw [markStep, hbegun]; rfl
  have hbid := bidNet_eq (s := setWindow (.running false) w) hh hs
  intro t
  have ht : t = setSlot (withBid (netBid w) w) (setWindow (.running false) w) := hopen.trans (hmark ▸ hbid)
  have hnet : netBid t = netBid w := by rw [ht]; rfl
  rw [hnet]
  exact ht

/-! ## A step that is switched -/

/-- The station in the switching stage of a step (R116, R117): its bid withdrawn, HOLD asserted. -/
def insStepOpened (n : Nat) (s : State) : State := { s with
  bus := { s.bus with slot := dropUnbegun servesRequest (s.bus.slot.filter fun e => entryKind e != 4) }
  lines := { s.lines with holdOut := true, holdSeen := true }
  run := { s.run with step := .net n, insStage := .switching, timer := timerAtHold s } }

/-- A NET without a VETO: every point requested to its target (R116, R117). -/
theorem openInsStep_eq (n : Nat) {s : State} (ha : runActive s = true) (ho : s.lines.holdOut = false)
    (hn : noneBegun s.bus.slot) : openInsStep n false s =
      batch .switching (targetsBy (insStepOpened n s) (switchingTarget s n)) (insStepOpened n s) := by
  let w := setRun { s.run with step := .net n } s
  have hopen : setInsStage .switching (assertHold (withdraw 4 w)) = insStepOpened n s := by
    rw [withdraw_noneBegun (s := w) hn, assertHold_eq (s := setSlot _ w) ha ho]
    rfl
  unfold openInsStep
  simp only [Bool.false_eq_true, if_false]
  rw [hopen]
  rfl

/-- A step opened in a sound run leaves it sound, in the stage that awaits the switching batch (R117). -/
theorem insStepOpened_sound {s : State} (h : RunSound s) (hw : s.run.state = .insulate) (n : Nat) :
    RunSound (insStepOpened n s) ∧ awaited (insStepOpened n s) = some .switching := by
  have ha : runActive (insStepOpened n s) = true := by simp [insStepOpened, runActive, hw]
  have hs : RunSound (insStepOpened n s) :=
    ⟨h.sweep, fun _ => hw, fun k => absurd (ha.symm.trans k) (by decide), h.halt, h.job, h.summary, h.held, h.silent⟩
  exact ⟨hs, awaited_insulate hs (by simp [insStepOpened])⟩

/-- A step opened without a VETO as one change of the station (R116, R117). -/
theorem openInsStep_switches (n : Nat) {s : State} (h : RunSound s) (hw : s.run.state = .insulate)
    (ho : s.lines.holdOut = false) (hn : noneBegun s.bus.slot) (hf : floatHoldLawful s = true)
    (hb : ∀ b ∈ s.matrix.batches, b.purpose ≠ .switching) :
    let t := openInsStep n false s
    t = { s with
      bus := { s.bus with slot := dropUnbegun servesRequest (s.bus.slot.filter fun e => entryKind e != 4) }
      lines := { s.lines with holdOut := !allAtRest t, holdSeen := true }
      run := { s.run with
        step := .net n, insStage := if allAtRest t = true then .switched else .switching, timer := timerAtHold s }
      points := t.points, matrix := { s.matrix with batches := t.matrix.batches } } ∧
    eachPoint s t (fun j p => requestedTo s
      (if sensable s j p = false then .float else if effNet s j = n then .hv else .ret) p) := by
  obtain ⟨hsound, hawaits⟩ := insStepOpened_sound h hw n
  intro t
  have ht : t = batch .switching (targetsBy (insStepOpened n s) (switchingTarget s n)) (insStepOpened n s) :=
    openInsStep_eq n (by simp [runActive, hw]) ho hn
  obtain ⟨hlen, heach⟩ := batch_by_requests .switching (switchingTarget s n) (insStepOpened n s)
  have hleads := insBatch_leads (g := .switched) hsound hawaits (targetsBy_indices _ (switchingTarget s n)) hf hb
    (if_pos (by rw [requested_eq]; rfl))
  rw [← ht] at hlen heach hleads
  refine ⟨hleads, hlen, fun j hj => (heach j hj).trans ?_⟩
  have htarget : switchingTarget s n j (pointAt s j) =
      if sensable s j (pointAt s j) = false then .float else if effNet s j = n then .hv else .ret := by
    unfold switchingTarget
    cases sensable s j (pointAt s j) <;> rfl
  exact (congrArg (fun x => requestedTo _ x (pointAt s j)) htarget).trans
    (requestedTo_congr (s := s) rfl rfl rfl rfl _ _)

/-- Settles O36: a NET of the bidding stage opens the step, vetoed or switched; elsewhere it does nothing. -/
theorem netOpensTheInsulationStep : Obligations.NetOpensTheInsulationStep := by
  refine ⟨fun r n othersVeto s ht hl => ⟨fun ⟨hw, hg⟩ hveto => ?_, fun hk hwin => ?_⟩,
    fun r n s ht hl hf _ _ hb hw hg ho hveto => ?_⟩
  · let u : State := { s with bus := frameSeen (onRoute r (.net n)) s }
    obtain ⟨hh, hs⟩ := ((runLawful_iff s).1 hl).activeFree (show runActive s = true by simp [runActive, hw])
    have hv : (othersVeto || drivesVeto s n.toNat) = true := Bool.or_eq_true_iff.2 hveto
    rw [exec_netFrame n othersVeto ht hw hg, hv]
    exact ⟨_, rfl, openInsStep_vetoed n.toNat (s := u) (by simp [u, hh]) (by simp [u, hs]) (frameSeen_noneBegun _ s)⟩
  · exact congrArg Host.Outcome.next ((runFrame_taken _ _ ht hwin).trans (if_neg hk))
  · let u : State := { s with bus := frameSeen (onRoute r (.net n)) s }
    have hr : RunSound u := ((runLawful_iff s).1 hl).congr (frameSeen_sameRun _ s)
    have hfloat : floatHoldLawful u = true := by simpa [floatHoldLawful, heldAtFloat, u] using hf
    rw [exec_netFrame n false ht hw hg, hveto]
    exact ⟨_, rfl, openInsStep_switches n.toNat (s := u) hr hw ho (frameSeen_noneBegun _ s) hfloat hb⟩

end Sys2Proof.Machine
end

section
/-! SUPPORT. What an offer leaves of the transmit slot (R141, R179), and the pause of the delayed-request service while the
station asserts HOLD (R174). -/

namespace Sys2Proof.Machine

/-- An offer changes no entry but the NOTICE (R141, R179). -/
theorem offer_sameBut (d : Defect) (s : State) : sameBut 13 (offer d s).bus.slot s.bus.slot := by
  rcases offer_outcomes d s with h | ⟨lo, hi, -, -, -, h⟩ | ⟨-, h⟩ <;> rw [h]
  · exact .refl _ _
  · exact .refl _ _
  · unfold storeOffer
    split
    · exact .refl _ _
    · exact raise_sameBut .listFull (setDefects _ s)

/-- No entry of the slot belongs to the service of a delayed request (R174). -/
def servesNone (slot : List TxEntry) : Prop := ∀ e ∈ slot, servesRequest e = false

/-- A withdrawal finds nothing in a slot without entries of its sort. -/
theorem dropUnbegun_servesNone {slot : List TxEntry} (h : servesNone slot) : dropUnbegun servesRequest slot = slot := by
  refine (List.filterMap_congr fun e he => ?_).trans List.filterMap_some
  rw [h e he]
  rfl

/-- While the station asserts HOLD, its delayed-request service stands paused after a clean frame end (R42, R174). -/
theorem frameSeen_servesNone (f : Frame) {s : State} (ho : s.lines.holdOut = true) : servesNone (frameSeen f s).slot := by
  have hpaused : ∀ u : State, u.lines.holdOut = true → servesNone (notSent u).bus.slot := fun u hu e he => by
    have hslot : (notSent u).bus.slot = dropUnbegun servesRequest (u.bus.slot.filterMap afterLoss) :=
      congrArg (fun x : State => x.bus.slot) (if_pos hu)
    have hnone : noneBegun (u.bus.slot.filterMap afterLoss) := fun y hy => by
      obtain ⟨x, -, hx⟩ := List.mem_filterMap.1 hy
      exact afterLoss_unbegun hx
    exact ((mem_dropUnbegun_iff hnone _ e).1 (hslot ▸ he)).2
  refine hpaused _ ?_
  split <;> exact ho

/-- A change of the NOTICE alone leaves the service paused (R174, R179). -/
theorem servesNone.sameBut {a b : List TxEntry} (h : servesNone b) (hab : sameBut 13 a b) : servesNone a := by
  intro e he
  cases hs : servesRequest e
  · rfl
  · have hk : entryKind e ≠ 13 := by rcases servesRequest_kind hs with k | k <;> rw [k] <;> decide
    exact hs.symm.trans (h e ((hab e hk).1 he))

/-- HOLD asserted, or asserted already: the service stands paused, and a line that was released rises (R53, R77, R174). -/
theorem assertHold_held {s : State} (ha : runActive s = true) (hs : s.lines.holdOut = true → s.lines.holdSeen = true)
    (hn : s.lines.holdOut = true → servesNone s.bus.slot) : assertHold s = { s with
      bus := { s.bus with slot := dropUnbegun servesRequest s.bus.slot }
      lines := { s.lines with holdOut := true, holdSeen := true }
      run := { s.run with timer := if s.lines.holdOut = true then s.run.timer else timerAtHold s } } := by
  cases ho : s.lines.holdOut
  · exact assertHold_eq ha ho
  · have hsame : assertHold s = s := if_pos ho
    have hlines := assertHold_lines s hs
    rw [hsame] at hlines
    rw [hsame, dropUnbegun_servesNone (hn ho), if_pos rfl, ← hlines]

end Sys2Proof.Machine
end

section
/-! The RESULT of an insulation step (R20, R28, R77, R83, R84, R87, R131, R132, O37). -/

namespace Sys2Proof.Machine

/-! ## The source's record -/

/-- The record of a measured result in a step of the net `n` (R131). -/
def measuredRecord (n : Nat) (h : Hv) : Option Defect :=
  h.result.bind fun m =>
    match m.verdict with
    | .insulationFail => some (.insulationFail n m.v m.i m.ir)
    | .breakdown => some (.breakdown n m.i m.ms)
    | .undervolt => some (.undervolt n m.v)
    | _ => none

/-- The source offers the record of its measured result, where it has one (R131). -/
theorem recordVerdict_eq (n : Nat) (s : State) :
    recordVerdict n s = ((measuredRecord n s.hv).map fun d => offer d s).getD s := by
  unfold recordVerdict measuredRecord
  cases s.hv.result with
  | none => rfl
  | some m => cases hv : m.verdict <;> simp [hv]

/-- The station with the record of its own RESULT offered (R131): the source's, whose HV interval it is. -/
def resultRecorded (n : Nat) (s : State) : State := if s.run.insStage = .hvInterval then recordVerdict n s else s

/-- The source's record changes the list, and for LIST_FULL the status and the NOTICE (R131, R141). -/
theorem resultRecorded_only (n : Nat) (s : State) : ∃ slot defects status, sameBut 13 slot s.bus.slot ∧
    resultRecorded n s = { s with
      bus := { s.bus with slot := slot }, defects := defects, decoder := { s.decoder with status := status } } := by
  unfold resultRecorded
  rw [recordVerdict_eq]
  split
  · cases measuredRecord n s.hv with
    | none => exact ⟨_, _, _, .refl _ _, rfl⟩
    | some d => exact ⟨_, _, _, offer_sameBut d s, offer_only d s⟩
  · exact ⟨_, _, _, .refl _ _, rfl⟩

/-! ## The frame -/

/-- The station on which the step's RESULT works (R131): the source's record is offered, and its engine rests unless a discharge
fault left it following. -/
def resultHeard (n : Nat) (verdict : Byte) (s : State) : State :=
  if s.run.insStage = .hvInterval ∧ verdict.toNat ≠ 4 then quietEngine (resultRecorded n s) else resultRecorded n s

/-- The source's own RESULT works on the station with its record offered and, without a discharge fault, its engine at rest
(R131). -/
theorem takeOwnResult_eq (n : Nat) (verdict : Byte) {s : State} (hg : s.run.insStage = .hvInterval) :
    takeOwnResult n verdict s = takeResult n verdict (resultHeard n verdict s) := by
  have hrecord : resultRecorded n s = recordVerdict n s := if_pos hg
  have hheard : resultHeard n verdict s =
      if verdict.toNat = 4 then recordVerdict n s else quietEngine (recordVerdict n s) := by
    rw [resultHeard, hrecord, if_congr (and_iff_right hg) rfl rfl, ite_not]
  rw [hheard]
  rfl

/-- The step's RESULT, awaited or the source's own, and the bid window outcome where it is the first frame (R92, R112, R115, R131,
R132). -/
theorem exec_resultFrame {r : Route} {net : Half} (verdict : Byte) (v i : Half) (ir ms : Wide) {s : State}
    (ht : takesRunFrame r s = true) (hw : s.run.state = .insulate) (hstep : s.run.step = .net net.toNat)
    (hsource : s.run.elected = some r.src.toNat) (hg : s.run.insStage = .awaitingResult ∨
      (s.run.insStage = .hvInterval ∧ isOwn (onRoute r (.result net verdict v i ir ms)) s = true)) :
    exec (.resultFrame r net verdict v i ir ms) s = .next
      (let u : State := { s with bus := frameSeen (onRoute r (.result net verdict v i ir ms)) s }
       let t := takeResult net.toNat verdict (resultHeard net.toNat verdict u)
       if isCandidate s then firstFrame 5 t else t) := by
  simp only [takesRunFrame, takesFrames, Bool.and_eq_true] at ht
  obtain ⟨⟨hl, -⟩, hr⟩ := ht
  refine congrArg Host.Outcome.next ((frameEnd_listening _ _ hl).trans ?_)
  refine congrArg (fun x => if isCandidate s then firstFrame 5 x else x) ((if_pos hr).trans
    ((if_pos ⟨hw, hstep, hsource⟩).trans ?_))
  rcases hg with hg | ⟨hg, hown⟩
  · simp only [resultHeard, resultRecorded, hg, reduceCtorEq, false_and, if_false]
    rfl
  · have hown' : isOwn { src := r.src, dst := r.dst, payload := .result net verdict v i ir ms } s = true := hown
    simp only [hg, hown']
    exact takeOwnResult_eq net.toNat verdict hg

/-! ## The restoring -/

/-- The station in the restoring stage of a step (R20, R132): its entry TESTED, HOLD asserted. -/
def insRestoring (n : Nat) (s : State) : State := { s with
  bus := { s.bus with slot := dropUnbegun servesRequest s.bus.slot }
  lines := { s.lines with holdOut := true, holdSeen := true }
  run := { s.run with
    insStage := .restoring, timer := if s.lines.holdOut = true then s.run.timer else timerAtHold s }
  netMap := s.netMap.map fun e => if e.net = n then { e with state := .tested } else e }

/-- A RESULT without a discharge fault: every point requested to FLOAT (R132). -/
theorem takeResult_eq (n : Nat) {verdict : Byte} (hv : verdict.toNat ≠ 4) {s : State} (ha : runActive s = true)
    (hs : s.lines.holdOut = true → s.lines.holdSeen = true) (hn : s.lines.holdOut = true → servesNone s.bus.slot) :
    takeResult n verdict s = floatAll .restoring (insRestoring n s) := by
  have hhold : setInsStage .restoring (assertHold (updateNet n testNet s)) = insRestoring n s := by
    rw [assertHold_held (s := updateNet n testNet s) ha hs hn]
    rfl
  rw [← hhold]
  exact if_neg hv

/-- The restoring stage is one of a sound run, and awaits the restoring batch (R132). -/
theorem insRestoring_sound {s : State} (h : RunSound s) (hw : s.run.state = .insulate) (n : Nat) :
    RunSound (insRestoring n s) ∧ awaited (insRestoring n s) = some .restoring := by
  have ha : runActive (insRestoring n s) = true := by simp [insRestoring, runActive, hw]
  have hs : RunSound (insRestoring n s) :=
    ⟨h.sweep, fun _ => hw, fun k => absurd (ha.symm.trans k) (by decide), h.halt, h.job, h.summary, h.held, h.silent⟩
  exact ⟨hs, awaited_insulate hs (by simp [insRestoring])⟩

/-- A RESULT without a discharge fault as one change of the station (R20, R132). -/
theorem takeResult_restores (n : Nat) {verdict : Byte} (hv : verdict.toNat ≠ 4) {s : State} (h : RunSound s)
    (hw : s.run.state = .insulate) (hs : s.lines.holdOut = true → s.lines.holdSeen = true)
    (hn : s.lines.holdOut = true → servesNone s.bus.slot) (hf : floatHoldLawful s = true)
    (hb : ∀ b ∈ s.matrix.batches, b.purpose ≠ .restoring) :
    let t := takeResult n verdict s
    t = { s with
      bus := { s.bus with slot := dropUnbegun servesRequest s.bus.slot }
      lines := { s.lines with holdOut := !allAtRest t, holdSeen := true }
      run := { s.run with
        insStage := if allAtRest t = true then .restored else .restoring
        timer := if s.lines.holdOut = true then s.run.timer else timerAtHold s }
      netMap := s.netMap.map fun e => if e.net = n then { e with state := .tested } else e
      points := t.points, matrix := { s.matrix with batches := t.matrix.batches } } ∧
    eachPoint s t (fun _ p => requestedTo s .float p) := by
  obtain ⟨hsound, hawaits⟩ := insRestoring_sound h hw n
  intro t
  have ht : t = floatAll .restoring (insRestoring n s) := takeResult_eq n hv (by simp [runActive, hw]) hs hn
  obtain ⟨hlen, heach⟩ := floatAll_requests .restoring (insRestoring n s)
  have hleads := insBatch_leads (g := .restored) hsound hawaits (everyPoint_indices _ .float) hf hb
    (if_pos (by rw [requested_eq]; rfl))
  rw [← ht] at hlen heach
  rw [← floatAll, ← ht] at hleads
  exact ⟨hleads, hlen, fun j hj => (heach j hj).trans (requestedTo_congr (s := s) rfl rfl rfl rfl .float _)⟩

/-- The step's RESULT without a discharge fault, awaited or the source's own (R20, R131, R132). -/
theorem resultHeard_restores (n : Nat) {verdict : Byte} (hv : verdict.toNat ≠ 4) {s : State} (h : RunSound s)
    (hw : s.run.state = .insulate) (hs : s.lines.holdOut = true → s.lines.holdSeen = true)
    (hn : s.lines.holdOut = true → servesNone s.bus.slot) (hf : floatHoldLawful s = true)
    (hb : ∀ b ∈ s.matrix.batches, b.purpose ≠ .restoring) :
    let u := resultRecorded n s
    let t := takeResult n verdict (resultHeard n verdict s)
    t = { s with
      bus := { u.bus with slot := dropUnbegun servesRequest u.bus.slot }
      lines := { s.lines with holdOut := !allAtRest t, holdSeen := true }
      run := { s.run with
        insStage := if allAtRest t = true then .restored else .restoring
        timer := if s.lines.holdOut = true then s.run.timer else timerAtHold s }
      hv := if s.run.insStage = .hvInterval then { s.hv with stage := .quiet, setpoint := 0, hven := false } else s.hv
      netMap := s.netMap.map fun e => if e.net = n then { e with state := .tested } else e
      defects := u.defects, decoder := u.decoder
      points := t.points, matrix := { s.matrix with batches := t.matrix.batches } } ∧
    eachPoint s t (fun _ p => requestedTo s .float p) := by
  obtain ⟨slot, defects, status, hslot, hu⟩ := resultRecorded_only n s
  let x : State := { s with
    bus := { s.bus with slot := slot }, defects := defects, decoder := { s.decoder with status := status }
    hv := if s.run.insStage = .hvInterval then { s.hv with stage := .quiet, setpoint := 0, hven := false } else s.hv }
  have hx : resultHeard n verdict s = x := by
    unfold resultHeard
    rw [if_congr (and_iff_left hv) rfl rfl, hu]
    by_cases hg : s.run.insStage = .hvInterval
    · simp only [x, hg, if_true]
      rfl
    · simp only [x, hg, if_false]
  rw [hx, hu]
  exact takeResult_restores n hv (s := x) (h.congr ⟨rfl, rfl, rfl, rfl, rfl, rfl, rfl, rfl, fun _ => id⟩) hw hs
    (fun ho => (hn ho).sameBut hslot) hf hb

/-! ## The discharge fault -/

/-- A RESULT with a discharge fault marks the entry TESTED and ends the run (R20, R87). -/
theorem takeResult_fault (n : Nat) (s : State) :
    takeResult n 4 s = runEnd .dischargeFault (.net n) (updateNet n testNet s) := by
  unfold takeResult
  exact if_pos rfl

/-- A RESULT that ends the run leaves no phase for a first frame to end (R83, R92, R115). -/
theorem firstFrame_takeResult_fault (k n : Nat) (s : State) : firstFrame k (takeResult n 4 s) = takeResult n 4 s := by
  refine firstFrame_inactive k ?_
  obtain ⟨points, batches, h⟩ := runEnd_only .dischargeFault (.net n) (updateNet n testNet s)
  rw [takeResult_fault, h]
  rfl

/-- The step's RESULT with a discharge fault, awaited or the source's own, ends the run at the net of the step (R20, R83, R87,
R131). -/
theorem resultHeard_ends (n : Nat) (s : State) :
    let u := resultRecorded n s
    let t := takeResult n 4 (resultHeard n 4 s)
    runEnds .dischargeFault (.net n) u.bus
      { u with netMap := s.netMap.map fun e => if e.net = n then { e with state := .tested } else e } t ∧
    t.lines = { s.lines with holdOut := false } ∧ eachPoint s t (fun _ p => requestedTo s .float p) := by
  obtain ⟨slot, defects, status, -, hu⟩ := resultRecorded_only n s
  have hx : resultHeard n 4 s = resultRecorded n s := if_neg fun k => k.2 rfl
  let w : State := { s with
    bus := { s.bus with slot := slot }, defects := defects, decoder := { s.decoder with status := status }
    netMap := s.netMap.map fun e => if e.net = n then { e with state := .tested } else e }
  have ht : takeResult n 4 (resultHeard n 4 s) = runEnd .dischargeFault (.net n) w := by
    rw [hx, hu]
    exact takeResult_fault n _
  rw [ht, hu]
  obtain ⟨points, batches, hend⟩ := runEnd_only .dischargeFault (.net n) w
  obtain ⟨hlen, heach⟩ := runEnd_requests .dischargeFault (.net n) w
  refine ⟨runEnd_runEnds .dischargeFault (.net n) w, by rw [hend], hlen, fun j hj => (heach j hj).trans ?_⟩
  exact requestedTo_congr (s := s) rfl rfl rfl rfl .float _

/-! ## The statement -/

/-- Settles O37: the RESULT works on the station with the source's record offered; with a discharge fault it ends the run, with
any other verdict it starts the restoring. -/
theorem resultEndsTheInterval : Obligations.ResultEndsTheInterval := by
  refine ⟨fun r net verdict v i ir ms s ht hwin hl hf _ _ hb hlines hw hstep hsource hv hg => ?_,
    fun r net v i ir ms s ht hl hw hstep hsource hg => ?_⟩
  · let f := onRoute r (.result net verdict v i ir ms)
    let s1 : State := { s with bus := frameSeen f s }
    have hc : isCandidate s = false := by simpa [isCandidate, noFirstFrame] using hwin
    have hr : RunSound s1 := ((runLawful_iff s).1 hl).congr (frameSeen_sameRun f s)
    have hfloat : floatHoldLawful s1 = true := by simpa [floatHoldLawful, heldAtFloat, s1] using hf
    have hrecord : resultRecorded net.toNat s1 = if (s.run.insStage == .hvInterval) = true then
        ((measuredRecord net.toNat s.hv).map fun d => offer d s1).getD s1 else s1 := by
      rw [resultRecorded, recordVerdict_eq]
      exact if_congr beq_iff_eq.symm rfl rfl
    have hrestores := resultHeard_restores net.toNat hv hr hw (fun k => (((linesLawful_iff s).1 hlines).1 k).1)
      (frameSeen_servesNone f (s := s)) hfloat hb
    rw [exec_resultFrame verdict v i ir ms ht hw hstep hsource hg, hc]
    refine ⟨_, rfl, ?_⟩
    rw [hrecord] at hrestores
    simp only [beq_iff_eq] at hrestores ⊢
    exact hrestores
  · let s1 : State := { s with bus := frameSeen (onRoute r (.result net 4 v i ir ms)) s }
    have hrecord : resultRecorded net.toNat s1 = if s.run.insStage = .hvInterval then
        ((measuredRecord net.toNat s.hv).map fun d => offer d s1).getD s1 else s1 := by
      rw [resultRecorded, recordVerdict_eq]
    have hends := resultHeard_ends net.toNat s1
    rw [hrecord] at hends
    rw [exec_resultFrame 4 v i ir ms ht hw hstep hsource hg]
    simp only [firstFrame_takeResult_fault, ite_self]
    exact ⟨_, rfl, hends⟩

end Sys2Proof.Machine
end

section
/-! SUPPORT. The Defect List (R141, R142, R143): what an offer makes of it, outcome by outcome, in the order in which R141 tries
them. -/

namespace Sys2Proof.Machine

/-- An offer is compared with the identities of the records held (R137, R141). -/
theorem holdsIdent_iff_record (s : State) (k : Ident) :
    holdsIdent s k = true ↔ ∃ r ∈ s.defects.records, identOf r.what = k := by
  simp [holdsIdent]

/-! ## The four outcomes -/

/-- A record of the same identity is held: the offer is dropped (R141). -/
theorem offer_of_held {d : Defect} {s : State} (h : holdsIdent s (identOf d) = true) : offer d s = s := if_pos h

/-- The SHORT of the pair is held: the LEAKAGE is dropped (R141). -/
theorem offer_leakage_of_short {lo hi : Nat} {s : State} (x : Nat) (h : holdsIdent s ⟨3, lo, hi⟩ = true) :
    offer (.leakage lo hi x) s = s := by
  simp [offer, h]

/-- The LEAKAGE of the pair is held: the SHORT replaces it (R142). -/
theorem offer_short_of_leakage {lo hi : Nat} {s : State} (hn : holdsIdent s (identOf (.short lo hi)) = false)
    (h : holdsIdent s ⟨4, lo, hi⟩ = true) : offer (.short lo hi) s = replaceLeakage lo hi s := by
  simp [offer, hn, h]

/-- No record of the identity and none of the pair is held: the offer goes to the store (R141). -/
theorem offer_eq_storeOffer {d : Defect} {s : State} (hn : holdsIdent s (identOf d) = false)
    (h3 : ∀ lo hi x, d = .leakage lo hi x → holdsIdent s ⟨3, lo, hi⟩ = false)
    (h4 : ∀ lo hi, d = .short lo hi → holdsIdent s ⟨4, lo, hi⟩ = false) : offer d s = storeOffer d s := by
  unfold offer
  rw [if_neg (Bool.eq_false_iff.1 hn)]
  cases d with
  | leakage lo hi x => exact if_neg (Bool.eq_false_iff.1 (h3 lo hi x rfl))
  | short lo hi => exact if_neg (Bool.eq_false_iff.1 (h4 lo hi rfl))
  | _ => rfl

/-- While fewer than 512 records are held the store places the record, unprinted (R141). -/
theorem storeOffer_of_room {d : Defect} {s : State} (h : s.defects.records.length < 512) :
    storeOffer d s = { s with defects := { s.defects with records := insertRecord ⟨d, .unprinted⟩ s.defects.records } } :=
  if_pos h

/-- On a full list the offer is counted lost and LIST_FULL raised (R143). -/
theorem storeOffer_of_full {d : Defect} {s : State} (h : ¬ s.defects.records.length < 512) :
    storeOffer d s = raise .listFull { s with defects := { s.defects with lost := min 65535 (s.defects.lost + 1) } } :=
  if_neg h

/-! ## The records after a replacement -/

/-- An ascending list holds no identity twice (R137). -/
theorem idents_nodup {d : Defects} (h : defectsLawful d = true) : (identsOf d).Nodup :=
  ((defectsLawful_iff d).1 h).1.imp fun {x y} hlt e => by
    rw [e, identLt_irrefl] at hlt; cases hlt

/-- Taking out an identity that is held takes out exactly one record (R137). -/
theorem length_without_ident {d : Defects} {k : Ident} (h : defectsLawful d = true) (hk : k ∈ identsOf d) :
    (d.records.filter fun r => identOf r.what != k).length + 1 = d.records.length := by
  have hf : (d.records.filter fun r => identOf r.what != k).map (fun r => identOf r.what) = (identsOf d).erase k := by
    rw [(idents_nodup h).erase_eq_filter, identsOf, List.filter_map]; rfl
  have hl : (d.records.filter fun r => identOf r.what != k).length = ((identsOf d).erase k).length := by
    rw [← hf, List.length_map]
  rw [hl, List.length_erase_add_one hk, identsOf, List.length_map]

/-- A replacement leaves the number of records held as it is (R142). -/
theorem replaceLeakage_length {s : State} {lo hi : Nat} (h : defectsLawful s.defects = true)
    (hl : holdsIdent s ⟨4, lo, hi⟩ = true) :
    (replaceLeakage lo hi s).defects.records.length = s.defects.records.length :=
  (length_insertRecord _ _).trans (length_without_ident h ((holdsIdent_iff _ _).1 hl))

/-- After a replacement the SHORT is held, unprinted, and every record but the LEAKAGE of its pair (R142). -/
theorem mem_replaceLeakage (lo hi : Nat) (s : State) (r : Record) :
    r ∈ (replaceLeakage lo hi s).defects.records ↔
      r = ⟨.short lo hi, .unprinted⟩ ∨ (r ∈ s.defects.records ∧ identOf r.what ≠ ⟨4, lo, hi⟩) := by
  simp [replaceLeakage, setDefects, mem_insertRecord]

/-- Settles O51: the outcomes of R141 in order, each by its own lemma; the list stays lawful by `offer_lawful`. -/
theorem offerTakesFirstOutcome : Obligations.OfferTakesFirstOutcome := by
  intro d s hlawful
  simp only [← holdsIdent_iff_record, Bool.not_eq_true]
  refine ⟨offer_lawful d s hlawful, offer_of_held, ?leakage, ?short, fun hn h3 h4 => ?stored⟩
  case leakage =>
    rintro lo hi x rfl h3
    exact offer_leakage_of_short x h3
  case short =>
    rintro lo hi rfl hn h4
    rw [offer_short_of_leakage hn h4]
    exact ⟨rfl, replaceLeakage_length hlawful h4, mem_replaceLeakage lo hi s⟩
  case stored =>
    rw [offer_eq_storeOffer hn h3 h4]
    split
    case isTrue hroom =>
      rw [storeOffer_of_room hroom]
      exact ⟨rfl, fun r => mem_insertRecord _ r _⟩
    case isFalse hfull => exact storeOffer_of_full hfull

end Sys2Proof.Machine
end

section
/-! SUPPORT. The print pass (R145, R152 to R162): the LINE bid, the end of a pass, the marks and the counters, each as one change
of the state. -/

namespace Sys2Proof.Machine

/-- A station that takes frames is not in HELD (R58). -/
theorem takesFrames_not_held {s : State} (h : takesFrames s = true) : s.bus.held = false := by
  simp only [takesFrames, listening, Bool.and_eq_true, Bool.not_eq_true'] at h
  exact h.1.2

/-! ## The LINE bid -/

/-- The slot with the LINE bid of a pass in progress (R157): the next line, where the station may send lines, and else none. -/
def lineBid (s : State) : List TxEntry :=
  if s.bus.silent = false ∧ 0 < s.print.credit then putFrame (ownFrame s 31 (nextLine s)) s.bus.slot
  else s.bus.slot.filter fun e => entryKind e != 15

/-- In a pass the bid of a station outside HELD with no frame begun changes the slot alone (R157). -/
theorem rebid_eq {s : State} (hp : s.print.pass = true) (hh : s.bus.held = false) (hn : noneBegun s.bus.slot) :
    rebid s = setSlot (lineBid s) s := by
  unfold rebid lineBid
  by_cases hb : s.bus.silent = false ∧ 0 < s.print.credit
  · rw [if_pos hb, if_pos (by simp [hp, hb]), queue_puts _ _ s (by simp [hh, hb])]
    rfl
  · rw [if_neg hb, if_neg (by simpa [hp] using hb), withdraw_noneBegun hn]

/-! ## The end of a pass -/

/-- A pass that ends at a station with no frame begun leaves no LINE pending (R153, R160). -/
theorem endPass_eq (how : PassEnd) {s : State} (hn : noneBegun s.bus.slot) : endPass how s = { s with
    bus := { s.bus with slot := s.bus.slot.filter fun e => entryKind e != 15 }
    print := { s.print with pass := false, outcome := how, stall := none } } :=
  withdraw_noneBegun (s := setPrint _ s) hn

/-! ## Marks and counters -/

/-- The mark that a clean LINE leaves on a record of its identity (R145): of the station's own line, with the station's part in its
key, or of another station's line. -/
def markedRecord (src : Addr) (key : Value) (s : State) (x : Record) : Record :=
  let own := decide (src = s.straps.adr)
  if (own = false ∨ key.toNat % 32 = addr s) ∧ identOf x.what = keyIdent key then
    { x with mark := if own = true then .printed else .suppressed }
  else x

/-- The Defect List once a clean LINE has marked the entries of its identity (R145). -/
def markedList (src : Addr) (key : Value) (s : State) : Defects :=
  let own := decide (src = s.straps.adr)
  { s.defects with
    records := s.defects.records.map (markedRecord src key s)
    lostMark :=
      if own = true ∧ (own = false ∨ key.toNat % 32 = addr s) ∧ keyIdent key = ⟨13, addr s, 0⟩ ∧ 0 < s.defects.lost then
        .printed
      else s.defects.lostMark }

/-- A clean LINE marks the list alone (R145). -/
theorem markLine_eq (src : Addr) (key : Value) (s : State) :
    markLine src key s = setDefects (markedList src key s) s := by
  have hid : (entryIdent s .lost == keyIdent key) = true ↔ keyIdent key = ⟨13, addr s, 0⟩ := by
    rw [beq_iff_eq]; exact eq_comm
  unfold markLine markedList markedRecord
  simp only
  by_cases ho : src = s.straps.adr
  · simp [ho, hid, and_assoc]
  · simp [ho]

/-- The page counters after a clean LINE, the credit copy lowered (R151, R158, R159). -/
def lineCounted (key : Value) (p : Printer) : Printer :=
  { p with
    credit := p.credit - 1, lineOn := if p.lineOn + 1 = p.pageLength then 0 else p.lineOn + 1
    page := if keyOrder key = 0 ∧ keyA key = 1 then min 9999 (p.page + 1) else p.page
    printed := if 1 ≤ keyOrder key ∧ keyOrder key ≤ 13 then min 65535 (p.printed + 1) else p.printed
    footer := if keyOrder key = 14 ∧ (keyA key = 1 ∨ keyA key = 2) then keyA key else p.footer, stall := some 0 }

/-- The model's count of a LINE, after the credit copy is lowered (R158, R159). -/
theorem countLine_eq (key : Value) (p : Printer) : countLine key { p with credit := p.credit - 1 } = lineCounted key p := by
  have hf : (if keyOrder key = 14 ∧ keyA key = 1 then 1 else if keyOrder key = 14 ∧ keyA key = 2 then 2 else p.footer) =
      if keyOrder key = 14 ∧ (keyA key = 1 ∨ keyA key = 2) then keyA key else p.footer := by
    split_ifs <;> omega
  unfold countLine lineCounted
  simp only [hf]
  rfl

/-! ## Events beside the list and the print -/

/-- An event reads neither the Defect List nor the Print Engine's state (R178, R179). -/
theorem raise_listPrint (e : Event) (d : Defects) (p : Printer) (s : State) :
    raise e { s with defects := d, print := p } = { raise e s with defects := d, print := p } := by
  rw [raise_only, raise_slot, raise_only e s, raise_slot]
  rfl

/-- An event changes the bus and the status alone (R178, R179). -/
theorem raise_busStatus (e : Event) (s : State) : raise e s = { s with
    bus := (raise e s).bus, decoder := { s.decoder with status := s.decoder.status ||| eventMask e } } := by
  rw [raise_only e s]
  rfl

/-! ## A clean LINE -/

section
variable (src : Addr) (key : Value) {s : State}

/-- Outside a pass a clean LINE lowers the credit copy and marks (R145, R151). -/
theorem takeLine_noPass (hp : s.print.pass = false) : takeLine src key s = { s with
    defects := markedList src key s, print := { s.print with credit := s.print.credit - 1 } } := by
  unfold takeLine
  rw [markLine_eq]
  exact if_pos (by simp [setDefects, setPrint, hp])

/-- The station once a clean LINE of a pass has marked and counted (R145, R151, R158, R159). -/
def lineTaken (s : State) : State :=
  { s with defects := markedList src key s, print := lineCounted key s.print }

/-- In a pass a clean LINE marks and counts; then footer line 2 ends the pass, and after any other the station bids
anew (R157 to R160). -/
theorem takeLine_pass (hp : s.print.pass = true) : takeLine src key s =
    if keyOrder key = 14 ∧ keyA key = 2 then raise .printDone (endPass .done (lineTaken src key s))
    else rebid (lineTaken src key s) := by
  unfold takeLine
  rw [markLine_eq, lineTaken, ← countLine_eq]
  exact if_neg (by simp [setDefects, setPrint, hp])

/-- Footer line 2 ends the pass with PRINT_DONE (R160). -/
theorem takeLine_ends (hp : s.print.pass = true) (he : keyOrder key = 14 ∧ keyA key = 2) (hn : noneBegun s.bus.slot) :
    takeLine src key s = { s with
      bus := (raise .printDone { s with
        bus := { s.bus with slot := s.bus.slot.filter fun e => entryKind e != 15 } }).bus
      defects := markedList src key s
      print := { lineCounted key s.print with pass := false, outcome := .done, stall := none }
      decoder := { s.decoder with status := s.decoder.status ||| 1024 } } := by
  let u : State := { s with bus := { s.bus with slot := s.bus.slot.filter fun e => entryKind e != 15 } }
  have hraise : raise .printDone (endPass .done (lineTaken src key s)) = { raise .printDone u with
      defects := markedList src key s
      print := { lineCounted key s.print with pass := false, outcome := .done, stall := none } } := by
    rw [endPass_eq _ (s := lineTaken src key s) hn, ← raise_listPrint]
    rfl
  rw [takeLine_pass src key hp, if_pos he, hraise, raise_busStatus]
  rfl

/-- Every other LINE of a pass is followed by a bid (R157). -/
theorem takeLine_bids (hp : s.print.pass = true) (he : ¬ (keyOrder key = 14 ∧ keyA key = 2)) (hh : s.bus.held = false)
    (hn : noneBegun s.bus.slot) :
    takeLine src key s = setSlot (lineBid (lineTaken src key s)) (lineTaken src key s) := by
  rw [takeLine_pass src key hp, if_neg he, rebid_eq (s := lineTaken src key s) hp hh hn]

end

/-! ## A clean CREDIT -/

/-- A CREDIT taken outside a pass (R151). -/
theorem takeCredit_noPass (count : Nat) {s : State} (hp : s.print.pass = false) :
    takeCredit count s = setPrint { s.print with credit := count } s :=
  if_neg (by simp [setPrint, hp])

/-- The station in a pass with its credit copy set and its stall timer restarted (R151, R162). -/
def creditTaken (count : Nat) (s : State) : State := setPrint { s.print with credit := count, stall := some 0 } s

/-- A CREDIT taken in a pass is followed by a bid (R157). -/
theorem takeCredit_pass (count : Nat) {s : State} (hp : s.print.pass = true) (hh : s.bus.held = false)
    (hn : noneBegun s.bus.slot) : takeCredit count s = setSlot (lineBid (creditTaken count s)) (creditTaken count s) :=
  (if_pos (by simp [setPrint, hp])).trans (rebid_eq (s := creditTaken count s) hp hh hn)

end Sys2Proof.Machine
end

section
/-! PRINT and STOP PRINT (R145, R152 to R155, R157, O14). -/

namespace Sys2Proof.Machine

/-- PRINT taken as a general call (R152, R154). -/
theorem exec_print_general {h : Header} {s : State} (ht : takesGeneral h s = true) (hw : noFirstFrame s = true) :
    exec (.print h) s = .next (
      if s.run.state = .complete ∨ s.run.state = .ended then rebid (startPass { s with bus := heard s })
      else raise .printRefused { s with bus := heard s }) :=
  congrArg Host.Outcome.next (request_general h 13 _ s ht hw)

/-- PRINT addressed is refused, and sets PRINT_REFUSED (R154). -/
theorem exec_print_addressed {h : Header} {s : State} (ht : takesAddressed h s = true) (hw : noFirstFrame s = true) :
    exec (.print h) s =
      .next (withFrame h.src (refusal h 13 .range 0) (raise .printRefused { s with bus := heard s })) := by
  have hq : ((heard s).held || (heard s).silent) = false := by
    simp only [takesAddressed, takesFrames, listening, Bool.and_eq_true, Bool.not_eq_true'] at ht
    simp [heard, busAfter, ht]
  exact congrArg Host.Outcome.next ((request_addressed h 13 _ s ht hw).trans
    (queue_puts h.src _ (raise .printRefused { s with bus := heard s }) (by simpa using hq)))

/-- STOP PRINT taken as a general call (R153). -/
theorem exec_stopPrint_general {h : Header} {s : State} (ht : takesGeneral h s = true) (hw : noFirstFrame s = true) :
    exec (.stopPrint h) s = .next (
      if s.print.pass then endPass .stopped { s with bus := heard s } else { s with bus := heard s }) :=
  congrArg Host.Outcome.next (request_general h 14 _ s ht hw)

/-- Settles O14: a pass started bids by `rebid_eq`, and header line 1 is its first line; a pass stopped ends by `endPass_eq`. -/
theorem printAndStopPrint : Obligations.PrintAndStopPrint := by
  refine ⟨fun h s hw => ⟨fun ht hs => ?starts, fun ht hc he => ?refused, fun ht => ?addressed⟩, fun h s ht hw => ?stop⟩
  case starts =>
    have hh : s.bus.held = false := by
      simp only [takesGeneral, Bool.and_eq_true] at ht
      exact takesFrames_not_held ht.1.1
    rw [exec_print_general ht hw, if_pos hs,
      rebid_eq (s := startPass { s with bus := heard s }) rfl hh (noneBegun_heard s)]
    exact ⟨_, rfl, rfl, rfl, rfl⟩
  case refused =>
    rw [exec_print_general ht hw, if_neg (by simp [hc, he])]
  case addressed =>
    exact ⟨_, exec_print_addressed ht hw, rfl, by simp only [withFrame]; rw [raise_only]; rfl⟩
  case stop =>
    refine ⟨_, exec_stopPrint_general ht hw, ?_⟩
    split
    · exact endPass_eq .stopped (s := { s with bus := heard s }) (noneBegun_heard s)
    · rfl

end Sys2Proof.Machine
end

section
/-! Timers (R77, R162, R181, R182): the millisecond of an empty queue, and the expiries of the stall timer and of the summary
timer (O41). -/

namespace Sys2Proof.Machine

/-! ## The millisecond -/

/-- A running step timer advances up to its limit, and no other (R77; log entry 1). -/
theorem tick_eq (s : State) : tick s = { s with
    run := { s.run with timer := { s.run.timer with
      elapsed := s.run.timer.elapsed +
        (if s.run.timer.mode = .running ∧ s.run.timer.elapsed < s.run.timer.limit then 1 else 0) } }
    print := { s.print with stall := s.print.stall.map fun e => if e < 10000 then e + 1 else e }
    decoder := { s.decoder with summary := s.decoder.summary.map fun e => if e < 1000 then e + 1 else e } } := by
  unfold tick
  by_cases hr : s.run.timer.mode = .running ∧ s.run.timer.elapsed < s.run.timer.limit
  · simp only [if_pos hr]
    rfl
  · simp only [if_neg hr]
    rfl

/-- An expiry is not due where its condition does not hold, and where its counter is stopped or below its limit (R162, R181). -/
theorem not_due_iff (active : Bool) (limit : Nat) (elapsed : Option Nat) : (active && reached limit elapsed) = false ↔
    active = false ∨ (elapsed.all fun e => decide (e < limit)) = true := by
  rw [Bool.and_eq_false_iff]
  cases elapsed <;> simp [reached]

/-! ## The stall timer -/

/-- The expiry of the stall timer, outside a pass or before its limit, with credit left and without (R162). -/
theorem exec_stallTimerExpiry (s : State) : exec .stallTimerExpiry s = .next (
    if s.print.pass = false ∨ (s.print.stall.all fun e => decide (e < 10000)) = true then s
    else if 0 < s.print.credit then setPrint { s.print with stall := none } s
    else raise .printStall (endPass .stalled s)) := by
  have hdue : (s.print.pass && reached Config.stallLimit s.print.stall) = false ↔
      s.print.pass = false ∨ (s.print.stall.all fun e => decide (e < 10000)) = true := not_due_iff ..
  show execStallTimerExpiry s = _
  unfold execStallTimerExpiry
  by_cases hn : (s.print.pass && reached Config.stallLimit s.print.stall) = false
  · rw [if_pos (hdue.1 hn), hn]
    rfl
  · rw [if_neg fun k => hn (hdue.2 k), if_pos (by simpa using hn)]
    rcases Nat.eq_zero_or_pos s.print.credit with hc | hc
    · rw [if_pos hc, if_neg (by omega)]
    · rw [if_neg (by omega), if_pos hc]

/-! ## The summary timer -/

/-- The records held of several class orders. -/
def classesHeld (s : State) (orders : List Nat) : Nat :=
  (s.defects.records.filter fun r => orders.contains (classOrder r.what)).length

/-- The records of one class order are its class count (R148). -/
theorem classesHeld_single (s : State) (k : Nat) : classesHeld s [k] = classCount s k :=
  congrArg List.length (List.filter_congr fun r _ => Bool.eq_iff_iff.2 (by simp))

/-- With a further class order, its class count is added (R148). -/
theorem classesHeld_cons (s : State) {k : Nat} {ks : List Nat} (hk : k ∉ ks) :
    classesHeld s (k :: ks) = classCount s k + classesHeld s ks := by
  unfold classesHeld classCount
  simp only [← List.countP_eq_length_filter]
  induction s.defects.records with
  | nil => rfl
  | cons r rest ih =>
      simp only [List.countP_cons, ih]
      by_cases h : classOrder r.what = k
      · simp [h, hk]; omega
      · simp [h]; omega

/-- The five sums of class counts that a SUMMARY grades (R182). -/
theorem summary_sums (s : State) :
    [classesHeld s [1], classesHeld s [2], classesHeld s [3, 4], classesHeld s [5, 6], classesHeld s [7, 8, 9]] =
      (let c := classCount s
       [c 1, c 2, c 3 + c 4, c 5 + c 6, c 7 + c 8 + c 9]) := by
  rw [classesHeld_cons s (k := 3) (by decide), classesHeld_cons s (k := 5) (by decide), classesHeld_cons s (k := 7) (by decide),
    classesHeld_cons s (k := 8) (by decide)]
  simp only [classesHeld_single, Nat.add_assoc]

/-- The expiry of the summary timer, outside an active run or before its limit, with the summary enable and without; the station
of an active run is neither in HELD nor SILENT (R181). -/
theorem exec_summaryTimerExpiry {s : State} (hl : runLawful s = true) : exec .summaryTimerExpiry s = .next (
    if runActive s = false ∨ (s.decoder.summary.all fun e => decide (e < 1000)) = true then s
    else { s with
      bus := { s.bus with slot :=
        if s.params.summary = true then putFrame (ownFrame s 28 (summaryPayload s)) s.bus.slot else s.bus.slot }
      decoder := { s.decoder with summary := some 0 } }) := by
  have hdue : (runActive s && reached Config.summaryLimit s.decoder.summary) = false ↔
      runActive s = false ∨ (s.decoder.summary.all fun e => decide (e < 1000)) = true := not_due_iff ..
  show execSummaryTimerExpiry s = _
  unfold execSummaryTimerExpiry
  by_cases hn : (runActive s && reached Config.summaryLimit s.decoder.summary) = false
  · rw [if_pos (hdue.1 hn), hn]
    rfl
  · have hdone : (runActive s && reached Config.summaryLimit s.decoder.summary) = true := by simpa using hn
    obtain ⟨hheld, hsilent⟩ := ((runLawful_iff s).1 hl).activeFree (Bool.and_eq_true_iff.1 hdone).1
    rw [if_neg fun k => hn (hdue.2 k), if_pos hdone, queue_puts _ _ s (by rw [hheld, hsilent]; rfl)]
    cases s.params.summary <;> rfl

/-- Settles O41: the millisecond is `tick_eq`; each expiry by its equation, the SUMMARY's sums by `summary_sums`. -/
theorem timersAdvanceAndExpire : Obligations.TimersAdvanceAndExpire := by
  refine ⟨fun s hp => ?millisecond, fun s => ⟨_, exec_stallTimerExpiry s, ?stall⟩,
    fun s hl => ⟨_, exec_summaryTimerExpiry hl, ?summary⟩⟩
  case millisecond =>
    unfold step
    split
    · rename_i h; rw [hp] at h; cases h
    · exact congrArg _ (tick_eq s)
  case stall =>
    split
    · rfl
    split
    · rfl
    · simp only [ne_eq, ite_not]
      rfl
  case summary =>
    split
    · rfl
    · have hlost : boolByte (decide (0 < s.defects.lost)) = if 0 < s.defects.lost then 1 else 0 := by
        simp [boolByte]
      simp only [summaryPayload, hlost, ← summary_sums]
      rfl

end Sys2Proof.Machine
end

section
/-! SUPPORT. The print lines (R149, R156; 3.11, Print lines): their columns, and points, nets and resistances as characters. -/

namespace Sys2Proof.Machine

/-! ## Columns -/

theorem column_length (w : Nat) (t : List Char) : (column w t).length = w := by
  simp only [column, List.length_take, List.length_append, List.length_replicate]
  omega

/-- A column shows its text from the first character on, and blanks after it. -/
theorem column_getElem? (t : List Char) {w i : Nat} (hi : i < w) : (column w t)[i]? = some (t.getD i ' ') := by
  rw [column, List.getElem?_take_of_lt hi]
  by_cases ht : i < t.length
  · simp [ht, List.getElem?_append_left]
  · simp only [List.getElem?_append_right (Nat.le_of_not_lt ht), List.getElem?_replicate, List.getD_eq_getElem?_getD,
      List.getElem?_eq_none (Nat.le_of_not_lt ht)]
    rw [if_pos (by omega)]
    rfl

/-- A column, the blank after it and the rest of the line, character by character. -/
theorem column_cons_getElem? (w : Nat) (t rest : List Char) (i : Nat) : (column w t ++ ' ' :: rest)[i]? =
    if i < w then some (t.getD i ' ') else if i = w then some ' ' else rest[i - (w + 1)]? := by
  have hl := column_length w t
  split
  · rename_i hi
    rw [List.getElem?_append_left (by omega), column_getElem? t hi]
  · rw [List.getElem?_append_right (by omega), hl]
    split
    · rename_i hw
      simp [hw]
    · rw [show i - w = (i - (w + 1)) + 1 by omega, List.getElem?_cons_succ]

/-- The 48 characters of a print line, column by column (3.11). -/
theorem columns_getElem? (a b c d : List Char) {i : Nat} (hi : i < 48) :
    (column 15 a ++ ' ' :: column 10 b ++ ' ' :: column 10 c ++ ' ' :: column 10 d)[i]? = some (
      if i < 15 then a.getD i ' '
      else if 16 ≤ i ∧ i < 26 then b.getD (i - 16) ' '
      else if 27 ≤ i ∧ i < 37 then c.getD (i - 27) ' '
      else if 38 ≤ i then d.getD (i - 38) ' '
      else ' ') := by
  have hd : 38 ≤ i → (column 10 d)[i - 38]? = some (d.getD (i - 38) ' ') := fun _ => column_getElem? d (by omega)
  simp only [List.append_assoc, List.cons_append, column_cons_getElem?, Nat.sub_sub]
  grind

/-- Every print line has the four columns (3.11), with texts that may be spelled in another way. -/
theorem printLine_says (name : String) {b b' c c' d d' : List Char} (hb : b = b') (hc : c = c') (hd : d = d') :
    lineSays (printLine (chars name) b c d) name b' c' d' := by
  subst hb hc hd
  constructor
  · simp [printLine, column_length]
  · intro i hi
    rw [printLine, List.getElem?_map, columns_getElem? _ _ _ _ hi]
    rfl

/-! ## Numbers -/

/-- The character of a decimal digit by its code. -/
theorem digitChar_eq {d : Nat} (h : d < 10) : d.digitChar = Char.ofNat (48 + d) := by
  revert d
  decide

/-- A number of one digit, padded to one. -/
theorem padded_one {n : Nat} (h : n < 10) : padded 1 n = [Char.ofNat (48 + n % 10)] := by
  rw [padded, decimal, Nat.toDigits_of_lt_base h, digitChar_eq h, Nat.mod_eq_of_lt h]
  rfl

/-- One more place: the last digit is split off. -/
theorem padded_succ {w : Nat} (hw : 0 < w) (n : Nat) :
    padded (w + 1) n = padded w (n / 10) ++ [Char.ofNat (48 + n % 10)] := by
  have hd := digitChar_eq (Nat.mod_lt n (by decide : 10 > 0))
  unfold padded decimal
  rcases Nat.lt_or_ge n 10 with h | h
  · obtain ⟨v, rfl⟩ : ∃ v, w = v + 1 := ⟨w - 1, by omega⟩
    rw [Nat.toDigits_of_lt_base h, Nat.div_eq_of_lt h, Nat.toDigits_zero, ← hd, Nat.mod_eq_of_lt h]
    simp [List.replicate_succ']
  · rw [Nat.toDigits_of_base_le (by decide) h, ← hd]
    simp only [List.length_append, List.length_singleton, Nat.add_sub_add_right, List.append_assoc]

/-- A point below 25600 as `ss-ppp` (spec 00). -/
theorem pointText_eq {gp : Nat} (h : gp < 25600) : pointText gp = pointName gp := by
  have h1 : gp / 256 / 10 < 10 := by omega
  have h2 : gp % 256 / 10 / 10 < 10 := by omega
  have e1 : gp / 256 / 10 = gp / 2560 := by omega
  have e2 : gp % 256 / 10 / 10 = gp % 256 / 100 := by omega
  unfold pointText pointName
  show padded 2 (gp / 256) ++ '-' :: padded 3 (gp % 256) = _
  rw [padded_succ (w := 1) (by decide), padded_succ (w := 2) (by decide), padded_succ (w := 1) (by decide),
    padded_one h1, padded_one h2, e1, e2]
  rfl

/-- A net of the tester, or the point whose pseudo-net it is (R2, R149). -/
theorem netText_eq {n : Nat} (h : n < 10240) : netText n = netName n := by
  have hp : pointText (n - 4096) = pointName (n - 4096) := pointText_eq (by omega)
  show (if n ≤ 4095 then _ else chars "PIN " ++ pointText (n - 4096)) = _
  rw [hp, netName]
  exact if_congr Nat.lt_succ_iff.symm rfl rfl

end Sys2Proof.Machine
end

section
/-! CREDIT and LINE (R145, R151, R157 to R162), and the texts of the print lines (R149, R156, O42). -/

namespace Sys2Proof.Machine

/-! ## The frames -/

/-- A CREDIT of the printer adapter by general call is taken; any other changes the bus alone (R151). -/
theorem exec_credit {s : State} (r : Route) (count : Byte) (ht : takesFrames s = true) (hw : noFirstFrame s = true) :
    exec (.credit r count) s = .next (
      if r.src ≠ 30 ∨ r.dst ≠ 31 then { s with bus := heard s } else takeCredit count.toNat { s with bus := heard s }) := by
  refine congrArg Host.Outcome.next ((frameEnd_foreign _ _ s ht hw rfl).trans ?_)
  have hd : creditDelivered r = true ↔ ¬ (r.src ≠ 30 ∨ r.dst ≠ 31) := by
    rw [creditDelivered, Bool.and_eq_true, beq_iff_eq, beq_iff_eq, not_or, not_not, not_not]
    rfl
  by_cases hc : r.src ≠ 30 ∨ r.dst ≠ 31
  · rw [if_pos hc, if_neg fun k => hd.1 k hc]
  · rw [if_neg hc, if_pos (hd.2 hc)]

/-- A LINE that a station sent by general call (R52, R158). -/
theorem exec_line {r : Route} {s : State} (key : Value) (text : List Byte) (ht : takesRunFrame r s = true)
    (hw : noFirstFrame s = true) : exec (.line r key text) s =
      .next (takeLine r.src key { s with bus := frameSeen (onRoute r (.line key text)) s }) :=
  congrArg Host.Outcome.next (runFrame_taken _ _ ht hw)

/-! ## The texts -/

/-- The line of each record (R136, R149): the columns of `printLine`, with points and nets as the tester names
them. -/
theorem recordText_says (w : Defect) : recordSays w := by
  have point : ∀ {gp}, gp < 6144 → pointText gp = pointName gp := fun h => pointText_eq (by omega)
  cases w with
  | opn net gp => exact fun hn hg => printLine_says _ (netText_eq hn) (point hg) rfl
  | highResistance net gp r drive => exact fun hn hg => printLine_says _ (netText_eq hn) (point hg) rfl
  | short lo hi => exact fun hl hh => printLine_says _ (netText_eq hl) (netText_eq hh) rfl
  | leakage lo hi r => exact fun hl hh => printLine_says _ (netText_eq hl) (netText_eq hh) rfl
  | driveFault gp ref => exact fun hg => printLine_says _ rfl (point hg) rfl
  | undriven net => exact fun hn => printLine_says _ (netText_eq hn) rfl rfl
  | insulationFail net v i ir => exact fun hn => printLine_says _ (netText_eq hn) rfl rfl
  | breakdown net i ms => exact fun hn => printLine_says _ (netText_eq hn) rfl rfl
  | undervolt net v => exact fun hn => printLine_says _ (netText_eq hn) rfl rfl
  | notTested net why => exact fun hn => printLine_says _ (netText_eq hn) (by cases why <;> rfl) rfl
  | phaseSkipped => exact printLine_says _ rfl rfl rfl
  | runEnd cause loc =>
      have hcause : causeText cause = String.toList (match cause with
          | .stepTimeout => "TIMEOUT"
          | .aborted => "ABORTED"
          | .estop => "ESTOP"
          | .dischargeFault => "DISCHARGE"
          | .busFault => "BUS_FAULT") := by cases cause <;> rfl
      cases loc with
      | prepare => exact fun _ => printLine_says _ hcause rfl rfl
      | point gp => exact fun hg => printLine_says _ hcause (point hg) rfl
      | net n => exact fun hn => printLine_says _ hcause (netText_eq hn) rfl
      | station a => exact fun _ => printLine_says _ hcause rfl rfl

/-- Settles O42: a CREDIT and a LINE by their equations, the bid by `rebid_eq`; each text by `printLine_says`. -/
theorem creditAndLineMoveTheCounters : Obligations.CreditAndLineMoveTheCounters := by
  refine ⟨fun r count s ht hw => ⟨_, exec_credit r count ht hw, ?credit⟩,
    fun r key text s ht hw => ⟨_, exec_line key text ht hw, ?line⟩, fun s => ?next,
    fun s => ⟨recordText_says, fun _ => rfl, ?lost, ?header1, ?header2, ?footer1, ?footer2⟩⟩
  case credit =>
    split
    · rfl
    have hh : s.bus.held = false := takesFrames_not_held ht
    cases hp : s.print.pass
    · rw [takeCredit_noPass _ (s := { s with bus := heard s }) hp]
      exact ⟨rfl, rfl⟩
    · rw [takeCredit_pass _ (s := { s with bus := heard s }) hp hh (noneBegun_heard s)]
      exact ⟨rfl, rfl⟩
  case line =>
    have hh : s.bus.held = false := takesFrames_not_held (Bool.and_eq_true_iff.1 ht).1
    intro own p o a here ends counted seen u
    let v : State := { s with bus := seen }
    have hv : v.bus.held = false := (frameSeen_fields _ s).1.trans hh
    have hn : noneBegun v.bus.slot := frameSeen_noneBegun _ s
    by_cases hp : p.pass = false
    · have hends : ¬ ends := fun k => Bool.noConfusion (hp.symm.trans k.1)
      rw [takeLine_noPass _ _ (s := v) hp]
      simp only [if_neg hends, if_pos hp]
      exact ⟨rfl, rfl⟩
    have hpass : p.pass = true := by simpa using hp
    by_cases he : o = 14 ∧ a = 2
    · have hends : ends := ⟨hpass, he⟩
      rw [takeLine_ends _ _ (s := v) hpass he hn]
      simp only [if_pos hends, if_neg hp]
      exact ⟨rfl, .inl hends⟩
    · have hends : ¬ ends := fun k => he k.2
      rw [takeLine_bids _ _ (s := v) hpass he hv hn]
      simp only [if_neg hends, if_neg hp]
      exact ⟨rfl, .inr rfl⟩
  case next => rfl
  case lost => exact printLine_says _ rfl rfl rfl
  case header1 => exact printLine_says _ rfl rfl rfl
  case header2 => exact printLine_says _ rfl rfl rfl
  case footer1 => exact printLine_says _ rfl rfl rfl
  case footer2 => exact printLine_says _ rfl rfl rfl

end Sys2Proof.Machine
end

section
/-! Requests of the wrong form (R154, R169, O2), the events and their NOTICE (R178, R179, O9), and the delayed requests with CANCEL (R170,
R173, R177, O15). -/

namespace Sys2Proof.Machine

/-! ## Requests of the wrong form -/

/-- A request whose addressed form is refused with RANGE, at a station that takes it addressed (R169, R170). -/
theorem request_refused {h : Header} {s : State} (code : Nat) {act : Form → State → State} (ht : takesAddressed h s = true)
    (hw : noFirstFrame s = true) (ha : ∀ u, act .addressed u = refuse h code .range 0 u) :
    request h code act s = { s with bus := answered h (refusal h code .range 0) s } := by
  rw [request_addressed h code act s ht hw, ha]
  exact refuse_answers ht code .range 0

/-- A request whose general call is disregarded, at a station that takes it as one (R169). -/
theorem request_disregarded {h : Header} {s : State} (code : Nat) {act : Form → State → State} (ht : takesGeneral h s = true)
    (hw : noFirstFrame s = true) (ha : ∀ u, act .general u = u) : request h code act s = { s with bus := heard s } := by
  rw [request_general h code act s ht hw, ha]

/-- A station that takes frames listens (R41, R58). -/
theorem listening_of_takesFrames {s : State} (h : takesFrames s = true) : listening s = true :=
  (Bool.and_eq_true_iff.1 h).1

/-- Settles O2: each command's own branch for the form is the refusal, or leaves the station as it is. -/
theorem requestsOfTheWrongFormAreRefused : Obligations.RequestsOfTheWrongFormAreRefused := by
  refine ⟨fun c h k s hr ht hw hk => ?addressed, fun c h k s hr ht hw hk => ?general⟩
  case addressed =>
    have refused : ∀ code act, (∀ u, act .addressed u = refuse h code .range 0 u) →
        request h code act s = { s with bus := answered h (refusal h code .range 0) s } :=
      fun code _ ha => request_refused code ht hw ha
    have reset : ∀ full ids, resetFrame full h ids s = { s with bus := answered h (refusal h 22 .range 0) s } :=
      fun full ids => by
        rw [resetFrame_request full h ids (listening_of_takesFrames (takesFrames_of_taken (.inl ht)))]
        exact refused _ _ fun _ => rfl
    cases c <;> cases hr
    case resetRun => exact congrArg _ (reset false _)
    case resetFull => exact congrArg _ (reset true _)
    case assignRange | profileSegment | profileLength | setWatch | matrixOverrideFloat | matrixOverrideReturn
        | matrixOverrideOff | stopPrint | unknownRequest =>
      exact congrArg _ (refused _ _ fun _ => rfl)
    all_goals exact absurd hk (by simp)
  case general =>
    have disregarded : ∀ code act, (∀ u, act .general u = u) → request h code act s = { s with bus := heard s } :=
      fun code _ ha => request_disregarded code ht hw ha
    cases c <;> cases hr
    case assignNet | setBlocks | setSwitch | queryPoint | dumpPoints | dumpDefects | queryStatus | clearEvents
        | setNoticeMask | cancel | unknownRequest =>
      exact congrArg _ (disregarded _ _ fun _ => rfl)
    all_goals exact absurd hk (by simp)

/-! ## Events -/

/-- An event's bit as a status word is the power of two of its number (3.11, Codes). -/
theorem eventMask_eq (e : Event) : eventMask e = BitVec.ofNat 12 (2 ^ eventBit e) := by cases e <;> rfl

/-- Settles O9: `raise_only` gives the status, `raise_slot` the slot. -/
theorem eventSetsStatusAndNotice : Obligations.EventSetsStatusAndNotice := by
  intro e s st s1 f
  rw [raise_only, raise_slot, eventMask_eq]
  split <;> rfl

/-! ## The delayed requests -/

/-- A gp is not the station's own where its station part is another address (spec 00). -/
theorem not_owns_iff (s : State) (gp : Nat) : (!owns s gp) = true ↔ gp / 256 ≠ addr s := by
  rw [Bool.not_eq_true']
  exact decide_eq_false_iff_not

/-- A delayed request is in progress where the context is not none (R173). -/
theorem ctx_isSome_iff (s : State) : s.decoder.ctx.isSome = true ↔ s.decoder.ctx ≠ none := Option.isSome_iff_ne_none

/-- A refusal whose selector is a field of the request, the bus as the frame end left it. -/
theorem refuse_field_answers {h : Header} {s : State} (ht : takesAddressed h s = true) (code : Nat) (why : RefusalCode)
    (sel : Half) :
    refuse h code why sel.toNat { s with bus := heard s } = { s with bus := answered h (refusal h code why sel) s } := by
  rw [refuse_answers ht, half_toNat]

/-- The answer to CANCEL of a context in progress: its request code (R177). -/
def cancelAnswer (h : Header) (c : Context) : Payload := replyTo h 21 [byte (delayedCode c.kind)]

/-- The END marked cancelled of a context (R177). -/
def cancelEnd (s : State) (c : Context) : Frame :=
  ownFrame s c.requester (.answerEnd (byte (delayedCode c.kind)) c.tag (half c.sent) 1)

/-- A context cancelled at a station with no frame begun (R176, R177): no DATA stays, and the END is queued. -/
theorem cancelContext_eq (c : Context) {s : State} (hq : (s.bus.held || s.bus.silent) = false) (hn : noneBegun s.bus.slot) :
    cancelContext c s = { s with
      bus := { s.bus with slot := putFrame (cancelEnd s c) (s.bus.slot.filter fun e => entryKind e != 11) }
      decoder := { s.decoder with ctx := some { c with cancelled := true } } } := by
  unfold cancelContext
  rw [withdraw_noneBegun hn]
  exact queue_puts _ _ _ hq

/-- A filtered slot has no frame begun where the slot had none. -/
theorem noneBegun_filter {slot : List TxEntry} (h : noneBegun slot) (keep : TxEntry → Bool) : noneBegun (slot.filter keep) :=
  fun e he => h e (List.mem_filter.1 he).1

/-- A frame queued where none has begun waits in the slot. -/
theorem putFrame_waits_noneBegun {slot : List TxEntry} (h : noneBegun slot) (f : Frame) :
    ∃ e ∈ putFrame f slot, e.frame = f ∧ e.begun = false := ⟨freshEntry f, (mem_putFrame h f _).2 (.inl rfl), rfl, rfl⟩

/-- A CANCEL addressed to a station with a delayed request in progress (R177). -/
theorem exec_cancel_inProgress {h : Header} {s : State} {c : Context} (ht : takesAddressed h s = true)
    (hw : noFirstFrame s = true) (hc : s.decoder.ctx = some c) : exec (.cancel h) s = .next { s with
      bus := { heard s with
        slot := putFrame (cancelEnd s c) ((answered h (cancelAnswer h c) s).slot.filter fun e => entryKind e != 11) }
      decoder := { s.decoder with ctx := some { c with cancelled := true } } } := by
  have hq : (s.bus.held || s.bus.silent) = false := by
    simp only [takesAddressed, takesFrames, listening, Bool.and_eq_true, Bool.not_eq_true'] at ht
    simp [ht]
  refine congrArg Host.Outcome.next ((request_addressed h 21 _ s ht hw).trans ?_)
  simp only [hc]
  refine (congrArg (cancelContext c) (queue_answers ht (cancelAnswer h c) (u := { s with bus := heard s }) rfl rfl)).trans ?_
  exact cancelContext_eq c (s := { s with bus := answered h (cancelAnswer h c) s }) hq
    (noneBegun_putFrame (noneBegun_heard s) _)

/-- Settles O15: the checks of each request in the model's order are those of R170; CANCEL by `exec_cancel_inProgress`, its two
frames of different kinds. -/
theorem delayedRequestsOpenAndCancel : Obligations.DelayedRequestsOpenAndCancel := by
  refine ⟨fun h s ht hw => ⟨fun gp => ?queryPoint, fun first last => ?dumpPoints, ?dumpDefects⟩, fun h s ht hw => ?cancel⟩
  case queryPoint =>
    refine congrArg Host.Outcome.next ((request_addressed h 15 _ s ht hw).trans ?_)
    exact if_congr (not_owns_iff s _) (refuse_field_answers ht 15 .range gp)
      (if_congr (ctx_isSome_iff s) (refuse_answers ht 15 .busy 0) rfl)
  case dumpPoints =>
    refine congrArg Host.Outcome.next ((request_addressed h 16 _ s ht hw).trans ?_)
    exact if_congr (not_owns_iff s _) (refuse_field_answers ht 16 .range first)
      (if_congr (not_owns_iff s _) (refuse_field_answers ht 16 .range last)
        (if_congr .rfl (refuse_field_answers ht 16 .range first)
          (if_congr (ctx_isSome_iff s) (refuse_answers ht 16 .busy 0) rfl)))
  case dumpDefects =>
    refine congrArg Host.Outcome.next ((request_addressed h 17 _ s ht hw).trans ?_)
    exact if_congr (ctx_isSome_iff s) (refuse_answers ht 17 .busy 0) rfl
  case cancel =>
    cases hc : s.decoder.ctx with
    | none =>
        refine ⟨_, congrArg Host.Outcome.next ((request_addressed h 21 _ s ht hw).trans ?_), rfl⟩
        simp only [hc]
        exact queue_answers ht _ rfl rfl
    | some c =>
        have hreply : noneBegun (answered h (cancelAnswer h c) s).slot := noneBegun_putFrame (noneBegun_heard s) _
        have hothers := noneBegun_filter hreply fun e => entryKind e != 11
        refine ⟨_, exec_cancel_inProgress ht hw hc, rfl, ?_, putFrame_waits_noneBegun hothers _⟩
        obtain ⟨e, he, hf, hb⟩ := putFrame_waits_noneBegun (noneBegun_heard s) (ownFrame s h.src (cancelAnswer h c))
        have hk : entryKind e = 9 := congrArg (fun f : Frame => kindCode f.payload) hf
        refine ⟨e, (mem_putFrame hothers _ e).2 (.inr ⟨List.mem_filter.2 ⟨he, by simp [hk]⟩, ?_⟩), hf, hb⟩
        exact hk.trans_ne (by decide : 9 ≠ 12)

end Sys2Proof.Machine
end

section
/-! SUPPORT. The fields of an answer (3.11, Answer data): what `fieldAt` reads of bytes laid one after another, and the numbers that
bytes, two-byte and four-byte fields hold. -/

namespace Sys2Proof.Machine

/-! ## Numbers in fields -/

@[simp] theorem toNat_byte (n : Nat) : (byte n).toNat = n % 256 := BitVec.toNat_ofNat n 8

@[simp] theorem toNat_half (n : Nat) : (half n).toNat = n % 65536 := BitVec.toNat_ofNat n 16

@[simp] theorem toNat_wide (n : Nat) : (wide n).toNat = n % 4294967296 := BitVec.toNat_ofNat n 32

@[simp] theorem toNat_boolByte (b : Bool) : (boolByte b).toNat = b.toNat := by cases b <;> rfl

/-- A gp field holds the gp, and 65535 where it is absent (3.11, Codes). -/
@[simp] theorem toNat_gpField (g : Option Nat) : (gpField g).toNat = g.getD 65535 % 65536 := by
  cases g
  · rfl
  · exact toNat_half _

/-- A status or mask word in a two-byte field keeps its number (3.11). -/
@[simp] theorem toNat_statusField (x : BitVec 12) : (statusField x).toNat = x.toNat :=
  BitVec.toNat_setWidth_of_le (by decide)

@[simp] theorem toNat_addrByte (a : Addr) : (addrByte a).toNat = a.toNat := by
  rw [addrByte, toNat_byte, Nat.mod_eq_of_lt (by omega)]

/-- A number as a byte of an answer that is below 256 stands there whole. -/
theorem toNat_byte_of_lt {n : Nat} (h : n < 256) : (byte n).toNat = n := by rw [toNat_byte, Nat.mod_eq_of_lt h]

/-! ## Fields one after another -/

@[simp] theorem length_halfBytes (x : Half) : (halfBytes x).length = 2 := rfl

@[simp] theorem length_wideBytes (x : Wide) : (wideBytes x).length = 4 := rfl

/-- A field that begins after other bytes. -/
theorem fieldAt_append {a : List Byte} {m : Nat} (h : a.length = m) (d : List Byte) (k n : Nat) :
    fieldAt (a ++ d) (k + m) n = fieldAt d k n := by
  subst h
  rw [fieldAt, fieldAt, Nat.add_comm, ← List.drop_drop, List.drop_left]

/-- A field that ends before other bytes. -/
theorem fieldAt_append_left {a : List Byte} {k n : Nat} (h : k + n ≤ a.length) (d : List Byte) :
    fieldAt (a ++ d) k n = fieldAt a k n := by
  unfold fieldAt
  rw [List.drop_append_of_le_length (by omega), List.take_append_of_le_length (by simp; omega)]

@[simp] theorem fieldAt_cons_succ (x : Byte) (d : List Byte) (k n : Nat) : fieldAt (x :: d) (k + 1) n = fieldAt d k n := rfl

@[simp] theorem fieldAt_cons_zero (x : Byte) (d : List Byte) : fieldAt (x :: d) 0 1 = x.toNat := by simp [fieldAt]

/-- A field of one byte is the byte that stands there. -/
theorem fieldAt_single {d : List Byte} {k : Nat} {x : Byte} (h : d[k]? = some x) : fieldAt d k 1 = x.toNat := by
  obtain ⟨hk, rfl⟩ := List.getElem?_eq_some_iff.1 h
  rw [fieldAt, List.drop_eq_getElem_cons hk]
  exact fieldAt_cons_zero _ _

@[simp] theorem fieldAt_half_add (x : Half) (d : List Byte) (k n : Nat) :
    fieldAt (halfBytes x ++ d) (k + 2) n = fieldAt d k n := rfl

@[simp] theorem fieldAt_wide_add (x : Wide) (d : List Byte) (k n : Nat) :
    fieldAt (wideBytes x ++ d) (k + 4) n = fieldAt d k n := rfl

@[simp] theorem fieldAt_halfBytes (x : Half) : fieldAt (halfBytes x) 0 2 = x.toNat := by
  simp [fieldAt, halfBytes]
  omega

@[simp] theorem fieldAt_wideBytes (x : Wide) : fieldAt (wideBytes x) 0 4 = x.toNat := by
  simp [fieldAt, wideBytes]
  omega

@[simp] theorem fieldAt_half (x : Half) (d : List Byte) : fieldAt (halfBytes x ++ d) 0 2 = x.toNat := by
  rw [fieldAt_append_left (by simp), fieldAt_halfBytes]

@[simp] theorem fieldAt_wide (x : Wide) (d : List Byte) : fieldAt (wideBytes x ++ d) 0 4 = x.toNat := by
  rw [fieldAt_append_left (by simp), fieldAt_wideBytes]

/-- Bytes that are all 0 hold the number 0. -/
theorem fieldAt_zeros (n : Nat) : fieldAt (List.replicate n 0) 0 n = 0 := by
  have h : ∀ m, (List.replicate m (0 : Byte)).foldl (fun a b => a * 256 + b.toNat) 0 = 0 := fun m => by
    induction m with
    | zero => rfl
    | succ m ih => exact ih
  rw [fieldAt, List.drop_zero, List.take_of_length_le (by simp)]
  exact h n

/-! ## Records of one width -/

/-- Records of one width, one after another, take that width each. -/
theorem length_flatten_map {α : Type} {f : α → List Byte} {w : Nat} (hw : ∀ x, (f x).length = w) (l : List α) :
    (l.map f).flatten.length = w * l.length := by
  induction l with
  | nil => rfl
  | cons x rest ih => simp [hw, ih, Nat.mul_succ, Nat.add_comm]

/-- A field of one of several records of one width. -/
theorem fieldAt_flatten_map {α : Type} {f : α → List Byte} {w : Nat} (hw : ∀ x, (f x).length = w) {l : List α} {b : Nat} {x : α}
    (hx : l[b]? = some x) {j n : Nat} (hj : j + n ≤ w) (d : List Byte) :
    fieldAt ((l.map f).flatten ++ d) (j + w * b) n = fieldAt (f x) j n := by
  induction l generalizing b with
  | nil => simp at hx
  | cons y rest ih =>
      rw [List.map_cons, List.flatten_cons, List.append_assoc]
      cases b with
      | zero =>
          cases hx
          exact fieldAt_append_left (by rw [hw]; exact hj) _
      | succ b =>
          rw [Nat.mul_succ, ← Nat.add_assoc, fieldAt_append (hw y)]
          exact ih hx

end Sys2Proof.Machine
end

section
/-! QUERY STATUS and its five sections, CLEAR EVENTS and SET NOTICE MASK (R172, R180, O16). -/

namespace Sys2Proof.Machine

/-! ## Codes and flags of the sections -/

@[simp] theorem runStateCode_lt (x : RunState) : runStateCode x < 256 := by cases x <;> decide

@[simp] theorem overrideCode_lt (x : Override) : overrideCode x < 256 := by cases x <;> decide

@[simp] theorem delayedCode_lt (x : Delayed) : delayedCode x < 256 := by cases x <;> decide

@[simp] theorem kindNumber_lt (x : Kind) : kindNumber x < 256 := by cases x <;> decide

@[simp] theorem bandCode_lt : ∀ x, bandCode x < 256
  | none => by decide
  | some .invalid => by decide
  | some (.kind k) => kindNumber_lt k

@[simp] theorem hvStageCode_lt (x : HvStage) : hvStageCode x < 256 := by cases x <;> decide

@[simp] theorem verdictCode_lt (x : Verdict) : verdictCode x < 256 := by cases x <;> decide

@[simp] theorem passEndCode_lt (x : PassEnd) : passEndCode x < 256 := by cases x <;> decide

@[simp] theorem addr_lt (s : State) : addr s < 256 := Nat.lt_trans s.straps.adr.isLt (by decide)

/-- Five flags, one bit each, fit a byte. -/
theorem flags_lt (a b c d e : Bool) : a.toNat + 2 * b.toNat + 4 * c.toNat + 8 * d.toNat + 16 * e.toNat < 256 := by
  revert a b c d e
  decide

/-! ## Section 0, station and run -/

@[simp] theorem length_stepBytes (c : CurStep) : (stepBytes c).length = 4 := by cases c <;> rfl

@[simp] theorem fieldAt_stepBytes_add (c : CurStep) (d : List Byte) (k n : Nat) :
    fieldAt (stepBytes c ++ d) (k + 4) n = fieldAt d k n := fieldAt_append (length_stepBytes c) d k n

/-- The current step in an answer: its kind, its value and its driver (3.11, section 0). -/
theorem stepBytes_says (c : CurStep) (d : List Byte) :
    (fieldAt (stepBytes c ++ d) 0 1, fieldAt (stepBytes c ++ d) 1 2, fieldAt (stepBytes c ++ d) 3 1) =
      match c with
      | .none => (0, 0, 255)
      | .point gp driver => (1, gp % 65536, driver % 256)
      | .net n => (2, n % 65536, 255) := by
  cases c with
  | none => rfl
  | point gp driver => simp [stepBytes]
  | net n => simp [stepBytes]

/-- The offset in an answer, in two's complement (3.11, section 0). -/
theorem toNat_offsetByte (o : Int) : (offsetByte o).toNat = (o % 256).toNat := BitVec.toNat_ofInt o

@[simp] theorem length_contextBytes (c : Option Context) : (contextBytes c).length = 3 := by cases c <;> rfl

/-- The delayed request in progress in an answer: whether there is one, its request code and its requester (3.11, section 0). -/
theorem contextBytes_says (c : Option Context) :
    fieldAt (contextBytes c) 0 1 = c.isSome.toNat ∧
    (fieldAt (contextBytes c) 1 1, fieldAt (contextBytes c) 2 1) =
      match c with
      | none => (0, 0)
      | some c => (delayedCode c.kind, c.requester.toNat) := by
  cases c with
  | none => exact ⟨rfl, rfl⟩
  | some c => simp [contextBytes]

/-- Section 0 field by field (R172). -/
theorem statusStation_says (s : State) : stationSection s (0 :: statusStation s) := by
  have hstraps : s.straps.rate.toNat + 2 * s.straps.hvsrc.toNat + 4 * s.straps.autodet.toNat < 256 :=
    Nat.lt_of_le_of_lt (by omega) (flags_lt s.straps.rate s.straps.hvsrc s.straps.autodet false false)
  have hphases : s.run.sweepOn.toNat + 2 * s.run.insOn.toNat < 256 :=
    Nat.lt_of_le_of_lt (by omega) (flags_lt s.run.sweepOn s.run.insOn false false false)
  unfold stationSection
  simp [statusStation, toNat_offsetByte, hstraps, hphases, flags_lt]
  exact ⟨stepBytes_says _ _, contextBytes_says _⟩

/-! ## Section 1, parameters -/

@[simp] theorem length_watchBytes (s : State) (w : Option Watch) : (watchBytes s w).length = 3 := rfl

@[simp] theorem fieldAt_watchBytes_add (s : State) (w : Option Watch) (d : List Byte) (k n : Nat) :
    fieldAt (watchBytes s w ++ d) (k + 3) n = fieldAt d k n := rfl

/-- A watch slot in an answer: its flags, bit 2 set where it is armed, and its gp, 65535 where it is absent (R97; 3.11, section 1). -/
theorem watchBytes_says (s : State) (w : Option Watch) (d : List Byte) :
    (fieldAt (watchBytes s w ++ d) 0 1, fieldAt (watchBytes s w ++ d) 1 2) =
      match w with
      | none => (0, 65535)
      | some x => (1 + 2 * x.halt.toNat + (if x.gp / 256 = addr s then 4 else 0), x.gp % 65536) := by
  cases w with
  | none => rfl
  | some x =>
      have howns : 4 * (owns s x.gp).toNat = if x.gp / 256 = addr s then 4 else 0 := by
        unfold owns Config.pointCount
        split <;> simp [*]
      have hflags : 1 + 2 * x.halt.toNat + 4 * (owns s x.gp).toNat < 256 :=
        Nat.lt_of_le_of_lt (Nat.le_of_eq (by simp)) (flags_lt true x.halt (owns s x.gp) false false)
      rw [howns] at hflags
      simp [watchBytes, howns, hflags]

/-- Section 1 field by field (R172). -/
theorem statusParams_says (s : State) : paramSection s (1 :: statusParams s) := by
  have hlast := watchBytes_says s s.run.watch2 []
  rw [List.append_nil] at hlast
  unfold paramSection
  simp [statusParams, paramBytes, effectiveH]
  exact ⟨watchBytes_says s _ _, hlast⟩

/-! ## Section 2, blocks -/

theorem length_blockBytes (b : Block) : (blockBytes b).length = 4 := rfl

/-- A block record in an answer (3.11, section 2). -/
theorem blockBytes_says (b : Block) :
    fieldAt (blockBytes b) 0 1 = b.code.getD 0 % 256 ∧
    fieldAt (blockBytes b) 1 1 =
      (match b.band with
        | none => 255
        | some .invalid => 5
        | some (.kind k) => kindNumber k) ∧
    fieldAt (blockBytes b) 2 1 = kindNumber b.kind ∧
    fieldAt (blockBytes b) 3 1 = fittedCount b.kind + (if kindRated b.kind = true then 128 else 0) := by
  have hfitted : ∀ k, (fittedCount k + 128 * (kindRated k).toNat) % 256 =
      fittedCount k + (if kindRated k = true then 128 else 0) := fun k => by cases k <;> rfl
  simp [blockBytes, hfitted, Nat.mod_eq_of_lt]
  rcases b.band with _ | _ | _ <;> rfl

/-- Section 2 field by field, of eight block records and eight kinds set by hand (R172). -/
theorem statusBlocks_says (s : State) (h : blocksLawful s = true) : blockSection s (2 :: statusBlocks s) := by
  simp only [blocksLawful, Bool.and_eq_true, decide_eq_true_eq] at h
  obtain ⟨hrecords, hmanual⟩ := h
  have hlen : (blocksBytes s).length = 32 := by
    rw [blocksBytes, length_flatten_map length_blockBytes, hrecords]
    rfl
  have hskip : ∀ d k n, fieldAt (blocksBytes s ++ d) (k + 32) n = fieldAt d k n := fieldAt_append hlen
  have hrecord : ∀ b r d j, s.blocks.records[b]? = some r → j < 4 →
      fieldAt (2 :: (blocksBytes s ++ d)) (j + 1 + 4 * b) 1 = fieldAt (blockBytes r) j 1 := fun b r d j hr hj => by
    rw [Nat.add_right_comm, fieldAt_cons_succ]
    exact fieldAt_flatten_map length_blockBytes hr (by omega) d
  have hmanualKind : ∀ b k d, s.blocks.manual[b]? = some k →
      fieldAt (2 :: (blocksBytes s ++ (s.blocks.manual.map (fun k => byte (kindNumber k)) ++ d))) (33 + b) 1 = kindNumber k :=
    fun b k d hk => by
      have hb : b < (s.blocks.manual.map fun k => byte (kindNumber k)).length := by
        rw [List.length_map]
        exact (List.getElem?_eq_some_iff.1 hk).1
      rw [Nat.add_comm 33 b, fieldAt_cons_succ, hskip,
        fieldAt_single ((List.getElem?_append_left hb).trans (by rw [List.getElem?_map, hk]; rfl))]
      exact toNat_byte_of_lt (kindNumber_lt k)
  have hallowed : allowedCode s.blocks.allowed < 256 :=
    flags_lt s.blocks.allowed.std16 s.blocks.allowed.std32 s.blocks.allowed.hv16 s.blocks.allowed.hv32 false
  unfold blockSection
  simp only [statusBlocks, List.append_assoc]
  refine ⟨by simp [hlen, hmanual]; rfl, by simp, fun b _ r hr => ?records, fun b _ k hk => hmanualKind b k _ hk, ?allowed⟩
  case records =>
    obtain ⟨hcode, hband, hkind, hfitted⟩ := blockBytes_says r
    exact ⟨(hrecord b r _ 0 hr (by decide)).trans hcode, (hrecord b r _ 1 hr (by decide)).trans hband,
      (hrecord b r _ 2 hr (by decide)).trans hkind, (hrecord b r _ 3 hr (by decide)).trans hfitted⟩
  case allowed =>
    have hkinds : (s.blocks.manual.map fun k => byte (kindNumber k)).length = 8 := by simp [hmanual]; rfl
    rw [show 41 = 0 + 8 + 32 + 1 from rfl, fieldAt_cons_succ, hskip, fieldAt_append hkinds, fieldAt_cons_zero,
      toNat_byte_of_lt hallowed]
    rfl

/-! ## Section 3, insulation -/

/-- Section 3 field by field, with a measured result and without (R172). -/
theorem statusHv_says (s : State) : engineSection s (3 :: statusHv s) := by
  unfold engineSection
  cases hh : s.straps.hvsrc
  · simp [statusHv, hh]
  · cases hr : s.hv.result with
    | none =>
        simp [statusHv, hh, hr]
        exact ⟨rfl, rfl, rfl, rfl⟩
    | some r => simp [statusHv, hh, hr]

/-! ## Section 4, list and print -/

/-- The twelve class counts of section 4 (R148). -/
def classCounts (s : State) : List Byte := ((List.range 12).map fun k => halfBytes (half (classCount s (k + 1)))).flatten

@[simp] theorem length_classCounts (s : State) : (classCounts s).length = 24 := by
  rw [classCounts, length_flatten_map fun _ => length_halfBytes _]
  rfl

@[simp] theorem fieldAt_classCounts_add (s : State) (d : List Byte) (k n : Nat) :
    fieldAt (classCounts s ++ d) (k + 24) n = fieldAt d k n := fieldAt_append (length_classCounts s) d k n

/-- The count of each class order stands at its place. -/
theorem classCounts_says (s : State) (d : List Byte) {k : Nat} (hk : k < 12) :
    fieldAt (classCounts s ++ d) (2 * k) 2 = classCount s (k + 1) % 65536 := by
  have h := fieldAt_flatten_map (f := fun k => halfBytes (half (classCount s (k + 1)))) (fun _ => length_halfBytes _)
    (List.getElem?_range hk) (j := 0) (n := 2) (Nat.le_refl _) d
  rw [Nat.zero_add, fieldAt_halfBytes, toNat_half] at h
  exact h

/-- Section 4 field by field (R172). -/
theorem statusList_says (s : State) : listSection s (4 :: statusList s) := by
  have hcount : ∀ k < 12, ∀ d, fieldAt (4 :: (halfBytes (half s.defects.records.length) ++ (classCounts s ++ d))) (3 + 2 * k) 2 =
      classCount s (k + 1) % 65536 := fun k hk d => by
    rw [Nat.add_comm 3 (2 * k), fieldAt_cons_succ, fieldAt_half_add, classCounts_says s d hk]
  unfold listSection
  rw [statusList, ← classCounts]
  simp
  exact fun k hk => hcount k hk _

/-! ## The requests -/

/-- A section is told of where its number is at most 4 (R172). -/
theorem statusData_isSome (s : State) (n : Nat) : (statusData s n).isSome = true ↔ n ≤ 4 := by
  rcases n with _ | _ | _ | _ | _ | n
  case succ.succ.succ.succ.succ => exact ⟨fun h => Bool.noConfusion h, fun h => absurd h (by omega)⟩
  all_goals exact ⟨fun _ => by decide, fun _ => rfl⟩

/-- A section begins with its number (3.11). -/
theorem statusData_head {s : State} {n : Nat} {d : List Byte} (h : statusData s n = some d) : d.head? = some (byte n) := by
  rcases n with _ | _ | _ | _ | _ | n <;> cases h <;> rfl

/-- QUERY STATUS addressed to the station: the section as it stands, or a refusal (R172). -/
theorem exec_queryStatus_addressed {h : Header} {s : State} (part : Byte) (ht : takesAddressed h s = true)
    (hw : noFirstFrame s = true) : exec (.queryStatus h part) s = .next { s with
      bus := answered h
        (match statusData s part.toNat with
          | some d => replyTo h 18 d
          | none => refusal h 18 .range (half part.toNat)) s } := by
  refine congrArg Host.Outcome.next ((request_addressed h 18 _ s ht hw).trans ?_)
  have hsame : statusData { s with bus := heard s } part.toNat = statusData s part.toNat := rfl
  simp only [hsame]
  cases statusData s part.toNat with
  | some d => exact queue_answers ht _ rfl rfl
  | none => exact refuse_answers ht 18 .range _

/-- Settles O16: the answer is the section's data, which `statusStation_says` to `statusList_says` read field by field; the two event
requests write one word each and answer. -/
theorem statusAndEventRequests : Obligations.StatusAndEventRequests := by
  refine ⟨fun h part s ht hw => ⟨exec_queryStatus_addressed part ht hw, statusData_isSome s _, ?head⟩,
    fun s d => ⟨fun hd => ?station, fun hd => ?params, fun hd hl => ?blocks, fun hd => ?engine, fun hd => ?list⟩,
    fun h bits s ht hw => ⟨?clearEvents, ?setNoticeMask⟩⟩
  case head =>
    cases hd : statusData s part.toNat with
    | none => rfl
    | some d =>
        have hpart : byte part.toNat = part := BitVec.ofNat_toNat 8 part
        simpa [hpart] using statusData_head hd
  case station => cases hd; exact statusStation_says s
  case params => cases hd; exact statusParams_says s
  case blocks => cases hd; exact statusBlocks_says s hl
  case engine => cases hd; exact statusHv_says s
  case list => cases hd; exact statusList_says s
  case clearEvents =>
    refine congrArg Host.Outcome.next ((request_addressed h 19 _ s ht hw).trans ?_)
    exact queue_answers ht _ rfl rfl
  case setNoticeMask =>
    refine congrArg Host.Outcome.next ((request_addressed h 20 _ s ht hw).trans ?_)
    exact queue_answers ht _ rfl rfl

end Sys2Proof.Machine
end

section
/-! RESET RUN and RESET FULL as general calls at a station that has left HELD (R183, R164, O17). -/

namespace Sys2Proof.Machine

/-- The bus fields after a reset: no frame pending, no bid window test, no error counted (R183). -/
def busReset (b : Bus) : Bus := { b with slot := [], window := .off, silent := false, errors := 0 }

/-- The station after a reset of either scope, before the detection of a RESET FULL (R183): the values that a release from HELD sets,
but for the bus. -/
def resetDone (full : Bool) (s : State) : State := { released full s with bus := busReset s.bus }

/-- The following stage entered, as one change of the state (R129). -/
theorem enterFollowing_eq (s : State) : enterFollowing s = { s with
    hv := if s.straps.hvsrc = true then { s.hv with stage := .following, setpoint := 0, hven := false } else s.hv } := by
  unfold enterFollowing
  split <;> rfl

/-- What both scopes set, whatever the bus fields are. -/
theorem resetRunState_bus (b : Bus) (s : State) : resetRunState (enterFollowing (forcedFloat { s with bus := b })) =
    { resetRunState (enterFollowing (forcedFloat s)) with bus := busReset b } := by
  rw [enterFollowing_eq, enterFollowing_eq]
  rfl

/-- RESET RUN sets the values of its scope and detects nothing (R183). -/
theorem resetStation_run (ids : IdCodes) (s : State) : resetStation false ids s = resetDone false s := by
  have h := resetRunState_bus s.bus { s with bus := { s.bus with held := false, resetCount := 0 } }
  rw [resetRunState_released] at h
  exact h

/-- RESET FULL sets the power-up values and detects last, every event masked (R12, R183, R184). -/
theorem resetStation_full (ids : IdCodes) (s : State) : resetStation true ids s = { resetDone true s with
    blocks := if s.straps.autodet = true then
        { Blocks.powerUp with records := ids.toList.map (detectBlock Blocks.powerUp.allowed) } else Blocks.powerUp
    decoder := { Decoder.powerUp with
      status := if s.straps.autodet = true then foundBits Blocks.powerUp.allowed ids else 0 } } := by
  have hfull : resetFullState (resetDone false s) = resetDone true s :=
    congrArg (fun t : State => { t with bus := busReset s.bus }) (resetFullState_released s)
  have hstation : resetStation true ids s = detect ids (resetDone true s) :=
    congrArg (detect ids) ((congrArg resetFullState (resetStation_run ids s)).trans hfull)
  rw [hstation, detect_masked ids rfl rfl]
  rfl

/-- While every kind is allowed a detection finds no adapter to reject: ADAPTER_FAULT alone can occur (R13). -/
theorem foundBits_powerUp (ids : IdCodes) : foundBits Blocks.powerUp.allowed ids =
    if ids.toList.any (fun c => decide (c.toNat < 32)) = true then 32 else 0 := by
  have hnone : ∀ b, rejected Blocks.powerUp.allowed b = false := fun b => by
    rcases b with k | _
    · cases k <;> rfl
    · rfl
  have hany : ids.toList.any (fun c => rejected Blocks.powerUp.allowed (bandOf c.toNat)) = false :=
    List.any_eq_false.2 fun c _ => by simp [hnone]
  unfold foundBits
  rw [hany]
  exact BitVec.zero_or

/-- A RESET taken as a general call, the first frame of a bid window or not: it leaves no phase for that frame to end (R56, R183). -/
theorem resetFrame_general (full : Bool) {h : Header} (ids : IdCodes) {s : State} (ht : takesGeneral h s = true) :
    resetFrame full h ids s = resetStation full ids { s with bus := heard s } := by
  have hf : takesFrames s = true := takesFrames_of_taken (.inr ht)
  rw [resetFrame_request full h ids (listening_of_takesFrames hf), request_taken h 22 _ hf, (formOf_general ht).2]
  simp only [firstFrame_inactive 8 (resetStation_inactive full ids _), ite_self]

/-- Every point record after a reset (R1). -/
theorem eachPoint_resetTo (full : Bool) {s t : State} (h : t.points = (released full s).points) :
    eachPoint s t fun _ p => resetTo full p := by
  refine ⟨by rw [h]; exact mapPoints_length (fun _ p => resetTo full p) s, fun j hj => ?_⟩
  rw [pointAt_congr h]
  exact pointAt_mapPoints (fun _ p => resetTo full p) s j hj

/-- Settles O17: `resetStation_run` and `resetStation_full` on the station as the frame end leaves it. -/
theorem resetSetsItsScope : Obligations.ResetSetsItsScope := by
  refine ⟨fun h ids s ht => ⟨_, congrArg Host.Outcome.next (resetFrame_general false ids ht), ?run⟩,
    fun h ids s ht => ⟨_, congrArg Host.Outcome.next (resetFrame_general true ids ht), ?full⟩⟩
  case run =>
    rw [resetStation_run]
    exact ⟨eachPoint_resetTo false (s := s) rfl, rfl⟩
  case full =>
    rw [resetStation_full, foundBits_powerUp]
    refine ⟨eachPoint_resetTo true (s := s) rfl, rfl, ?_⟩
    cases s.straps.autodet <;> exact ⟨rfl, rfl⟩

end Sys2Proof.Machine
end

section
/-! The delayed-request service (R174), the DATA and the END that the station sent (R174, R176), and the items of points and defects
(R175, R176) (O43). -/

namespace Sys2Proof.Machine

/-! ## The service -/

/-- The first entry above the last key sent; before any was sent, every entry is above it (R176). -/
theorem entryAbove_eq (s : State) (k : Option Ident) :
    entryAbove s k = (listEntries s).find? fun e => k.all fun i => identLt i (entryIdent s e) := by
  cases k with
  | none => cases hl : listEntries s <;> simp [entryAbove, hl]
  | some i => rfl

/-- The item that the service sends next is the one due (R175, R176). -/
theorem nextItem_eq (s : State) (c : Context) : nextItem s c = dueItem s c := by
  unfold nextItem dueItem
  cases c.kind
  case dumpDefects => rw [if_pos rfl, entryAbove_eq]
  all_goals rfl

/-- A frame of a kind is pending where an entry of that kind stands in the slot (R43). -/
theorem hasPending_iff (s : State) (k : Nat) : hasPending s k = true ↔ ∃ e ∈ s.bus.slot, entryKind e = k := by
  simp [hasPending, slotEntry]

/-- A frame queued while none of its kind has begun waits in the slot (R43). -/
theorem putFrame_waits {f : Frame} {slot : List TxEntry}
    (h : (slot.find? fun e => entryKind e == kindCode f.payload).any TxEntry.begun = false) :
    ∃ e ∈ putFrame f slot, e.frame = f ∧ e.begun = false := by
  have hput : putFrame f slot = insertEntry (freshEntry f) slot := by
    unfold putFrame
    split
    · rename_i e he
      rw [he] at h
      exact if_neg (by simpa using h)
    · rfl
  exact ⟨freshEntry f, by rw [hput, mem_insertEntry]; exact .inl rfl, rfl, rfl⟩

/-- The service of a context that may send (R174): the DATA due, or the END where none is due and no END has begun. -/
theorem serve_eq {s : State} {c : Context} (hq : (s.bus.held || s.bus.silent) = false) (hc : s.decoder.ctx = some c)
    (hd : ¬ (s.lines.holdOut = true ∨ c.cancelled = true ∨ ∃ e ∈ s.bus.slot, entryKind e = 11)) :
    serve s = match dueItem s c with
      | some (n, bytes, key) => withFrame c.requester (.data (byte (delayedCode c.kind)) c.tag (half n) bytes)
          { s with decoder := { s.decoder with ctx := some { c with sending := key, formed := true } } }
      | none => if ((slotEntry s 12).any TxEntry.begun) = true then s
          else withFrame c.requester (.answerEnd (byte (delayedCode c.kind)) c.tag (half c.sent) 0) s := by
  have hfree : ¬ (s.lines.holdOut || c.cancelled || hasPending s 11) = true := by
    rwa [Bool.or_eq_true, Bool.or_eq_true, hasPending_iff, or_assoc]
  unfold serve
  simp only [hc, if_neg hfree, nextItem_eq]
  cases dueItem s c with
  | some item => exact queue_puts _ _ _ hq
  | none => exact if_congr .rfl rfl (queue_puts _ _ _ hq)

/-- A service that may not send leaves the station as it is (R174). -/
theorem serve_waits {s : State} {c : Context} (hc : s.decoder.ctx = some c)
    (hd : s.lines.holdOut = true ∨ c.cancelled = true ∨ ∃ e ∈ s.bus.slot, entryKind e = 11) : serve s = s := by
  have hfree : (s.lines.holdOut || c.cancelled || hasPending s 11) = true := by
    rwa [Bool.or_eq_true, Bool.or_eq_true, hasPending_iff, or_assoc]
  unfold serve
  simp only [hc, if_pos hfree]

/-! ## DATA and END sent -/

/-- A DATA sent clean, as one change of the state (R174, R176). -/
theorem dataSent_eq (s : State) : dataSent s = { s with decoder := { s.decoder with ctx := s.decoder.ctx.map fun c =>
    if c.formed = true then
      { c with
        sent := c.sent + 1, cursor := c.cursor + 1
        lastKey := if c.kind = .dumpDefects then c.sending else c.lastKey, formed := false }
    else c } } := by
  have hsame : ∀ x, s.decoder.ctx = x → s = { s with decoder := { s.decoder with ctx := x } } := fun _ h => by rw [← h]
  unfold dataSent
  cases hc : s.decoder.ctx with
  | none => exact hsame none hc
  | some c =>
      rw [Option.map_some]
      by_cases hf : c.formed = true
      · simp only [if_pos hf]
        rfl
      · simp only [if_neg hf]
        exact hsame (some c) hc

/-- A clean frame of any sender that is no first frame of a bid window, at a station that takes frames (R42). -/
theorem frameEnd_taken (f : Frame) (act : Bool → State → State) {s : State} (ht : takesFrames s = true)
    (hw : noFirstFrame s = true) : frameEnd f act s = act (isOwn f s) { s with bus := frameSeen f s } := by
  obtain ⟨hi, hh⟩ : s.bus.integrated = true ∧ s.bus.held = false := by simpa [listening] using listening_of_takesFrames ht
  exact frameEnd_seen f act hi hh hw

section
variable (r : Route) (code tag : Byte) {s : State} (ht : takesFrames s = true) (hw : noFirstFrame s = true)
include ht hw

/-- A clean DATA counts at the station that sent it (R174, R176). -/
theorem exec_dataFrame (cursor : Half) (item : List Byte) : exec (.dataFrame r code tag cursor item) s = .next (
    if isOwn (onRoute r (.data code tag cursor item)) s = true then
      dataSent { s with bus := frameSeen (onRoute r (.data code tag cursor item)) s }
    else { s with bus := frameSeen (onRoute r (.data code tag cursor item)) s }) :=
  congrArg Host.Outcome.next (frameEnd_taken _ _ ht hw)

/-- A clean END ends the context of the station that sent it (R174). -/
theorem exec_endFrame (count : Half) (mark : Byte) : exec (.endFrame r code tag count mark) s = .next (
    if isOwn (onRoute r (.answerEnd code tag count mark)) s = true then
      setContext none { s with bus := frameSeen (onRoute r (.answerEnd code tag count mark)) s }
    else { s with bus := frameSeen (onRoute r (.answerEnd code tag count mark)) s }) :=
  congrArg Host.Outcome.next (frameEnd_taken _ _ ht hw)

end

/-! ## The items -/

@[simp] theorem roleCode_lt (x : Role) : roleCode x < 256 := by cases x <;> decide

@[simp] theorem switchCode_lt (x : Switch) : switchCode x < 256 := by cases x <;> decide

@[simp] theorem classCode_lt (x : Class) : classCode x < 256 := by cases x <;> decide

@[simp] theorem insStateCode_lt (x : InsState) : insStateCode x < 256 := by cases x <;> decide

@[simp] theorem reasonCode_lt (x : BarReason) : reasonCode x < 256 := by cases x <;> decide

@[simp] theorem markCode_lt (x : Mark) : markCode x < 256 := by cases x <;> decide

@[simp] theorem classOrder_lt (x : Defect) : classOrder x < 256 := by cases x <;> simp [classOrder]

/-- A code that may be absent fits a byte (3.11, Codes). -/
theorem codeOr_lt {α : Type} {code : α → Nat} (hc : ∀ x, code x < 256) {d : Nat} (hd : d < 256) (x : Option α) :
    (x.map code).getD d < 256 := by
  cases x
  · exact hd
  · exact hc _

/-- Five bits stand at their places. -/
theorem testBit_fiveBits : ∀ a b c d e : Bool, let n := a.toNat + 2 * b.toNat + 4 * c.toNat + 8 * d.toNat + 16 * e.toNat
    n < 32 ∧ n.testBit 0 = a ∧ n.testBit 1 = b ∧ n.testBit 2 = c ∧ n.testBit 3 = d ∧ n.testBit 4 = e := by decide

/-- The states admitted as five bits, one at the place of each code (3.11, point item). -/
theorem admittedBits_says (s : State) (i : Nat) (p : Point) :
    admittedBits s i p < 32 ∧ ∀ t, (admittedBits s i p).testBit (switchCode t) = admitsPoint s i p t := by
  have hbits : admittedBits s i p = (admitsPoint s i p .float).toNat + 2 * (admitsPoint s i p .sense).toNat
      + 4 * (admitsPoint s i p .drive).toNat + 8 * (admitsPoint s i p .hv).toNat + 16 * (admitsPoint s i p .ret).toNat := by
    simp [admittedBits, switchCode]
    ring
  obtain ⟨hlt, hfloat, hsense, hdrive, hhv, hret⟩ := testBit_fiveBits (admitsPoint s i p .float) (admitsPoint s i p .sense)
    (admitsPoint s i p .drive) (admitsPoint s i p .hv) (admitsPoint s i p .ret)
  rw [hbits]
  refine ⟨hlt, fun t => ?_⟩
  cases t
  case float => exact hfloat
  case sense => exact hsense
  case drive => exact hdrive
  case hv => exact hhv
  case ret => exact hret

/-- The last classification in an item (3.11, point item). -/
theorem lastReading_says (x : Option LastReading) :
    ((x.map fun x => classCode x.cls).getD 255 % 256, (x.map LastReading.r).getD 0 % 65536) =
      match x with
      | none => (255, 0)
      | some x => (classCode x.cls, x.r % 65536) := by
  cases x
  · rfl
  · simp

@[simp] theorem length_entryBytes (e : Option NetEntry) : (entryBytes e).length = 6 := by cases e <;> rfl

/-- The Net Map entry in an item (3.11, point item). -/
theorem entryBytes_says (e : Option NetEntry) :
    (fieldAt (entryBytes e) 0 1, fieldAt (entryBytes e) 1 2, fieldAt (entryBytes e) 3 2, fieldAt (entryBytes e) 5 1) =
      match e with
      | none => (255, 0, 0, 0)
      | some e => (insStateCode e.state, e.count % 65536, e.leader.getD 65535 % 65536, (e.reason.map reasonCode).getD 0) := by
  cases e with
  | none => rfl
  | some e => simp [entryBytes, codeOr_lt]

/-- The effective net of a record (R2). -/
theorem effNetOf_eq (s : State) (i : Nat) (p : Point) :
    effNetOf s i p = if p.net = 0 then 4096 + addr s * 256 + i else p.net :=
  if_congr .rfl (Nat.add_assoc 4096 _ _).symm rfl

/-- The point item field by field (R175). -/
theorem pointItem_says (s : State) (gp : Nat) : pointItemSays s gp (pointItem s gp) := by
  obtain ⟨hlt, hbit⟩ := admittedBits_says s (gp % 256) (pointAt s (gp % 256))
  have hover : 8 * (s.matrix.override != .none).toNat = if s.matrix.override = .none then 0 else 8 := by
    cases s.matrix.override <;> rfl
  have hflags : (fitted s (gp % 256)).toNat + 2 * (rated s (gp % 256)).toNat + 4 * (busy s (pointAt s (gp % 256))).toNat
      + 8 * (s.matrix.override != .none).toNat < 256 :=
    Nat.lt_of_le_of_lt (by omega) (flags_lt (fitted s (gp % 256)) (rated s (gp % 256)) (busy s (pointAt s (gp % 256)))
      (s.matrix.override != .none) false)
  rw [hover] at hflags
  unfold pointItemSays
  simp [pointItem, localOf, Config.pointCount, Config.blockPoints, effNetOf_eq, codeOr_lt, hflags,
    Nat.mod_eq_of_lt (Nat.lt_trans hlt (by decide : 32 < 256)), hlt, hbit, hover]
  exact ⟨lastReading_says _, entryBytes_says _⟩

/-! ## The defect item -/

@[simp] theorem length_keyBytes (k : Value) : (keyBytes k).length = 5 := rfl

@[simp] theorem fieldAt_keyBytes_add (k : Value) (d : List Byte) (j n : Nat) :
    fieldAt (keyBytes k ++ d) (j + 5) n = fieldAt d j n := fieldAt_append (length_keyBytes k) d j n

/-- The key in an item (3.11, defect item). -/
@[simp] theorem fieldAt_keyBytes (k : Value) (d : List Byte) : fieldAt (keyBytes k ++ d) 0 5 = k.toNat := by
  rw [fieldAt_append_left (by simp)]
  have hk := k.isLt
  simp [fieldAt, keyBytes, wideBytes]
  omega

@[simp] theorem length_bodyBytes (w : Defect) : (bodyBytes w).length = 8 := by cases w <;> rfl

@[simp] theorem fieldAt_bodyBytes_add (w : Defect) (d : List Byte) (k n : Nat) :
    fieldAt (bodyBytes w ++ d) (k + 8) n = fieldAt d k n := fieldAt_append (length_bodyBytes w) d k n

/-- The key of an entry as a number (R137, R144). -/
theorem toNat_entryKey (s : State) (e : ListEntry) : (entryKey s e).toNat =
    ((entryIdent s e).order * 8589934592 + (entryIdent s e).a * 524288 + (entryIdent s e).b * 32 + addr s) % 137438953472 :=
  BitVec.toNat_ofNat _ 37

/-- Bytes that are all 0, before others. -/
theorem fieldAt_zeros_append (n : Nat) (d : List Byte) : fieldAt (List.replicate n 0#8 ++ d) 0 n = 0 := by
  rw [fieldAt_append_left (by simp)]
  exact fieldAt_zeros n

/-- The body of a record, after the ten bytes before it (R136, R176). -/
theorem bodyBytes_says (w : Defect) {head : List Byte} (hh : head.length = 10) (d : List Byte) :
    bodySays w (head ++ bodyBytes w ++ d) := by
  have hskip : ∀ d k n, fieldAt (head ++ d) (k + 10) n = fieldAt d k n := fieldAt_append hh
  cases w <;> simp [bodySays, bodyBytes, hskip, -List.reduceReplicate, fieldAt_zeros_append]

/-- The key of the LOST record (R144). -/
theorem toNat_entryKey_lost (s : State) :
    (entryKey s .lost).toNat = 13 * 8589934592 + addr s * 524288 + addr s := by
  have haddr := addr_lt s
  rw [toNat_entryKey]
  simp only [entryIdent]
  omega

/-- The key stands first in an item. -/
theorem fieldAt_defectItem_key (s : State) (e : ListEntry) : fieldAt (defectItem s e) 0 5 = (entryKey s e).toNat := by
  simp only [defectItem, List.append_assoc, fieldAt_keyBytes]

/-- The defect item field by field (R137, R144, R176). -/
theorem defectItem_says (s : State) (e : ListEntry) : defectItemSays s e (defectItem s e) := by
  cases e with
  | stored r =>
      refine ⟨by simp [defectItem], ?key, ?order, ?a, ?b, bodyBytes_says r.what rfl _, ?mark⟩
      case key => exact (fieldAt_defectItem_key s _).trans (toNat_entryKey s _)
      case order => simp [defectItem, entryIdent, identOf]
      case a => simp [defectItem, entryIdent]
      case b => simp [defectItem, entryIdent]
      case mark => simp [defectItem, entryMark]
  | lost =>
      have haddr : addr s < 65536 := Nat.lt_trans (addr_lt s) (by decide)
      refine ⟨by simp [defectItem], ?key, ?order, ?a, ?b, ?count, ?zeros, ?mark⟩
      case key => exact (fieldAt_defectItem_key s _).trans (toNat_entryKey_lost s)
      case order => simp [defectItem, entryIdent]
      case a => simp [defectItem, entryIdent, haddr]
      case b => simp [defectItem, entryIdent]
      case count => simp [defectItem]
      case zeros => simp [defectItem, -List.reduceReplicate, fieldAt_zeros_append]
      case mark => simp [defectItem, entryMark]

/-! ## The statement -/

/-- A kind that is not pending has no entry (R43). -/
theorem slotEntry_eq_none {s : State} {k : Nat} (h : ¬ ∃ e ∈ s.bus.slot, entryKind e = k) : slotEntry s k = none :=
  List.find?_eq_none.2 fun e he hk => h ⟨e, he, by simpa using hk⟩

/-- Settles O43: the service by `serve_eq`, the frames by `frameEnd_seen`, the items by `pointItem_says` and `defectItem_says`. -/
theorem delayedServiceSendsItems : Obligations.DelayedServiceSendsItems := by
  refine ⟨fun s hh hs => ⟨serve s, rfl, ?service⟩,
    fun r code tag s ht hw => ⟨fun cursor item => ?data, fun count mark => ?answerEnd⟩,
    fun s => ⟨pointItem_says s, defectItem_says s⟩⟩
  case service =>
    cases hc : s.decoder.ctx with
    | none =>
        unfold serve
        simp only [hc]
    | some c =>
        simp only
        split
        next hd => exact serve_waits hc hd
        next hd =>
          rw [serve_eq (by simp [hh, hs]) hc hd]
          cases dueItem s c with
          | some item =>
              have hnone : slotEntry s 11 = none := slotEntry_eq_none fun k => hd (.inr (.inr k))
              exact ⟨rfl, putFrame_waits (congrArg (Option.any TxEntry.begun) hnone)⟩
          | none =>
              simp only
              split
              · rfl
              · rename_i hn
                exact ⟨rfl, putFrame_waits (slot := s.bus.slot) (Bool.eq_false_iff.2 hn)⟩
  case data =>
    rw [exec_dataFrame r code tag ht hw, dataSent_eq]
    cases hown : isOwn (onRoute r (.data code tag cursor item)) s <;> simp only [hown] <;> rfl
  case answerEnd =>
    rw [exec_endFrame r code tag ht hw]
    cases hown : isOwn (onRoute r (.answerEnd code tag count mark)) s <;> simp only [hown] <;> rfl

end Sys2Proof.Machine
end
